-- ==== Sys2Proof/Word.lean ====
section
/-! DEFINITION. The word types of the Humbral HX-8 model and their plainest arithmetic: bytes, tags, the numbers of ports,
lines, segments and profiles, a bank of a fixed number of like things, and the three references' triple. -/

namespace Sys2Proof

/-- A byte of a client frame or of a time-of-day message. -/
abbrev Byte := BitVec 8

/-- The 32-bit tag of a request frame (R149). -/
abbrev Tag := BitVec 32

/-- A client port, P0 to P7. -/
abbrev Port := Fin 8

/-- A capture line CAP0 to CAP7 or an event output line EVT0 to EVT7. -/
abbrev Line := Fin 8

/-- A segment id, 0 to 63. -/
abbrev SegId := Fin 64

/-- A segment profile number, 0 to 3. -/
abbrev ProfileId := Fin 4

/-- A value of XT or of an instant measured against it, in whole ns. It is an integer because a step back may carry an
instant held by a Reference Monitor below 0 (R29). -/
abbrev Ns := Int

/-- A fixed number of like things: exactly `n` values, in order. -/
structure Bank (n : Nat) (α : Type) where
  toList : List α
  len : toList.length = n
  deriving DecidableEq, Repr

namespace Bank

variable {n : Nat} {α β : Type}

/-- The value at place `i`. -/
def get (b : Bank n α) (i : Fin n) : α := b.toList[i.val]'(by rw [b.len]; exact i.isLt)

/-- The bank with `x` at place `i` and every other place as it was. -/
def set (b : Bank n α) (i : Fin n) (x : α) : Bank n α := ⟨b.toList.set i.val x, by simp [b.len]⟩

/-- The bank that holds `f i` at each place `i`. -/
def ofFn (f : Fin n → α) : Bank n α := ⟨List.ofFn f, by simp⟩

/-- `f` applied at every place. -/
def map (f : α → β) (b : Bank n α) : Bank n β := ⟨b.toList.map f, by simp [b.len]⟩

/-- `f`, which also sees the place's number, applied at every place. -/
def mapFin (f : Fin n → α → β) (b : Bank n α) : Bank n β := ofFn fun i => f i (b.get i)

/-- Whether `p` holds at some place. -/
def any (p : α → Bool) (b : Bank n α) : Bool := b.toList.any p

end Bank

/-- The three reference inputs. -/
inductive RefId where
  | refA
  | refB
  | refC
  deriving DecidableEq, Repr

/-- One value for each reference input. -/
structure PerRef (α : Type) where
  a : α
  b : α
  c : α
  deriving DecidableEq, Repr

namespace PerRef

variable {α β : Type}

/-- The value of reference `r`. -/
def get (p : PerRef α) : RefId → α
  | .refA => p.a
  | .refB => p.b
  | .refC => p.c

/-- The triple with `x` for reference `r`. -/
def set (p : PerRef α) (r : RefId) (x : α) : PerRef α :=
  match r with
  | .refA => { p with a := x }
  | .refB => { p with b := x }
  | .refC => { p with c := x }

/-- `f` applied to each reference's value. -/
def map (f : α → β) (p : PerRef α) : PerRef β := ⟨f p.a, f p.b, f p.c⟩

/-- `f`, which also sees the reference, applied to each value. -/
def mapRef (f : RefId → α → β) (p : PerRef α) : PerRef β := ⟨f .refA p.a, f .refB p.b, f .refC p.c⟩

/-- The same value for each reference. -/
def same (x : α) : PerRef α := ⟨x, x, x⟩

end PerRef

/-- The references in their order (R31). -/
def RefId.all : List RefId := [.refA, .refB, .refC]

/-- `v` clamped to the range from `lo` to `hi` (Conventions, Clamping). -/
def clampInt (lo hi v : Int) : Int := if v < lo then lo else if hi < v then hi else v

/-- `v` clamped to the range from `lo` to `hi`. -/
def clampNat (lo hi v : Nat) : Nat := if v < lo then lo else if hi < v then hi else v

/-- `n + k`, stopping at `limit` (Conventions, saturate). -/
def satAdd (limit n k : Nat) : Nat := if n + k ≤ limit then n + k else limit

end Sys2Proof
end

