-- ==== Sys2Proof/Config.lean ====
section
/-! DEFINITION. What the manual leaves open, as constants without a body: nothing can be proved about their values. -/

namespace Sys2Proof.Config

/-- FREE VALUE (log entry 8). The value the random source gives at its `n`-th draw since the part was made (R101). -/
opaque randomDraw : Nat → BitVec 32

/-- FREE VALUE (log entry 7). How many ring cycles pass in a PLL tick: the ring runs within 10 % of 250 MHz (section 1.1),
so 0, 1 or 2. On a ring tick it is 1 by definition. -/
opaque ringCycles : Nat → Fin 3

/-- FREE VALUE (log entry 2). Which of several own events due at one tick the part takes first. -/
opaque firstTaken : Nat → Nat

end Sys2Proof.Config
end

