-- ==== Sys2Proof/Syntax.lean ====
section
/-! DEFINITION. The commands of the HX-8: one constructor of `Instr` for each row of spec/opcode_table.json, with the operands
that the event or the request frame carries (10 Table 10-3). -/

namespace Sys2Proof

/-- An edge of a capture line (R121). -/
inductive EdgeKind where
  | rising
  | falling
  deriving DecidableEq, Repr

/-- A byte on a reference's message line (R18). -/
structure LineByte where
  value : Byte
  /-- the ns of XT from the sampling of its stop bit to the command that carries it -/
  ago : Nat
  /-- the ns of XT for which the line had been high without a break when its start bit came -/
  high : Nat
  deriving DecidableEq, Repr

/-- Bytes on a reference's message line, oldest first (log entry 11). -/
abbrev LineRun := List LineByte

/-- The levels of one port's two strap pins at a device reset (R147). -/
structure Straps where
  first : Bool
  second : Bool
  deriving DecidableEq, Repr

/-- A segment definition as a master writes it (06 Table 6-2, 10 Table 10-7). -/
structure Definition where
  firstDay : BitVec 32
  openTime : BitVec 64
  callTime : BitVec 64
  closeTime : BitVec 64
  /-- hold-on-untraceable -/
  hold : Bool
  /-- one bit for each port -/
  subscribers : Byte
  /-- one bit for each event output line -/
  outputs : Byte
  repeats : Byte
  deriving DecidableEq, Repr

/-- The fields of OUTPUT_SET other than its mode (10 Table 10-3). -/
structure OutputFields where
  line : Byte
  level : Byte
  width : BitVec 32
  instant : BitVec 64
  deriving DecidableEq, Repr

/-- The actions of SET_LEAP (R69). -/
inductive LeapAction where
  | insert
  | delete
  | withdraw
  deriving DecidableEq, Repr

/-- The modes of an event output line (07 Table 7-6). -/
inductive OutputMode where
  | off
  | secondPulse
  | closeFollow
  | atInstant
  deriving DecidableEq, Repr

/-- The body of a request frame, read by 10 Table 10-3. -/
inductive ReqBody where
  | stamp (seg : Option Byte)
  | readTime
  | readEvidence
  | setTiming (item : BitVec 16) (value : BitVec 64)
  | setTime (seconds : BitVec 64)
  | setLeap (day : BitVec 32) (action : LeapAction)
  | profileWrite (profile maxExt : Byte) (extLength : BitVec 16) (window : BitVec 32)
  | segmentWrite (seg profile : Byte) (d : Definition)
  | segmentSwap (seg profile : Byte) (d : Definition)
  | segmentRead (seg : Byte)
  | extend (seg : Byte)
  | release (seg : Byte)
  | halt (seg : Byte)
  | captureSet (line edge port : Byte)
  | outputSet (mode : OutputMode) (f : OutputFields)
  | trailRead (start : BitVec 64) (count : Byte)
  | trailAck (index : BitVec 64)
  | summaryNow
  | subscribe (status : Byte) (threshold : BitVec 16)
  | drain
  /-- a kind the part does not know, a body length its kind does not allow, or an action of SET_LEAP or a mode of
  OUTPUT_SET that names nothing (R149, R166) -/
  | malformed (kind : Byte) (body : List Byte)
  deriving DecidableEq, Repr

/-- A request frame as it stands in a request queue: its tag and its body (R152). -/
structure Request where
  tag : Tag
  body : ReqBody
  deriving DecidableEq, Repr

/-- The commands. A constructor's docstring names its row of spec/opcode_table.json and the rule that owns it. -/
inductive Instr where
  /-- DEVICE_RESET (R17). The straps of P0 to P7; whether the Epoch Store has lost its contents before this reset, and
  whether its write-back is lost, leaving the old value (R76). -/
  | deviceReset (straps : Bank 8 Straps) (storeLost writeLost : Bool)
  /-- MAIN_PRESENT (R2) -/
  | mainPresent
  /-- MAIN_ABSENT (R2) -/
  | mainAbsent
  /-- PLL_LOCK_RAISED (R3) -/
  | pllLockRaised
  /-- PLL_LOCK_FALLEN (R3) -/
  | pllLockFallen
  /-- LOCK_WAIT_EXPIRY (R3) -/
  | lockWaitExpiry
  /-- SETTLE_COMPLETE (R14) -/
  | settleComplete
  /-- MAIN_RETURN (R15) -/
  | mainReturn
  /-- SECOND_MARK (R39). Whether the Trail Unit's second-mark work is taken before the other blocks' (R138 leaves it open). -/
  | secondMark (trailFirst : Bool)
  /-- STEP_APPLIED (R10) -/
  | stepApplied
  /-- ACQ_TIMEOUT (R43) -/
  | acqTimeout
  /-- TIME_OF_DAY_MESSAGE (R18, R19): a run of bytes on the message line, such as the 16 of a message (log entry 11) -/
  | timeOfDayMessage (r : RefId) (run : LineRun)
  /-- REFERENCE_PULSE (R21) -/
  | referencePulse (r : RefId)
  /-- MISSING_VERDICT (R23) -/
  | missingVerdict (r : RefId)
  /-- ABSENCE_DEADLINE (R25) -/
  | absenceDeadline (r : RefId)
  /-- LEAP_BEGIN (R64) -/
  | leapBegin
  /-- LEAP_EXECUTED (R64) -/
  | leapExecuted
  /-- CAPTURE_EDGE (R121) -/
  | captureEdge (line : Line) (kind : EdgeKind)
  /-- STAMP_GRANT (R87) -/
  | stampGrant (p : Port)
  /-- CAPTURE_GRANT (R123) -/
  | captureGrant (line : Line)
  /-- OPEN_INSTANT_DUE (R95) -/
  | openInstantDue (seg : SegId)
  /-- CALL_INSTANT_DUE (R95) -/
  | callInstantDue (seg : SegId)
  /-- ARMED_CLOSE_DUE (R95) -/
  | armedCloseDue (seg : SegId)
  /-- DRAWN_CLOSE_DUE (R95) -/
  | drawnCloseDue (seg : SegId)
  /-- ARM_GRANT (R111) -/
  | armGrant
  /-- REVISE_GRANT (R113) -/
  | reviseGrant
  /-- DISARM_GRANT (R112) -/
  | disarmGrant
  /-- MISSED_GRANT (R96) -/
  | missedGrant
  /-- OPEN_GRANT (R98) -/
  | openGrant
  /-- CALL_GRANT (R99) -/
  | callGrant
  /-- DRAW_GRANT (R100) -/
  | drawGrant
  /-- END_GRANT (R102) -/
  | endGrant
  /-- EXTEND_GRANT (R107) -/
  | extendGrant
  /-- RELEASE_GRANT (R108) -/
  | releaseGrant
  /-- HALT_GRANT (R110) -/
  | haltGrant
  /-- PULSE_END (R128) -/
  | pulseEnd (line : Line)
  /-- AT_INSTANT_FIRE (R130) -/
  | atInstantFire (line : Line)
  /-- CLIENT_FRAME (R149): the bytes between the start symbol and the end symbol -/
  | clientFrame (p : Port) (bytes : List Byte)
  /-- FRAME_ABANDONED (R149) -/
  | frameAbandoned (p : Port)
  /-- LINK_TIMEOUT (R151) -/
  | linkTimeout (p : Port)
  /-- IDLE_FRAME (R150) -/
  | idleFrame (p : Port)
  /-- BATCH_FRAME (R156) -/
  | batchFrame (p : Port)
  /-- BATCH_FRAME_SENT (R156) -/
  | batchFrameSent (p : Port)
  /-- WAITING_ANSWER (R154) -/
  | waitingAnswer (p : Port)
  /-- PENDING_NOTICE_DRAIN (R158) -/
  | pendingNoticeDrain (p : Port)
  /-- DRAIN_COMPLETE (R161) -/
  | drainComplete (p : Port)
  /-- STAMP (R85) -/
  | stamp (p : Port) (tag : Tag) (seg : Option Byte)
  /-- READ_TIME (R91) -/
  | readTime (p : Port) (tag : Tag)
  /-- READ_EVIDENCE (R34) -/
  | readEvidence (p : Port) (tag : Tag)
  /-- SET_TIME (R45) -/
  | setTime (p : Port) (tag : Tag) (seconds : BitVec 64)
  /-- SET_LEAP_INSERT (R69) -/
  | setLeapInsert (p : Port) (tag : Tag) (day : BitVec 32)
  /-- SET_LEAP_DELETE (R69) -/
  | setLeapDelete (p : Port) (tag : Tag) (day : BitVec 32)
  /-- SET_LEAP_WITHDRAW (R69) -/
  | setLeapWithdraw (p : Port) (tag : Tag) (day : BitVec 32)
  /-- PROFILE_WRITE (R116) -/
  | profileWrite (p : Port) (tag : Tag) (profile maxExt : Byte) (extLength : BitVec 16) (window : BitVec 32)
  /-- SEGMENT_WRITE (R111) -/
  | segmentWrite (p : Port) (tag : Tag) (seg profile : Byte) (d : Definition)
  /-- SEGMENT_SWAP (R114) -/
  | segmentSwap (p : Port) (tag : Tag) (seg profile : Byte) (d : Definition)
  /-- SEGMENT_READ (R115) -/
  | segmentRead (p : Port) (tag : Tag) (seg : Byte)
  /-- EXTEND (R106) -/
  | extend (p : Port) (tag : Tag) (seg : Byte)
  /-- RELEASE (R108) -/
  | release (p : Port) (tag : Tag) (seg : Byte)
  /-- HALT (R109) -/
  | halt (p : Port) (tag : Tag) (seg : Byte)
  /-- CAPTURE_SET (R125) -/
  | captureSet (p : Port) (tag : Tag) (line edge port : Byte)
  /-- OUTPUT_SET_OFF (R127) -/
  | outputSetOff (p : Port) (tag : Tag) (f : OutputFields)
  /-- OUTPUT_SET_SECOND_PULSE (R127) -/
  | outputSetSecondPulse (p : Port) (tag : Tag) (f : OutputFields)
  /-- OUTPUT_SET_CLOSE_FOLLOW (R129) -/
  | outputSetCloseFollow (p : Port) (tag : Tag) (f : OutputFields)
  /-- OUTPUT_SET_AT_INSTANT (R130) -/
  | outputSetAtInstant (p : Port) (tag : Tag) (f : OutputFields)
  /-- TRAIL_READ (R142) -/
  | trailRead (p : Port) (tag : Tag) (start : BitVec 64) (count : Byte)
  /-- TRAIL_ACK (R144) -/
  | trailAck (p : Port) (tag : Tag) (index : BitVec 64)
  /-- SUMMARY_NOW (R140) -/
  | summaryNow (p : Port) (tag : Tag)
  /-- SUBSCRIBE (R160) -/
  | subscribe (p : Port) (tag : Tag) (status : Byte) (threshold : BitVec 16)
  /-- DRAIN (R161) -/
  | drain (p : Port) (tag : Tag)
  /-- MALFORMED_REQUEST (R166) -/
  | malformedRequest (p : Port) (tag : Tag) (kind : Byte) (body : List Byte)
  /-- SET_TIMING_SETTLE_PERIOD (R16) -/
  | setTimingSettlePeriod (p : Port) (tag : Tag) (value : BitVec 64)
  /-- SET_TIMING_REF_PROFILE (R35) -/
  | setTimingRefProfile (p : Port) (tag : Tag) (r : RefId) (value : BitVec 64)
  /-- SET_TIMING_REF_PRIORITY (R35) -/
  | setTimingRefPriority (p : Port) (tag : Tag) (r : RefId) (value : BitVec 64)
  /-- SET_TIMING_CABLE_DELAY (R35) -/
  | setTimingCableDelay (p : Port) (tag : Tag) (r : RefId) (value : BitVec 64)
  /-- SET_TIMING_P_WIN (R36) -/
  | setTimingPWin (p : Port) (tag : Tag) (value : BitVec 64)
  /-- SET_TIMING_MINIMUM_QUALITY (R36) -/
  | setTimingMinimumQuality (p : Port) (tag : Tag) (value : BitVec 64)
  /-- SET_TIMING_D (R36) -/
  | setTimingD (p : Port) (tag : Tag) (value : BitVec 64)
  /-- SET_TIMING_REVERTIVE_MODE (R36) -/
  | setTimingRevertiveMode (p : Port) (tag : Tag) (value : BitVec 64)
  /-- SET_TIMING_KP (R60) -/
  | setTimingKp (p : Port) (tag : Tag) (value : BitVec 64)
  /-- SET_TIMING_KI (R60) -/
  | setTimingKi (p : Port) (tag : Tag) (value : BitVec 64)
  /-- SET_TIMING_L (R53) -/
  | setTimingL (p : Port) (tag : Tag) (value : BitVec 64)
  /-- SET_TIMING_H (R55) -/
  | setTimingH (p : Port) (tag : Tag) (value : BitVec 64)
  /-- SET_TIMING_H_RING (R60) -/
  | setTimingHRing (p : Port) (tag : Tag) (value : BitVec 64)
  /-- SET_TIMING_W_LOCK (R61) -/
  | setTimingWLock (p : Port) (tag : Tag) (value : BitVec 64)
  /-- SET_TIMING_ACQUISITION_TIMEOUT (R61) -/
  | setTimingAcquisitionTimeout (p : Port) (tag : Tag) (value : BitVec 64)
  /-- SET_TIMING_M (R57) -/
  | setTimingM (p : Port) (tag : Tag) (value : BitVec 64)
  /-- SET_TIMING_U_FIXED (R61) -/
  | setTimingUFixed (p : Port) (tag : Tag) (value : BitVec 64)
  /-- SET_TIMING_U_MANUAL (R61) -/
  | setTimingUManual (p : Port) (tag : Tag) (value : BitVec 64)
  /-- SET_TIMING_UTC_OFFSET (R73) -/
  | setTimingUtcOffset (p : Port) (tag : Tag) (value : BitVec 64)
  /-- SET_TIMING_SUMMARY_INTERVAL (R141) -/
  | setTimingSummaryInterval (p : Port) (tag : Tag) (value : BitVec 64)
  /-- SET_TIMING_SUMMARY_MODE (R141) -/
  | setTimingSummaryMode (p : Port) (tag : Tag) (value : BitVec 64)
  /-- MESSAGE_FRAMING_ERROR (R18) -/
  | messageFramingError (r : RefId)
  /-- SET_TIMING_UNKNOWN_ITEM (R163) -/
  | setTimingUnknownItem (p : Port) (tag : Tag) (item : BitVec 16) (value : BitVec 64)
  deriving DecidableEq, Repr

end Sys2Proof
end

