-- ==== Sys2Proof/Decode.lean ====
section
/-! DEFINITION. Reading what arrives as bits: the frame check (R149), the request kinds and body lengths (10 Table 10-3), the
item numbers of SET_TIMING (10 Table 10-6), and after them an encoder of the same frames. The command table itself gives its
rows no bits, so `decodeTableWord` answers none. -/

namespace Sys2Proof

/-! ## Multi-byte fields, most significant byte first (R165) -/

/-- The unsigned number that `bs` spells, most significant byte first. -/
def beNat (bs : List Byte) : Nat := bs.foldl (fun acc b => acc * 256 + b.toNat) 0

/-- `v` in `k` bytes, most significant first; bits above are dropped. -/
def beBytes : Nat → Nat → List Byte
  | 0, _ => []
  | k + 1, v => BitVec.ofNat 8 (v / 256 ^ k) :: beBytes k v

/-- `v` as a two's complement field of `k` bytes. -/
def beSigned (k : Nat) (v : Int) : List Byte := beBytes k (v % (256 ^ k : Nat)).toNat

/-- The unsigned field of `size` bytes at offset `at_` of `bs`. -/
def fieldAt (bs : List Byte) (at_ size : Nat) : Nat := beNat ((bs.drop at_).take size)

/-- The byte at offset `i` of `bs`, 0 past its end. -/
def byteAt (bs : List Byte) (i : Nat) : Byte := bs.getD i 0

/-! ## The frame check (R149) -/

/-- `k` bits of the CRC register, polynomial x^16 + x^12 + x^5 + 1, without reflection. -/
def crcShift : Nat → BitVec 16 → BitVec 16
  | 0, c => c
  | k + 1, c => crcShift k (if c.msb then (c <<< 1) ^^^ 0x1021#16 else c <<< 1)

/-- The CRC register after one more byte. -/
def crcByte (c : BitVec 16) (b : Byte) : BitVec 16 := crcShift 8 (c ^^^ (b.setWidth 16 <<< 8))

/-- The CRC of `bs`, from all ones, with no final inversion (R149). -/
def crc16 (bs : List Byte) : BitVec 16 := bs.foldl crcByte 0xFFFF#16

/-- `bs` with its CRC after it, most significant byte first. -/
def withCrc (bs : List Byte) : List Byte := bs ++ beBytes 2 (crc16 bs).toNat

/-- What a valid frame from a master holds (R166). -/
structure Frame where
  kind : Byte
  tag : Tag
  body : List Byte
  deriving DecidableEq, Repr

/-- The frame in `bytes`, or none when it is shorter than the envelope or its CRC does not match (R149, R166). -/
def parseFrame (bytes : List Byte) : Option Frame :=
  let covered := bytes.take (bytes.length - 2)
  if bytes.length < 7 then none
  else if fieldAt bytes (bytes.length - 2) 2 = (crc16 covered).toNat then
    some { kind := byteAt covered 0, tag := BitVec.ofNat 32 (fieldAt covered 1 4), body := covered.drop 5 }
  else none

/-- The bytes of a frame from a master, its CRC among them. -/
def Frame.encode (f : Frame) : List Byte := withCrc (f.kind :: beBytes 4 f.tag.toNat ++ f.body)

/-! ## Requests (10 Table 10-3, Table 10-7) -/

/-- The definition in 32 bytes (10 Table 10-7); the unused flag bits are ignored (R165). -/
def parseDefinition (bs : List Byte) : Definition where
  firstDay := BitVec.ofNat 32 (fieldAt bs 0 4)
  openTime := BitVec.ofNat 64 (fieldAt bs 4 8)
  callTime := BitVec.ofNat 64 (fieldAt bs 12 8)
  closeTime := BitVec.ofNat 64 (fieldAt bs 20 8)
  hold := (byteAt bs 28).getLsbD 0
  subscribers := byteAt bs 29
  outputs := byteAt bs 30
  repeats := byteAt bs 31

/-- A definition in 32 bytes. -/
def Definition.encode (d : Definition) : List Byte :=
  beBytes 4 d.firstDay.toNat ++ beBytes 8 d.openTime.toNat ++ beBytes 8 d.callTime.toNat ++ beBytes 8 d.closeTime.toNat
    ++ [if d.hold then 1#8 else 0#8, d.subscribers, d.outputs, d.repeats]

/-- The action a SET_LEAP names, if any. -/
def parseLeapAction (b : Byte) : Option LeapAction :=
  match b.toNat with
  | 0 => some .insert
  | 1 => some .delete
  | 2 => some .withdraw
  | _ => none

/-- The code of a SET_LEAP action. -/
def LeapAction.code : LeapAction → Byte
  | .insert => 0#8
  | .delete => 1#8
  | .withdraw => 2#8

/-- The mode an OUTPUT_SET names, if any. -/
def parseOutputMode (b : Byte) : Option OutputMode :=
  match b.toNat with
  | 0 => some .off
  | 1 => some .secondPulse
  | 2 => some .closeFollow
  | 3 => some .atInstant
  | _ => none

/-- The code of an output mode. -/
def OutputMode.code : OutputMode → Byte
  | .off => 0#8
  | .secondPulse => 1#8
  | .closeFollow => 2#8
  | .atInstant => 3#8

/-- The body lengths 10 Table 10-3 allows for a request kind; none for a kind the part does not know. -/
def bodyLengths (kind : Nat) : List Nat :=
  match kind with
  | 16 => [0, 1]
  | 17 => [0]
  | 18 => [0]
  | 19 => [10]
  | 20 => [8]
  | 21 => [5]
  | 32 => [8]
  | 33 => [34]
  | 34 => [34]
  | 35 => [1]
  | 36 => [1]
  | 37 => [1]
  | 38 => [1]
  | 48 => [3]
  | 49 => [15]
  | 64 => [9]
  | 65 => [8]
  | 66 => [0]
  | 80 => [3]
  | 81 => [0]
  | _ => []

/-- The request in a frame of kind `kind` and a body of an allowed length. -/
def parseAllowed (kind : Byte) (bs : List Byte) : ReqBody :=
  match kind.toNat with
  | 16 => .stamp bs.head?
  | 17 => .readTime
  | 18 => .readEvidence
  | 19 => .setTiming (BitVec.ofNat 16 (fieldAt bs 0 2)) (BitVec.ofNat 64 (fieldAt bs 2 8))
  | 20 => .setTime (BitVec.ofNat 64 (fieldAt bs 0 8))
  | 21 =>
    match parseLeapAction (byteAt bs 4) with
    | some a => .setLeap (BitVec.ofNat 32 (fieldAt bs 0 4)) a
    | none => .malformed kind bs
  | 32 => .profileWrite (byteAt bs 0) (byteAt bs 1) (BitVec.ofNat 16 (fieldAt bs 2 2)) (BitVec.ofNat 32 (fieldAt bs 4 4))
  | 33 => .segmentWrite (byteAt bs 0) (byteAt bs 1) (parseDefinition (bs.drop 2))
  | 34 => .segmentSwap (byteAt bs 0) (byteAt bs 1) (parseDefinition (bs.drop 2))
  | 35 => .segmentRead (byteAt bs 0)
  | 36 => .extend (byteAt bs 0)
  | 37 => .release (byteAt bs 0)
  | 38 => .halt (byteAt bs 0)
  | 48 => .captureSet (byteAt bs 0) (byteAt bs 1) (byteAt bs 2)
  | 49 =>
    match parseOutputMode (byteAt bs 1) with
    | some m =>
      .outputSet m
        { line := byteAt bs 0
          level := byteAt bs 2
          width := BitVec.ofNat 32 (fieldAt bs 3 4)
          instant := BitVec.ofNat 64 (fieldAt bs 7 8) }
    | none => .malformed kind bs
  | 64 => .trailRead (BitVec.ofNat 64 (fieldAt bs 0 8)) (byteAt bs 8)
  | 65 => .trailAck (BitVec.ofNat 64 (fieldAt bs 0 8))
  | 66 => .summaryNow
  | 80 => .subscribe (byteAt bs 0) (BitVec.ofNat 16 (fieldAt bs 1 2))
  | 81 => .drain
  | _ => .malformed kind bs

/-- The request in a frame of kind `kind` and body `bs` (R166, Table 10-3). -/
def parseRequest (kind : Byte) (bs : List Byte) : ReqBody :=
  if bs.length ∈ bodyLengths kind.toNat then parseAllowed kind bs else .malformed kind bs

/-- The kind and the body of a request frame (10 Table 10-3). -/
def ReqBody.encode : ReqBody → Byte × List Byte
  | .stamp seg => (16#8, seg.toList)
  | .readTime => (17#8, [])
  | .readEvidence => (18#8, [])
  | .setTiming item value => (19#8, beBytes 2 item.toNat ++ beBytes 8 value.toNat)
  | .setTime seconds => (20#8, beBytes 8 seconds.toNat)
  | .setLeap day action => (21#8, beBytes 4 day.toNat ++ [action.code])
  | .profileWrite profile maxExt ext window => (32#8, [profile, maxExt] ++ beBytes 2 ext.toNat ++ beBytes 4 window.toNat)
  | .segmentWrite seg profile d => (33#8, [seg, profile] ++ d.encode)
  | .segmentSwap seg profile d => (34#8, [seg, profile] ++ d.encode)
  | .segmentRead seg => (35#8, [seg])
  | .extend seg => (36#8, [seg])
  | .release seg => (37#8, [seg])
  | .halt seg => (38#8, [seg])
  | .captureSet line edge port => (48#8, [line, edge, port])
  | .outputSet m f => (49#8, [f.line, m.code, f.level] ++ beBytes 4 f.width.toNat ++ beBytes 8 f.instant.toNat)
  | .trailRead start count => (64#8, beBytes 8 start.toNat ++ [count])
  | .trailAck index => (65#8, beBytes 8 index.toNat)
  | .summaryNow => (66#8, [])
  | .subscribe status threshold => (80#8, [status] ++ beBytes 2 threshold.toNat)
  | .drain => (81#8, [])
  | .malformed kind bs => (kind, bs)

/-! ## Items of SET_TIMING (10 Table 10-6) -/

/-- The timing configuration items. -/
inductive TimingItem where
  | settlePeriod
  | refProfile (r : RefId)
  | refPriority (r : RefId)
  | cableDelay (r : RefId)
  | pWin
  | minimumQuality
  | limitD
  | revertiveMode
  | kp
  | ki
  | slewL
  | growthH
  | growthHRing
  | wLock
  | acquisitionTimeout
  | limitM
  | uFixed
  | uManual
  | utcOffset
  | summaryInterval
  | summaryMode
  deriving DecidableEq, Repr

/-- The place of a reference in the item numbers and codes (10 Table 10-1). -/
def RefId.code : RefId → Nat
  | .refA => 0
  | .refB => 1
  | .refC => 2

/-- The number of an item (10 Table 10-6). -/
def TimingItem.number : TimingItem → Nat
  | .settlePeriod => 1
  | .refProfile r => 16 + r.code
  | .refPriority r => 19 + r.code
  | .cableDelay r => 22 + r.code
  | .pWin => 25
  | .minimumQuality => 26
  | .limitD => 27
  | .revertiveMode => 28
  | .kp => 32
  | .ki => 33
  | .slewL => 34
  | .growthH => 35
  | .growthHRing => 36
  | .wLock => 37
  | .acquisitionTimeout => 38
  | .limitM => 39
  | .uFixed => 40
  | .uManual => 41
  | .utcOffset => 48
  | .summaryInterval => 64
  | .summaryMode => 65

/-- The item a number names, if any. -/
def timingItem (n : Nat) : Option TimingItem :=
  match n with
  | 1 => some .settlePeriod
  | 16 => some (.refProfile .refA)
  | 17 => some (.refProfile .refB)
  | 18 => some (.refProfile .refC)
  | 19 => some (.refPriority .refA)
  | 20 => some (.refPriority .refB)
  | 21 => some (.refPriority .refC)
  | 22 => some (.cableDelay .refA)
  | 23 => some (.cableDelay .refB)
  | 24 => some (.cableDelay .refC)
  | 25 => some .pWin
  | 26 => some .minimumQuality
  | 27 => some .limitD
  | 28 => some .revertiveMode
  | 32 => some .kp
  | 33 => some .ki
  | 34 => some .slewL
  | 35 => some .growthH
  | 36 => some .growthHRing
  | 37 => some .wLock
  | 38 => some .acquisitionTimeout
  | 39 => some .limitM
  | 40 => some .uFixed
  | 41 => some .uManual
  | 48 => some .utcOffset
  | 64 => some .summaryInterval
  | 65 => some .summaryMode
  | _ => none

/-! ## Requests as commands -/

/-- The command by which port `p` takes a SET_TIMING of item number `item` (R163). -/
def timingCommand (p : Port) (tag : Tag) (item : BitVec 16) (v : BitVec 64) : Instr :=
  match timingItem item.toNat with
  | some .settlePeriod => .setTimingSettlePeriod p tag v
  | some (.refProfile r) => .setTimingRefProfile p tag r v
  | some (.refPriority r) => .setTimingRefPriority p tag r v
  | some (.cableDelay r) => .setTimingCableDelay p tag r v
  | some .pWin => .setTimingPWin p tag v
  | some .minimumQuality => .setTimingMinimumQuality p tag v
  | some .limitD => .setTimingD p tag v
  | some .revertiveMode => .setTimingRevertiveMode p tag v
  | some .kp => .setTimingKp p tag v
  | some .ki => .setTimingKi p tag v
  | some .slewL => .setTimingL p tag v
  | some .growthH => .setTimingH p tag v
  | some .growthHRing => .setTimingHRing p tag v
  | some .wLock => .setTimingWLock p tag v
  | some .acquisitionTimeout => .setTimingAcquisitionTimeout p tag v
  | some .limitM => .setTimingM p tag v
  | some .uFixed => .setTimingUFixed p tag v
  | some .uManual => .setTimingUManual p tag v
  | some .utcOffset => .setTimingUtcOffset p tag v
  | some .summaryInterval => .setTimingSummaryInterval p tag v
  | some .summaryMode => .setTimingSummaryMode p tag v
  | none => .setTimingUnknownItem p tag item v

/-- The command by which port `p` takes request `q` at the head of its request queue (R154). -/
def requestCommand (p : Port) (q : Request) : Instr :=
  match q.body with
  | .stamp seg => .stamp p q.tag seg
  | .readTime => .readTime p q.tag
  | .readEvidence => .readEvidence p q.tag
  | .setTiming item v => timingCommand p q.tag item v
  | .setTime sec => .setTime p q.tag sec
  | .setLeap day .insert => .setLeapInsert p q.tag day
  | .setLeap day .delete => .setLeapDelete p q.tag day
  | .setLeap day .withdraw => .setLeapWithdraw p q.tag day
  | .profileWrite profile maxExt ext window => .profileWrite p q.tag profile maxExt ext window
  | .segmentWrite seg profile d => .segmentWrite p q.tag seg profile d
  | .segmentSwap seg profile d => .segmentSwap p q.tag seg profile d
  | .segmentRead seg => .segmentRead p q.tag seg
  | .extend seg => .extend p q.tag seg
  | .release seg => .release p q.tag seg
  | .halt seg => .halt p q.tag seg
  | .captureSet line edge port => .captureSet p q.tag line edge port
  | .outputSet .off f => .outputSetOff p q.tag f
  | .outputSet .secondPulse f => .outputSetSecondPulse p q.tag f
  | .outputSet .closeFollow f => .outputSetCloseFollow p q.tag f
  | .outputSet .atInstant f => .outputSetAtInstant p q.tag f
  | .trailRead start count => .trailRead p q.tag start count
  | .trailAck index => .trailAck p q.tag index
  | .summaryNow => .summaryNow p q.tag
  | .subscribe status threshold => .subscribe p q.tag status threshold
  | .drain => .drain p q.tag
  | .malformed kind bs => .malformedRequest p q.tag kind bs

/-! ## The command table -/

/-- The command that a word spells by the table's bits: the table gives no row any bits, so there is none. -/
def decodeTableWord (_nbits _w : Nat) : Option Instr := none

/-! ## The message line (R18) -/

/-- The ns of XT from the start of a byte to the sampling of its stop bit: nine bits and a half of 8,680.6 ns (R18). -/
def byteNs : Nat := 82465

end Sys2Proof
end

