-- ==== Sys2Proof/Machine/Constants.lean ====
section
/-! DEFINITION. The numbers the manual fixes, each with the rule that gives it. -/

namespace Sys2Proof.Machine

/-- Units of 2^-32 ns in one ns (R6). -/
def fracUnits : Nat := 4294967296

/-- The nominal increment, 4 ns in units of 2^-32 ns (R1). -/
def nominalIncrement : Nat := 17179869184

/-- One second in ns. -/
def secondNs : Nat := 1000000000

/-- XT's integer part has 64 bits (R6). -/
def xtModulus : Nat := 18446744073709551616

/-- A step, and a converted instant, lie below 2^63 ns (R10, R65). -/
def stepLimit : Nat := 9223372036854775808

/-- The largest XT seconds SET_TIME and a message may carry is one less than this (R19, R45). -/
def secondsLimit : Nat := 9223372036

/-- The lock wait, 1 ms in ring cycles (R3); the idle-frame interval is as long (R150). -/
def msCycles : Nat := 250000

/-- The interval without an edge after which the main oscillator is ABSENT, 1 us in ring cycles (R2). -/
def gapCycles : Nat := 250

/-- The silence timer, 10 ms in ring cycles (R151). -/
def silenceCycles : Nat := 2500000

/-- PLL ticks in one second of the acquisition timer (R40). -/
def ticksPerSecond : Nat := 250000000

/-- The least and greatest ring count accepted as a calibration (R11). -/
def ringCountLow : Nat := 200000000
def ringCountHigh : Nat := 300000000

/-- 10^9 times 2^32, which a ring count divides to give the ring increment (R11). -/
def ringDividend : Nat := 4294967296000000000

/-- The idle gap that ends a message on a reference line, 500 us in ns, and the bytes of a message (R18). -/
def quietNs : Nat := 500000
def messageBytes : Nat := 16

/-- The age limit of a paired message (R21). -/
def pairingNs : Nat := 900000000

/-- The absence deadline after the last pulse, ten seconds in ns (R20, R25). -/
def absenceNs : Nat := 10000000000

/-- The maturity of a verdict, half a second in ns (R24). -/
def maturityNs : Nat := 500000000

/-- The clamp of a phase error, 2^30 ns (R22). -/
def errorClamp : Int := 1073741824

/-- The clamp of the loop error (R51). -/
def loopClamp : Int := 1048576

/-- B saturates here, and the 32-bit counters with it (section 3.6, R137). -/
def max32 : Nat := 4294967295

/-- The limit of the 16-bit counts (R24, R152, R158). -/
def max16 : Nat := 65535

/-- One UTC day in seconds and in ns (Conventions). -/
def daySeconds : Nat := 86400
def dayNs : Nat := 86400000000000

/-- Places of the trail's store, and the unread count from which class B is suppressed (R133, R134). -/
def trailPlaces : Nat := 4096
def classBLimit : Nat := 3840

/-- Entries of a request queue and of a response queue, and the occupancy at which the hold indication is asserted
(R152, R153, R155). -/
def requestPlaces : Nat := 32
def responsePlaces : Nat := 64
def holdFrom : Nat := 28

/-- Records of a capture FIFO (R121), verdicts of a history (R24). -/
def fifoPlaces : Nat := 4
def historyPlaces : Nat := 16

/-- Waiting events from which the commit list is full for requests (R94). -/
def commitLimit : Nat := 64

end Sys2Proof.Machine
end

