-- ==== Sys2Proof/Machine/State.lean ====
section
/-! DEFINITION. The state of the HX-8 as plain data: every block of 00 Table 0-1 with the state its chapter gives it, the queue
of waiting commands, the reasons a step could stop, and the state right after a device reset. -/

namespace Sys2Proof.Machine

/-! ## Tick Unit and Timescale Counter (chapter 1) -/

/-- The main oscillator monitor (R2). -/
inductive MainMonitor where
  | present
  | absent
  deriving DecidableEq, Repr

/-- The PLL monitor (R3). -/
inductive PllMonitor where
  | unlocked
  | lockWait
  | confirmed
  deriving DecidableEq, Repr

/-- The tick source (R1). -/
inductive TickSource where
  | ring
  | pll
  deriving DecidableEq, Repr

/-- The phase of the return sequence (R14). -/
inductive ReturnPhase where
  | none
  | waitMain
  | settle
  | lockWait
  deriving DecidableEq, Repr

/-- The Tick Unit (01 Table 1-7). Timers hold the ring cycles still to run. -/
structure TickUnit where
  mainMonitor : MainMonitor
  /-- ring cycles still to run without an edge of the main input until 1 us has passed; none while the monitor is ABSENT (R2) -/
  mainGap : Option Nat
  lockFlag : Bool
  pllMonitor : PllMonitor
  lockWaitTimer : Option Nat
  source : TickSource
  ringIncrement : Nat
  calibrated : Bool
  calibCount : Option Nat
  returnPhase : ReturnPhase
  settleDeadline : Option Ns
  settlePeriod : Nat
  deriving DecidableEq, Repr

/-- The Timescale Counter (R6): the integer ns, the fraction in units of 2^-32 ns, and the second mark that the last advance
reached and that its blocks have not worked yet (R8). -/
structure XtCounter where
  ns : Nat
  frac : Nat
  markDue : Option Nat
  deriving DecidableEq, Repr

/-! ## Reference Monitors (chapter 2) -/

/-- The state of a reference (R26, R27). -/
inductive RefState where
  | absent
  | qualifying
  | qualified
  | lost
  deriving DecidableEq, Repr

/-- A reference's qualification profile (02 Table 2-3). -/
inductive RefProfile where
  | strict
  | lenient
  deriving DecidableEq, Repr

/-- The leap announcement of a time-of-day message (02 Table 2-1). -/
inductive LeapCode where
  | none
  | insert
  | delete
  deriving DecidableEq, Repr

/-- A reference's last message (R19): its six fields, its arrival XT and the used mark. -/
structure Message where
  seconds : Nat
  offset : Int
  announcement : LeapCode
  quality : Nat
  uncertainty : Nat
  sumCheck : Nat
  arrival : Ns
  used : Bool
  deriving DecidableEq, Repr

/-- A verdict's kind (R21, R23). -/
inductive Grade where
  | good
  | bad
  | missing
  deriving DecidableEq, Repr

/-- What a GOOD verdict measured (R22): the clamped phase error, the pulse XT and the expected time. -/
structure Measure where
  e : Int
  c : Ns
  expected : Ns
  deriving DecidableEq, Repr

/-- A verdict; a GOOD one carries its measurement (R24). -/
inductive Verdict where
  | good (m : Measure)
  | bad
  | missing
  deriving DecidableEq, Repr

/-- A verdict in a hand-over slot, with its maturity XT (R24, R30). -/
structure HeldVerdict where
  verdict : Verdict
  maturity : Ns
  deriving DecidableEq, Repr

/-- The smallest and the largest e of a span, absent together (R22). -/
structure ErrorSpan where
  least : Int
  greatest : Int
  deriving DecidableEq, Repr

/-- The reference record (02 Table 2-2) with the serial receiver (R18). -/
structure RefRecord where
  state : RefState
  profile : RefProfile
  priority : Nat
  cableDelay : Int
  lastMessage : Option Message
  lastPulse : Option Ns
  expected : Option Ns
  absence : Option Ns
  goodLabel : Option Nat
  history : List Grade
  goodRun : Nat
  badRun : Nat
  lastE : Option Int
  span : Option ErrorSpan
  waiting : Option HeldVerdict
  ready : Option HeldVerdict
  disagree : Nat
  lastD : Option Nat
  /-- the bytes of the message under assembly, fewer than 16; none while the receiver waits for 500 us of idle line (R18) -/
  assembly : Option (List Byte)
  /-- the XT before which the line has not been idle: the sampling of the last stop bit, found high or low (R18) -/
  busyUntil : Ns
  deriving DecidableEq, Repr

/-- The configuration shared by the references (02 Table 2-8). -/
structure RefConfig where
  pWin : Nat
  minQuality : Nat
  limitD : Nat
  revertive : Bool
  deriving DecidableEq, Repr

/-! ## Steering Unit (chapter 3) -/

/-- The timescale state (03 Table 3-2). -/
inductive TimescaleState where
  | cold
  | acquire
  | locked
  | holdover
  | fallback
  deriving DecidableEq, Repr

/-- The causes of TIMESCALE entries (03 Table 3-3). -/
inductive TimescaleCause where
  | lockConfirmed
  | mainLoss
  | mainReturn
  | lockAchieved
  | acqTimeout
  | referenceLost
  | referenceRegained
  | acqStep
  | manualStep
  | bound
  deriving DecidableEq, Repr

/-- The five items with a written value and a value in force (R60). -/
structure LoopItems where
  kp : Nat
  ki : Nat
  slewL : Nat
  growthH : Nat
  growthHRing : Nat
  deriving DecidableEq, Repr

/-- Who asked for a step (R42, R45): the acquisition, or a SET_TIME, whose DONE goes to its port while that port has not been
reset since. -/
inductive StepOrigin where
  | acquisition
  | manual (port : Option Port) (tag : Tag)
  deriving DecidableEq, Repr

/-- A step asked for and not yet applied (R46). -/
structure PendingStep where
  origin : StepOrigin
  value : Ns
  deriving DecidableEq, Repr

/-- The Steering Unit (03 Table 3-1) with the selection (R31). -/
structure SteeringUnit where
  state : TimescaleState
  stampingOpen : Bool
  timeSet : Bool
  lockCount : Nat
  acqTimer : Option Nat
  integ : Int
  adj : Int
  eHeld : Option Int
  bound : Nat
  bEntry : Nat
  hSeconds : Nat
  traceable : Bool
  pendingSteps : List PendingStep
  written : LoopItems
  inForce : LoopItems
  wLock : Nat
  acqTimeout : Nat
  limitM : Nat
  uFixed : Nat
  uManual : Nat
  selection : Option RefId
  deriving DecidableEq, Repr

/-! ## Leap Unit (chapter 4) -/

/-- The kind of a leap. -/
inductive LeapKind where
  | insert
  | delete
  deriving DecidableEq, Repr

/-- A leap: its kind and the UTC day at whose end it falls (R63). -/
structure Leap where
  kind : LeapKind
  day : Nat
  deriving DecidableEq, Repr

/-- Where a leap or an offset came from (R67, R72). -/
inductive LeapSource where
  | reference
  | request
  deriving DecidableEq, Repr

/-- The pending leap record (R63). `begun` marks that LEAP_BEGIN has been made for an insertion (R64). -/
structure PendingLeap where
  leap : Leap
  lOff : Int
  t : Ns
  q : Ns
  source : LeapSource
  begun : Bool
  deriving DecidableEq, Repr

/-- The held reference announcement (04 Table 4-1). -/
inductive Announcement where
  | unknown
  | nothing
  | leap (l : Leap)
  deriving DecidableEq, Repr

/-- The leap state read with a time (04 Table 4-2). -/
inductive LeapState where
  | none
  | insertPending
  | deletePending
  | inLeap
  deriving DecidableEq, Repr

/-- The causes of LEAP entries (04 Table 4-5). -/
inductive LeapCause where
  | pending
  | withdrawn
  | leapBegin
  | executed
  | late
  | outOfRange
  | disagree
  | offsetCorrected
  deriving DecidableEq, Repr

/-- The Leap Unit (04 Table 4-1). -/
structure LeapUnit where
  offset : Int
  pending : Option PendingLeap
  announced : Announcement
  store : Option Leap
  deriving DecidableEq, Repr

/-! ## Sequence Arbiter and Epoch Store (chapter 5) -/

/-- The Sequence Arbiter (05 Table 5-7), whether it has granted a record at this tick (R79), and the segment a request event of which
it has granted at this tick: its due instants wait for the next (R95). -/
structure Arbiter where
  seq : Nat
  capturePtr : Line
  highPtr : Port
  normalPtr : Port
  grantedThisTick : Bool
  heldSeg : Option SegId
  deriving DecidableEq, Repr

/-- The Epoch Store (R76). `stored` is the value a device reset would read with an agreeing check value, none when the check
fails. -/
structure EpochStore where
  epoch : Nat
  reinitialised : Bool
  stored : Option Nat
  deriving DecidableEq, Repr

/-! ## Segment Controller (chapter 6) -/

/-- The state of a segment (06 Table 6-1). -/
inductive SegState where
  | idle
  | armed
  | opened
  | call
  | random
  | suspended
  | closed
  deriving DecidableEq, Repr

/-- The committed state: one of the seven states, or ENDING (06 Table 6-1). -/
inductive Committed where
  | settled (st : SegState)
  | ending
  deriving DecidableEq, Repr

/-- An armed instant with its taken mark. -/
structure Instant where
  xt : Ns
  taken : Bool
  deriving DecidableEq, Repr

/-- The armed open, call and close instants. -/
structure ArmedInstants where
  openAt : Instant
  callAt : Instant
  closeAt : Instant
  deriving DecidableEq, Repr

/-- The draw of a random end (R100). -/
structure Draw where
  closeXt : Ns
  r : Nat
  raw : BitVec 32
  deriving DecidableEq, Repr

/-- How a cycle ended (06 Table 6-3). -/
inductive CloseOutcome where
  | drawn
  | released
  | halted
  deriving DecidableEq, Repr

/-- The close record (06 Table 6-3). -/
structure CloseRecord where
  cycle : Nat
  outcome : CloseOutcome
  closeXt : Ns
  closeSeq : Nat
  r : Option Nat
  extensions : Nat
  traceable : Bool
  bound : Nat
  deriving DecidableEq, Repr

/-- A segment record (06 Table 6-1). -/
structure Segment where
  state : SegState
  committed : Committed
  profile : ProfileId
  defn : Option Definition
  armedDay : Option Nat
  armed : Option ArmedInstants
  drawn : Option Draw
  extensions : Nat
  cycle : Nat
  lastOpen : Nat
  lastCall : Nat
  lastClose : Nat
  closeRec : Option CloseRecord
  deriving DecidableEq, Repr

/-- A segment profile record (06 Table 6-4). -/
structure SegProfile where
  window : Nat
  extLength : Nat
  maxExt : Nat
  deriving DecidableEq, Repr

/-- The segment events (06 Table 6-5), each with what its commit records for its entry (R94): the requesting port, whether a
SEGMENT_SWAP made it, the armed day and instants, the old and new instants of a revision. -/
inductive SegEventKind where
  | arm (swap : Bool) (port : Port) (day : Option Nat) (armed : Option ArmedInstants)
  | revise (swap : Bool) (port : Port) (oldCall oldClose newCall newClose : Ns)
  | disarm (swap : Bool) (port : Port) (day : Option Nat) (armed : Option ArmedInstants)
  | missed (day : Option Nat) (openXt : Ns)
  | opening
  | call
  | draw
  | ending
  | extend (port : Port)
  | release (port : Port)
  | halt (port : Port)
  deriving DecidableEq, Repr

/-- An event on the commit list: its segment, its kind, and the state recorded at its commit. For an END the state is decided at
the grant (R94, R102), and none is recorded. -/
structure SegEvent where
  seg : SegId
  kind : SegEventKind
  after : Option SegState
  deriving DecidableEq, Repr

/-! ## Capture Unit and Output Unit (chapter 7) -/

/-- The edge selection of a capture line (07 Table 7-1). -/
inductive EdgeSel where
  | off
  | rising
  | falling
  | both
  deriving DecidableEq, Repr

/-- An edge record (07 section 7.1). -/
structure EdgeRecord where
  kind : EdgeKind
  xt : Ns
  deriving DecidableEq, Repr

/-- A capture line (07 Table 7-1). -/
structure CaptureLine where
  edgeSel : EdgeSel
  port : Port
  fifo : List EdgeRecord
  overflow : Nat
  deriving DecidableEq, Repr

/-- A level and the XT at which the line takes it; `high` is the high level (R130). -/
structure LevelAt where
  high : Bool
  xt : Ns
  deriving DecidableEq, Repr

/-- An event output line (07 Table 7-6), with the level and instant last written in AT_INSTANT (R127). -/
structure OutputLine where
  mode : OutputMode
  high : Bool
  width : Nat
  widthInUse : Nat
  pulseEnd : Option Ns
  armed : Option LevelAt
  heldInstant : Option LevelAt
  deriving DecidableEq, Repr

/-! ## Response records and notices (chapters 5 to 10) -/

/-- Result codes (09 Table 9-3). -/
inductive ResultCode where
  | ok
  | notReady
  | noRight
  | badIndex
  | badState
  | limit
  | tooLate
  | malformed
  deriving DecidableEq, Repr

/-- Phase tags of STAMPED records (05 Table 5-5). -/
inductive PhaseTag where
  | outOfCycle
  | opened
  | call
  | random
  | suspended
  | closed
  deriving DecidableEq, Repr

/-- The segment part of a STAMPED record (R88). -/
structure SegPart where
  seg : SegId
  phase : PhaseTag
  cycle : Nat
  deriving DecidableEq, Repr

/-- The values that a reading of the time carries (R87, R91): boot epoch, a sequence number, XT, offset, leap state, timescale
state, traceable and B. -/
structure TimeReading where
  epoch : Nat
  seq : Nat
  xt : Ns
  offset : Int
  leapState : LeapState
  state : TimescaleState
  traceable : Bool
  bound : Nat
  deriving DecidableEq, Repr

/-- The body of a STAMPED record (05 Table 5-3). -/
structure StampedBody where
  time : TimeReading
  evidence : Nat
  segPart : Option SegPart
  deriving DecidableEq, Repr

/-- One reference's block of an EVIDENCE response (R34). -/
structure EvidenceBlock where
  state : RefState
  selected : Bool
  lastE : Option Int
  span : Option ErrorSpan
  disagree : Nat
  lastD : Option Nat
  deriving DecidableEq, Repr

/-- The body of a SEGMENT response (R115). -/
structure SegmentBody where
  seg : SegId
  defn : Option Definition
  profile : ProfileId
  state : SegState
  committed : Committed
  extensions : Nat
  armedDay : Option Nat
  armed : Option ArmedInstants
  cycle : Nat
  lastOpen : Nat
  lastCall : Nat
  lastClose : Nat
  closeRec : Option CloseRecord
  deriving DecidableEq, Repr

/-- The change that raised a STATUS notice (R157, 10 Table 10-5). -/
inductive StatusCause where
  | timescale (c : TimescaleCause)
  | reference (r : RefId) (st : RefState)
  | selection (sel : Option RefId)
  | leap (c : LeapCause)
  deriving DecidableEq, Repr

/-- The body of a STATUS notice (R157). -/
structure StatusBody where
  time : TimeReading
  selection : Option RefId
  refStates : PerRef RefState
  cause : Option StatusCause
  count : Nat
  deriving DecidableEq, Repr

/-- The events a SEGMENT_EVENT notice names (R118). -/
inductive SegEventCode where
  | arm
  | revise
  | disarm
  | missed
  | opened
  | random
  | call
  | suspend
  | close
  | halt
  | extend
  deriving DecidableEq, Repr

/-- The body of a SEGMENT_EVENT notice (R118, R158, R167), with the offset and leap state of its XT (R63). DEDUCED: 10 Table 10-5
gives those two no bytes (log entry 52). -/
structure SegNotice where
  epoch : Nat
  seg : SegId
  event : SegEventCode
  after : SegState
  fromSet : Bool
  count : Nat
  cycle : Nat
  extensions : Nat
  seq : Nat
  xt : Ns
  offset : Int
  leapState : LeapState
  newClose : Option Ns
  lastOpen : Nat
  lastCall : Nat
  lastClose : Nat
  closeRec : Option CloseRecord
  deriving DecidableEq, Repr

/-- The body of a CAPTURED notice (07 Table 7-3); `time.xt` is the grant XT. -/
structure CapturedBody where
  line : Line
  edge : EdgeKind
  edgeXt : Ns
  time : TimeReading
  overflow : Nat
  deriving DecidableEq, Repr

/-! ## Trail (chapter 8) -/

/-- The summary counters (08 Table 8-4) but for the seconds covered. -/
structure Counters where
  good : PerRef Nat
  bad : PerRef Nat
  missing : PerRef Nat
  span : PerRef (Option ErrorSpan)
  maxBound : Option Nat
  untraceable : Nat
  stamps : Bank 8 Nat
  captures : Nat
  overflows : Nat
  crcDiscards : Bank 8 Nat
  suppressed : Nat
  overwritten : Nat
  deriving DecidableEq, Repr

/-- What a SOURCE entry records (R28, R32). -/
inductive SourceChange where
  | refState (r : RefId) (old new : RefState)
  | selection (old new : Option RefId)
  deriving DecidableEq, Repr

/-- The body of a LEAP entry (04 Table 4-5, 10 Table 10-12); a field that its cause does not carry is none or 0. -/
structure LeapEntry where
  cause : LeapCause
  leap : Option Leap
  source : LeapSource
  second : Option Leap
  offsetBefore : Int
  offsetAfter : Int
  t : Ns
  threshold : Ns
  amount : Int
  deriving DecidableEq, Repr

/-- The body of a CONFIG entry (R125, R127, R163). -/
inductive ConfigEntry where
  | item (port : Port) (item : Nat) (old new : Int) (clamped : Bool)
  | output (port : Port) (line : Line) (oldMode newMode : OutputMode) (oldHigh newHigh : Bool) (oldWidth newWidth : Nat)
      (oldInstant newInstant : Option Ns) (clamped : Bool)
  deriving DecidableEq, Repr

/-- The action of a SEGMENT entry with its tail (10 Table 10-13). -/
inductive SegAction where
  | write (swap : Bool) (profile : ProfileId) (day : Option Nat) (defn : Option Definition) (armed : Option ArmedInstants)
      (revised : Option (Ns × Ns))
  | missed (day : Option Nat) (openXt : Ns)
  | opened (cycle : Nat) (day : Option Nat) (armed : Option ArmedInstants)
  | call (cycle : Nat) (closeXt : Ns)
  | suspend (cycle : Nat) (window : Nat) (draw : Option Draw) (traceable : Bool) (bound : Nat)
  | profile (old new : SegProfile) (clamped : Bool)
  deriving DecidableEq, Repr

/-- The body of a CLOSE entry (R102, R103, R108, R110). -/
structure CloseEntry where
  seg : SegId
  outcome : CloseOutcome
  traceable : Bool
  /-- the draw disclosed by an END, or voided by a HALT -/
  draw : Option Draw
  voided : Bool
  port : Option Port
  stateBefore : SegState
  skipped : Nat
  cycle : Nat
  dayArmed : Option Nat
  window : Nat
  bound : Nat
  closeXt : Ns
  grantXt : Ns
  eventSeq : Nat
  deriving DecidableEq, Repr

/-- Why a port was reset (R151). -/
inductive ResetCause where
  | linkTimeout
  | resetFrame
  deriving DecidableEq, Repr

/-- What a PORT entry records (R151, R152, R162). -/
inductive PortEvent where
  | linkUp
  | overrun
  | portReset (cause : ResetCause) (discarded : Nat) (range : Option (Nat × Nat))
  deriving DecidableEq, Repr

/-- The bodies of trail entries (08 Table 8-2). -/
inductive TrailBody where
  | restart (epoch : Nat) (reinitialised : Bool)
  | secondEvidence (state : TimescaleState) (selection : Option RefId) (error : Option Int) (adj : Int) (bound : Nat)
      (traceable : Bool)
  | timescale (old new : TimescaleState) (cause : TimescaleCause) (bound : Nat) (traceable : Bool)
      (displacement : Option Int)
  | source (change : SourceChange)
  | leap (entry : LeapEntry)
  | config (entry : ConfigEntry)
  | segment (id : Nat) (action : SegAction) (port : Option Port) (eventSeq : Nat)
  | draw (seg : SegId) (cycle window : Nat) (armedClose : Ns) (eventSeq : Nat)
  | close (entry : CloseEntry)
  | extend (seg : SegId) (cycle extensions : Nat) (newClose : Ns) (eventSeq : Nat) (port : Port) (voided : Option Draw)
  | port (port : Port) (event : PortEvent)
  | summary (port : Option Port) (seconds previous : Nat) (counters : Counters)
  deriving DecidableEq, Repr

/-- What an entry takes from the moment of its writing: XT and the sequence counter (08 Table 8-1), and the offset and leap state
of that XT (R63). DEDUCED: 08 Table 8-1 and 10 Table 10-10 give the last two no field and no bytes (log entry 52). -/
structure Writing where
  xt : Ns
  seq : Nat
  offset : Int
  leapState : LeapState
  deriving DecidableEq, Repr

/-- A trail entry (08 Table 8-1); its class follows from its kind. -/
structure TrailEntry where
  seq : Nat
  written : Writing
  body : TrailBody
  deriving DecidableEq, Repr

/-- The summary mode (R141). -/
inductive SummaryMode where
  | auto
  | manual
  deriving DecidableEq, Repr

/-- The Trail Unit (08 Table 8-7). `entries` are the readable entries, those of trail sequence K up to W_ix - 1, oldest first. -/
structure TrailUnit where
  entries : List TrailEntry
  wIx : Nat
  k : Nat
  evidence : Nat
  prevSummary : Nat
  counters : Counters
  seconds : Nat
  interval : Nat
  mode : SummaryMode
  deriving DecidableEq, Repr

/-! ## Port Controllers (chapter 9) -/

/-- A record of a response queue (R155): an answer with its tag, or a notice. -/
inductive Record where
  | stamped (tag : Tag) (body : StampedBody)
  | time (tag : Tag) (body : TimeReading)
  | evidence (tag : Tag) (blocks : PerRef EvidenceBlock)
  | segment (tag : Tag) (body : SegmentBody)
  | trail (tag : Tag) (k wIx : Nat) (entries : List TrailEntry)
  | done (tag : Tag) (code : ResultCode) (clamped : Bool)
  | status (body : StatusBody)
  | segmentEvent (body : SegNotice)
  | captured (body : CapturedBody)
  | port (overrun : Nat)
  deriving DecidableEq, Repr

/-- The roles (00 Table 0-3). -/
inductive Role where
  | gateway
  | engine
  | oversight
  | full
  deriving DecidableEq, Repr

/-- How far the service of the request at the head of a queue has come (R154). -/
inductive Service where
  /-- no request at the head has been taken -/
  | untaken
  /-- a STAMP taken and presented to the arbiter (R85) -/
  | stamping (tag : Tag) (seg : Option SegId)
  /-- a SET_TIME whose step is pending (R45) -/
  | settingTime
  /-- a DRAIN, with the records still to leave (R161) -/
  | draining (tag : Tag) (left : Nat)
  /-- an answer formed and waiting for a free entry; whether it is a DRAIN's (R154) -/
  | waiting (answer : Record) (ofDrain : Bool)
  deriving DecidableEq, Repr

/-- A segment slot of the pending-notice set (R158). -/
structure PendingSeg where
  seg : SegId
  count : Nat
  event : SegEventCode
  seq : Nat
  deriving DecidableEq, Repr

/-- A Port Controller (09 Table 9-6). -/
structure PortCtl where
  role : Role
  up : Bool
  silence : Option Nat
  requests : List Request
  service : Service
  overrun : Nat
  responses : List Record
  /-- at this tick entries of a full response queue have become free: a STAMP waits for the next tick (R82, R86) -/
  justFreed : Bool
  inFlight : Nat
  sending : Bool
  pendStatus : Option Nat
  pendSegs : List PendingSeg
  pendPort : Bool
  statusSub : Bool
  threshold : Nat
  batchNumber : Nat
  /-- records up to and with the DONE of a DRAIN that has not left yet (R159) -/
  drainDone : Option Nat
  /-- ring cycles until an idle frame falls due, counted from the end of the last frame (R150) -/
  idleTimer : Nat
  /-- the hold indication has changed since the last frame began (R150, R153) -/
  holdChanged : Bool
  lastFrame : List Byte
  deriving DecidableEq, Repr

/-! ## The whole part -/

/-- The state of the HX-8 and the queue of commands that wait for it, first in, first out. -/
structure State where
  tick : TickUnit
  xt : XtCounter
  refs : PerRef RefRecord
  refCfg : RefConfig
  steer : SteeringUnit
  leap : LeapUnit
  arb : Arbiter
  epoch : EpochStore
  segs : Bank 64 Segment
  profiles : Bank 4 SegProfile
  commits : List SegEvent
  /-- MODEL's own (log entry 8): how many values the random source has given -/
  drawIndex : Nat
  capture : Bank 8 CaptureLine
  outputs : Bank 8 OutputLine
  trail : TrailUnit
  ports : Bank 8 PortCtl
  lastCause : Option StatusCause
  /-- MODEL's own (log entries 2 and 7): the index of the next free value -/
  freeIndex : Nat
  pending : List Instr
  deriving DecidableEq, Repr

/-- Why the part stops: it never does. The manual names no fault that stops the part, so no reason exists. -/
inductive Fault where
  deriving DecidableEq, Repr

/-- Why a command has no meaning. -/
inductive Refusal where
  /-- The command of that name has no meaning in the model yet: raised by an arm of `exec` that is still refused by name. Safe:
  the model stops where the part goes on. -/
  | notModelled (mnemonic : String)
  deriving DecidableEq, Repr

/-! ## Replacing one block -/

namespace State

def withTick (s : State) (x : TickUnit) : State := { s with tick := x }
def withXt (s : State) (x : XtCounter) : State := { s with xt := x }
def withRefs (s : State) (x : PerRef RefRecord) : State := { s with refs := x }
def withRefCfg (s : State) (x : RefConfig) : State := { s with refCfg := x }
def withSteer (s : State) (x : SteeringUnit) : State := { s with steer := x }
def withLeap (s : State) (x : LeapUnit) : State := { s with leap := x }
def withArb (s : State) (x : Arbiter) : State := { s with arb := x }
def withEpoch (s : State) (x : EpochStore) : State := { s with epoch := x }
def withSegs (s : State) (x : Bank 64 Segment) : State := { s with segs := x }
def withProfiles (s : State) (x : Bank 4 SegProfile) : State := { s with profiles := x }
def withCommits (s : State) (x : List SegEvent) : State := { s with commits := x }
def withDrawIndex (s : State) (x : Nat) : State := { s with drawIndex := x }
def withCapture (s : State) (x : Bank 8 CaptureLine) : State := { s with capture := x }
def withOutputs (s : State) (x : Bank 8 OutputLine) : State := { s with outputs := x }
def withTrail (s : State) (x : TrailUnit) : State := { s with trail := x }
def withPorts (s : State) (x : Bank 8 PortCtl) : State := { s with ports := x }
def withLastCause (s : State) (x : Option StatusCause) : State := { s with lastCause := x }
def withFreeIndex (s : State) (x : Nat) : State := { s with freeIndex := x }
def withPending (s : State) (x : List Instr) : State := { s with pending := x }

/-- XT as every reader gets it: the integer part (R7). -/
def now (s : State) : Ns := s.xt.ns

end State

/-! ## After a device reset -/

/-- The role that a port's strap pins give (R147). -/
def roleOf (p : Straps) : Role :=
  match p.first, p.second with
  | false, false => .gateway
  | true, false => .engine
  | false, true => .oversight
  | true, true => .full

/-- Whether a role's default is subscribed to STATUS (R160). -/
def Role.statusDefault : Role → Bool
  | .gateway => false
  | .engine => false
  | .oversight => true
  | .full => true

/-- 01 Table 1-7. -/
def TickUnit.reset : TickUnit where
  mainMonitor := .absent
  mainGap := none
  lockFlag := false
  pllMonitor := .unlocked
  lockWaitTimer := none
  source := .ring
  ringIncrement := nominalIncrement
  calibrated := false
  calibCount := none
  returnPhase := .none
  settleDeadline := none
  settlePeriod := 10

/-- 01 Table 1-7. -/
def XtCounter.reset : XtCounter where
  ns := 0
  frac := 0
  markDue := none

/-- 02 Table 2-9, but for the priority, which differs among the references. -/
def RefRecord.reset (priority : Nat) : RefRecord where
  state := .absent
  profile := .strict
  priority := priority
  cableDelay := 0
  lastMessage := none
  lastPulse := none
  expected := none
  absence := none
  goodLabel := none
  history := []
  goodRun := 0
  badRun := 0
  lastE := none
  span := none
  waiting := none
  ready := none
  disagree := 0
  lastD := none
  assembly := none
  busyUntil := 0

/-- 02 Table 2-9. -/
def RefConfig.reset : RefConfig where
  pWin := 2000
  minQuality := 8
  limitD := 5000
  revertive := false

/-- The defaults of 03 Table 3-8. -/
def LoopItems.reset : LoopItems where
  kp := 137
  ki := 17
  slewL := 1048576
  growthH := 20
  growthHRing := 50000

/-- 03 Table 3-9. -/
def SteeringUnit.reset : SteeringUnit where
  state := .cold
  stampingOpen := false
  timeSet := false
  lockCount := 0
  acqTimer := none
  integ := 0
  adj := 0
  eHeld := none
  bound := max32
  bEntry := 0
  hSeconds := 0
  traceable := false
  pendingSteps := []
  written := .reset
  inForce := .reset
  wLock := 500
  acqTimeout := 900
  limitM := 100000
  uFixed := 150
  uManual := max32
  selection := none

/-- 04 Table 4-1. -/
def LeapUnit.reset : LeapUnit where
  offset := 0
  pending := none
  announced := .unknown
  store := none

/-- 05 Table 5-7. -/
def Arbiter.reset : Arbiter where
  seq := 0
  capturePtr := 0
  highPtr := 0
  normalPtr := 0
  grantedThisTick := false
  heldSeg := none

/-- 06 Table 6-6. -/
def Segment.reset : Segment where
  state := .idle
  committed := .settled .idle
  profile := 0
  defn := none
  armedDay := none
  armed := none
  drawn := none
  extensions := 0
  cycle := 0
  lastOpen := 0
  lastCall := 0
  lastClose := 0
  closeRec := none

/-- The defaults of 06 Table 6-4. -/
def SegProfile.reset : SegProfile where
  window := 0
  extLength := 300
  maxExt := 0

/-- 07 Table 7-1: the mapped port is the port of the line's number. -/
def CaptureLine.reset (line : Line) : CaptureLine where
  edgeSel := .off
  port := line
  fifo := []
  overflow := 0

/-- 07 Table 7-6. -/
def OutputLine.reset : OutputLine where
  mode := .off
  high := false
  width := 100000
  widthInUse := 100000
  pulseEnd := none
  armed := none
  heldInstant := none

/-- The counters at 0 and the optional values absent (R137). -/
def Counters.zero : Counters where
  good := .same 0
  bad := .same 0
  missing := .same 0
  span := .same none
  maxBound := none
  untraceable := 0
  stamps := .ofFn fun _ => 0
  captures := 0
  overflows := 0
  crcDiscards := .ofFn fun _ => 0
  suppressed := 0
  overwritten := 0

/-- 08 Table 8-7, after the RESTART entry: trail sequence 1, XT 0, sequence at writing 0 (R136), and the offset 0 and leap state NONE
that 04 Table 4-2 reads there (R63). -/
def TrailUnit.reset (epoch : EpochStore) : TrailUnit where
  entries := [{ seq := 1, written := ⟨0, 0, 0, .none⟩, body := .restart epoch.epoch epoch.reinitialised }]
  wIx := 2
  k := 1
  evidence := 0
  prevSummary := 0
  counters := .zero
  seconds := 0
  interval := 60
  mode := .auto

/-- 09 Table 9-6. -/
def PortCtl.reset (role : Role) : PortCtl where
  role := role
  up := false
  silence := none
  requests := []
  service := .untaken
  overrun := 0
  responses := []
  justFreed := false
  inFlight := 0
  sending := false
  pendStatus := none
  pendSegs := []
  pendPort := false
  statusSub := role.statusDefault
  threshold := 1
  batchNumber := 0
  drainDone := none
  idleTimer := 0
  holdChanged := false
  lastFrame := []

/-- The part right after a device reset that sampled these straps and left the Epoch Store so. -/
def State.afterReset (straps : Bank 8 Straps) (epoch : EpochStore) : State where
  tick := .reset
  xt := .reset
  refs := ⟨.reset 1, .reset 2, .reset 3⟩
  refCfg := .reset
  steer := .reset
  leap := .reset
  arb := .reset
  epoch := epoch
  segs := .ofFn fun _ => .reset
  profiles := .ofFn fun _ => .reset
  commits := []
  drawIndex := 0
  capture := .ofFn .reset
  outputs := .ofFn fun _ => .reset
  trail := .reset epoch
  ports := .ofFn fun p => .reset (roleOf (straps.get p))
  lastCause := none
  freeIndex := 0
  pending := []

/-- The machine right after reset. The straps are all low, so that every port is a GATEWAY (log entry 4), and the Epoch Store
has never been powered, so that the boot epoch is 0 and re-initialised (log entry 5); the rest is as the spec's tables say. -/
def State.reset : State :=
  State.afterReset (.ofFn fun _ => { first := false, second := false }) { epoch := 0, reinitialised := true, stored := some 0 }

end Sys2Proof.Machine
end

