-- ==== Sys2Proof/Machine/Flags.lean ====
section
/-! DEFINITION. What the part reads off its state without changing it: the offset and leap state, the traceable flag, the hold
indication, whether a batch is due, the class gate, eligibility and the arbiter's choice, phase tags, and the level of a line
that follows segments. -/

namespace Sys2Proof.Machine

/-! ## Offset and leap state (04 Table 4-2) -/

/-- The offset and leap state that a reader is given at XT `x` (R63). -/
def LeapUnit.reading (l : LeapUnit) (x : Ns) : Int × LeapState :=
  match l.pending with
  | none => (l.offset, .none)
  | some p =>
    match p.leap.kind with
    | .insert =>
      if x < p.t then (p.lOff, .insertPending)
      else if x < p.t + secondNs then (p.lOff, .inLeap)
      else (p.lOff + 1, .none)
    | .delete => if x < p.t then (p.lOff, .deletePending) else (p.lOff - 1, .none)

/-- The UTC offset read now. -/
def State.offsetNow (s : State) : Int := (s.leap.reading s.now).1

/-- The leap state read now. -/
def State.leapNow (s : State) : LeapState := (s.leap.reading s.now).2

/-- The values a reading of the time carries, read together from their owners (R87, R91). -/
def State.reading (s : State) : TimeReading where
  epoch := s.epoch.epoch
  seq := s.arb.seq
  xt := s.now
  offset := s.offsetNow
  leapState := s.leapNow
  state := s.steer.state
  traceable := s.steer.traceable
  bound := s.steer.bound

/-- What a trail entry written now takes from this moment (08 Table 8-1, R63). -/
def State.writing (s : State) : Writing where
  xt := s.now
  seq := s.arb.seq
  offset := s.offsetNow
  leapState := s.leapNow

/-! ## The traceable flag (R57) -/

/-- Whether B is within M. -/
def withinLimit (bound limit : Nat) : Bool := decide (bound ≤ limit)

/-! ## Ports (chapter 9) -/

/-- The hold indication (R153). -/
def PortCtl.hold (pc : PortCtl) : Bool := decide (holdFrom ≤ pc.requests.length)

/-- The free entries of the request queue (R150, R153). -/
def PortCtl.freeRequests (pc : PortCtl) : Nat := requestPlaces - pc.requests.length

/-- The free entries of the response queue (R155). -/
def PortCtl.freeResponses (pc : PortCtl) : Nat := responsePlaces - pc.responses.length

/-- Whether the response queue has a free entry. -/
def PortCtl.hasRoom (pc : PortCtl) : Bool := decide (pc.responses.length < responsePlaces)

/-- Whether the pending-notice set is empty (R158). -/
def PortCtl.noSlots (pc : PortCtl) : Bool := pc.pendStatus.isNone && pc.pendSegs.isEmpty && !pc.pendPort

/-- Whether a DRAIN has been taken whose DONE has not yet left on the link (R159, R161). -/
def PortCtl.drainOwed (pc : PortCtl) : Bool :=
  pc.drainDone.isSome ||
    match pc.service with
    | .draining _ _ => true
    | .waiting _ ofDrain => ofDrain
    | _ => false

/-- Whether a batch is due (R159). -/
def PortCtl.batchDue (pc : PortCtl) : Bool :=
  pc.up && !pc.sending && decide (pc.inFlight < pc.responses.length) &&
    (decide (pc.threshold ≤ pc.responses.length - pc.inFlight) || pc.requests.isEmpty || pc.drainOwed)

/-- Whether an idle frame is to be sent: the transmitter is free, no batch is due, and 1 ms has passed since the last frame or
the hold indication has changed since it began (R150, R153). -/
def PortCtl.idleDue (pc : PortCtl) : Bool :=
  !pc.sending && !pc.batchDue && (decide (pc.idleTimer = 0) || pc.holdChanged)

/-- Whether an answer waits at the head (R154). -/
def PortCtl.answerWaits (pc : PortCtl) : Bool :=
  match pc.service with
  | .waiting _ _ => true
  | _ => false

/-- The free entries of the response queue that are a notice's: all but the one that a waiting answer takes first (R155). -/
def PortCtl.freeForNotices (pc : PortCtl) : Nat := pc.freeResponses - if pc.answerWaits then 1 else 0

/-- Whether a notice raised now enters the response queue at once: the pending-notice set is empty, and an entry is free that no
waiting answer takes (R155, R157; that the notice then stands before the waiting answer is log entry 51). -/
def PortCtl.takesNotice (pc : PortCtl) : Bool := pc.noSlots && decide (0 < pc.freeForNotices)

/-- Port `p`'s controller. -/
def State.port (s : State) (p : Port) : PortCtl := s.ports.get p

/-! ## Rights (09 Table 9-1) -/

/-- The rights of 09 Table 9-1. -/
inductive Right where
  | stamp
  | readTime
  | ownCaptures
  | subscribe
  | schedule
  | readEvidence
  | trail
  | timing
  | leap
  | setTime
  | remap
  deriving DecidableEq, Repr

/-- Whether a role holds a right (09 Table 9-1). -/
def Role.has : Role → Right → Bool
  | .full, _ => true
  | .gateway, .stamp => true
  | .gateway, .readTime => true
  | .gateway, .ownCaptures => true
  | .gateway, .subscribe => true
  | .gateway, _ => false
  | .engine, .stamp => true
  | .engine, .readTime => true
  | .engine, .ownCaptures => true
  | .engine, .subscribe => true
  | .engine, .schedule => true
  | .engine, _ => false
  | .oversight, .stamp => false
  | .oversight, .ownCaptures => false
  | .oversight, .schedule => false
  | .oversight, _ => true

/-- Whether a role is of arbitration class HIGH (00 Table 0-3). -/
def Role.high : Role → Bool
  | .gateway => false
  | .engine => true
  | .oversight => false
  | .full => true

/-! ## The trail's class gate (R134) -/

/-- Whether an entry is of class B (08 Table 8-2). -/
def TrailBody.classB : TrailBody → Bool
  | .secondEvidence .. => true
  | .port .. => true
  | _ => false

/-- The number of readable entries (08 Table 8-3). -/
def TrailUnit.unread (t : TrailUnit) : Nat := t.wIx - t.k

/-! ## Segments (chapter 6) -/

/-- The phase tag of a segment state (05 Table 5-5). -/
def SegState.phase : SegState → PhaseTag
  | .idle => .outOfCycle
  | .armed => .outOfCycle
  | .opened => .opened
  | .call => .call
  | .random => .random
  | .suspended => .suspended
  | .closed => .closed

/-- Whether a state is CALL, RANDOM or SUSPENDED (R116). -/
def SegState.inCall : SegState → Bool
  | .call => true
  | .random => true
  | .suspended => true
  | _ => false

/-- Whether a committed state is CALL, RANDOM, ENDING or SUSPENDED (R111, R116). -/
def Committed.inCall : Committed → Bool
  | .settled st => st.inCall
  | .ending => true

/-- Whether an event was committed by a request (R95). -/
def SegEventKind.ofRequest : SegEventKind → Bool
  | .arm .. => true
  | .revise .. => true
  | .disarm .. => true
  | .missed .. => false
  | .opening => false
  | .call => false
  | .draw => false
  | .ending => false
  | .extend _ => true
  | .release _ => true
  | .halt _ => true

/-- Whether a request event of segment `i` keeps its instants from being taken: it waits on the commit list, or was granted at this
tick (R95; log entry 46). -/
def State.requestWaits (s : State) (i : SegId) : Bool :=
  decide (s.arb.heldSeg = some i) || s.commits.any fun e => e.seg == i && e.kind.ofRequest

/-- Whether a RELEASE or HALT of segment `i` waits on the commit list (R111). -/
def State.endWaits (s : State) (i : SegId) : Bool :=
  s.commits.any fun e =>
    e.seg == i &&
      match e.kind with
      | .release _ => true
      | .halt _ => true
      | _ => false

/-- How many EXTEND events of segment `i` wait on the commit list (R106). -/
def State.extendsWaiting (s : State) (i : SegId) : Nat :=
  s.commits.countP fun e =>
    e.seg == i &&
      match e.kind with
      | .extend _ => true
      | _ => false

/-- Whether the commit list is full for requests (R94). -/
def State.commitsFull (s : State) : Bool := decide (commitLimit ≤ s.commits.length)

/-- The profile a segment uses. -/
def State.profileOf (s : State) (g : Segment) : SegProfile := s.profiles.get g.profile

/-- Whether instant `i` is due and not yet taken (R95). -/
def Instant.due (i : Instant) (now : Ns) : Bool := decide (i.xt ≤ now) && !i.taken

/-- Whether the open instant of segment `i` is taken now (R95). -/
def State.openDue (s : State) (i : SegId) : Bool :=
  s.steer.stampingOpen && !s.requestWaits i &&
    (decide ((s.segs.get i).committed = .settled .armed) || decide ((s.segs.get i).committed = .settled .closed)) &&
    match (s.segs.get i).armed with
    | some a => a.openAt.due s.now
    | none => false

/-- Whether the call instant of segment `i` is taken now (R95). -/
def State.callDue (s : State) (i : SegId) : Bool :=
  s.steer.stampingOpen && !s.requestWaits i && decide ((s.segs.get i).committed = .settled .opened) &&
    match (s.segs.get i).armed with
    | some a => a.callAt.due s.now
    | none => false

/-- Whether the armed close instant of segment `i` is taken now (R95). -/
def State.closeDue (s : State) (i : SegId) : Bool :=
  s.steer.stampingOpen && !s.requestWaits i && decide ((s.segs.get i).committed = .settled .call) &&
    match (s.segs.get i).armed with
    | some a => a.closeAt.due s.now
    | none => false

/-- Whether the drawn close XT of segment `i` is taken now (R95). -/
def State.drawnDue (s : State) (i : SegId) : Bool :=
  s.steer.stampingOpen && !s.requestWaits i && decide ((s.segs.get i).committed = .settled .random) &&
    match (s.segs.get i).drawn with
    | some d => decide (d.closeXt ≤ s.now)
    | none => false

/-- Whether an instant of some segment is due and not yet taken (R95). -/
def State.instantDue (s : State) : Bool :=
  (List.finRange 64).any fun i => s.openDue i || s.callDue i || s.closeDue i || s.drawnDue i

/-- Whether segment `g` counts for line `l` in CLOSE_FOLLOW (R129). -/
def Segment.raises (g : Segment) (l : Line) : Bool :=
  decide (g.state = .closed) &&
    (match g.closeRec with
      | some r => decide (r.outcome ≠ .halted)
      | none => false) &&
    match g.defn with
    | some d => d.outputs.getLsbD l.val
    | none => false

/-- The level of line `l` in CLOSE_FOLLOW (R129). -/
def closeLevel (segs : Bank 64 Segment) (l : Line) : Bool := segs.any fun g => g.raises l

/-! ## Arbitration (sections 5.2, 5.3) -/

/-- A record the arbiter can grant: the presented segment event, a line's oldest edge record, a port's STAMP (R77). -/
inductive Grantee where
  | segment
  | capture (l : Line)
  | stamp (p : Port)
  deriving DecidableEq, Repr

/-- Whether line `l` presents an eligible record (R81). DEDUCED (log entry 54): a response queue that was full makes the record
eligible at the tick at which an entry is freed, as R81 says, though 07 7.1.1, event 7, grants it at the next. -/
def State.captureEligible (s : State) (l : Line) : Bool :=
  !(s.capture.get l).fifo.isEmpty && (s.port (s.capture.get l).port).up && (s.port (s.capture.get l).port).hasRoom

/-- Whether port `p` presents a STAMP (R77). -/
def PortCtl.stamping (pc : PortCtl) : Bool :=
  match pc.service with
  | .stamping _ _ => true
  | _ => false

/-- Whether port `p` presents an eligible STAMP; a queue that was full gives it room from the next tick on (R82, R86). -/
def State.stampEligible (s : State) (p : Port) : Bool :=
  (s.port p).stamping && (s.port p).up && (s.port p).hasRoom && !(s.port p).justFreed

/-- The eight numbers from `ptr` up, wrapping from 7 to 0 (R81, R82). -/
def roundFrom (ptr : Fin 8) : List (Fin 8) := [ptr, ptr + 1, ptr + 2, ptr + 3, ptr + 4, ptr + 5, ptr + 6, ptr + 7]

/-- The first number from `ptr` up that satisfies `ok` (R81, R82). -/
def firstFrom (ptr : Fin 8) (ok : Fin 8 → Bool) : Option (Fin 8) := (roundFrom ptr).find? ok

/-- The port a class's search finds (R82). -/
def State.stampFrom (s : State) (high : Bool) (ptr : Port) : Option Port :=
  firstFrom ptr fun p => ((s.port p).role.high == high) && s.stampEligible p

/-- What the arbiter grants at this tick: nothing while the stamping-open flag is clear or when it has granted a record at this
tick; otherwise the first class of 05 Table 5-1 that has an eligible record (R78 to R82). An instant that is due has its event
presented at this tick, so that no capture or stamp goes before it (R80). -/
def State.arbiterChoice (s : State) : Option Grantee :=
  if !s.steer.stampingOpen || s.arb.grantedThisTick then none
  else if !s.commits.isEmpty then some .segment
  else if s.instantDue then none
  else
    match firstFrom s.arb.capturePtr s.captureEligible with
    | some l => some (.capture l)
    | none =>
      match s.stampFrom true s.arb.highPtr with
      | some p => some (.stamp p)
      | none => (s.stampFrom false s.arb.normalPtr).map .stamp

/-! ## Second marks and timers -/

/-- Whether the conditions of a lock wait hold: the lock flag raised, the main oscillator present, and a lock wait open, in COLD
or in the LOCK_WAIT phase of FALLBACK (R3). -/
def State.lockWaitOpens (s : State) : Bool :=
  s.tick.lockFlag && decide (s.tick.mainMonitor = .present) && decide (s.tick.pllMonitor = .unlocked) &&
    (decide (s.steer.state = .cold) || (decide (s.steer.state = .fallback) && decide (s.tick.returnPhase = .lockWait)))

/-- Whether the acquisition timer has expired (R40). -/
def State.acqExpired (s : State) : Bool :=
  decide (s.steer.state = .acquire) &&
    match s.steer.acqTimer with
    | some n => decide (s.steer.acqTimeout * ticksPerSecond ≤ n)
    | none => false

/-- Whether XT has reached an optional instant. -/
def reached (x : Option Ns) (now : Ns) : Bool :=
  match x with
  | some d => decide (d ≤ now)
  | none => false

/-- Whether LEAP_BEGIN is to be made: an insertion whose T has been reached and not acted on (R64). -/
def LeapUnit.beginDue (l : LeapUnit) (x : Ns) : Bool :=
  match l.pending with
  | some p => decide (p.leap.kind = .insert) && !p.begun && decide (p.t ≤ x)
  | none => false

/-- Whether the pending leap is to be carried out (R64): a deletion at T; an insertion at T + 10^9, once begun. -/
def LeapUnit.executeDue (l : LeapUnit) (x : Ns) : Bool :=
  match l.pending with
  | some p =>
    match p.leap.kind with
    | .insert => p.begun && decide (p.t + secondNs ≤ x)
    | .delete => decide (p.t ≤ x)
  | none => false

end Sys2Proof.Machine
end

