-- ==== Sys2Proof/Machine/Operands.lean ====
section
/-! DEFINITION. Reading a command's operands: the numbers a byte names, the ranges of the timing items, the fields of a
time-of-day message, and the conversion of a UTC time to XT. -/

namespace Sys2Proof.Machine

/-! ## Numbers in a body -/

/-- The segment a byte names; none above 63. -/
def segOf (b : Byte) : Option SegId := if h : b.toNat < 64 then some ⟨b.toNat, h⟩ else none

/-- The profile a byte names; none above 3. -/
def profileOfByte (b : Byte) : Option ProfileId := if h : b.toNat < 4 then some ⟨b.toNat, h⟩ else none

/-- The port or line a byte names; none above 7. -/
def eightOf (b : Byte) : Option (Fin 8) := if h : b.toNat < 8 then some ⟨b.toNat, h⟩ else none

/-- The code that asks for a field to be kept (10 Table 10-3). -/
def keepByte : Byte := 255#8

/-- The edge selection a byte names (10 Table 10-3). -/
def edgeSelOf (b : Byte) : Option EdgeSel :=
  match b.toNat with
  | 0 => some .off
  | 1 => some .rising
  | 2 => some .falling
  | 3 => some .both
  | _ => none

/-- The code of an edge selection. -/
def EdgeSel.code : EdgeSel → Nat
  | .off => 0
  | .rising => 1
  | .falling => 2
  | .both => 3

/-- Whether an edge is selected (R121). -/
def EdgeSel.selects : EdgeSel → EdgeKind → Bool
  | .off, _ => false
  | .rising, .rising => true
  | .rising, .falling => false
  | .falling, .rising => false
  | .falling, .falling => true
  | .both, _ => true

/-- The level a byte names: 0 low, 1 high (10 Table 10-3). -/
def levelOf (b : Byte) : Option Bool :=
  match b.toNat with
  | 0 => some false
  | 1 => some true
  | _ => none

/-! ## SET_TIMING values (section 9.8) -/

/-- The range of each timing item: 01 R16, 02 Table 2-8, 03 Table 3-8, R73, R141. -/
def itemRange : TimingItem → Int × Int
  | .settlePeriod => (1, 600)
  | .refProfile _ => (0, 1)
  | .refPriority _ => (0, 3)
  | .cableDelay _ => (-1000000, 1000000)
  | .pWin => (100, 100000)
  | .minimumQuality => (0, 15)
  | .limitD => (100, 1000000)
  | .revertiveMode => (0, 1)
  | .kp => (0, 1023)
  | .ki => (0, 1023)
  | .slewL => (1, 8388608)
  | .growthH => (1, 65535)
  | .growthHRing => (1, 10000000)
  | .wLock => (50, 100000)
  | .acquisitionTimeout => (10, 3600)
  | .limitM => (1000, 10000000)
  | .uFixed => (0, 65535)
  | .uManual => (0, 4294967295)
  | .utcOffset => (-128, 127)
  | .summaryInterval => (1, 3600)
  | .summaryMode => (0, 1)

/-- The value an item takes from a SET_TIMING: the signed value sent, clamped to the item's range (R163). -/
def itemValue (item : TimingItem) (v : BitVec 64) : Int := clampInt (itemRange item).1 (itemRange item).2 v.toInt

/-- Whether the value was clamped (R163). -/
def itemClamped (item : TimingItem) (v : BitVec 64) : Bool := itemValue item v != v.toInt

/-- The code of a reference profile (section 2.10). -/
def RefProfile.code : RefProfile → Int
  | .strict => 0
  | .lenient => 1

/-- The reference profile of a code. -/
def profileOfCode (v : Int) : RefProfile := if v = 0 then .strict else .lenient

/-- The code of a summary mode (R141). -/
def SummaryMode.code : SummaryMode → Int
  | .auto => 0
  | .manual => 1

/-- The summary mode of a code. -/
def summaryModeOf (v : Int) : SummaryMode := if v = 0 then .auto else .manual

/-- A flag as a number. -/
def boolCode (b : Bool) : Int := if b then 1 else 0

/-! ## The time-of-day message (R168) -/

/-- The leap announcement a byte names. -/
def leapCodeOf (b : Byte) : Option LeapCode :=
  match b.toNat with
  | 0 => some .none
  | 1 => some .insert
  | 2 => some .delete
  | _ => none

/-- The sum of all bytes modulo 256 (R19). -/
def byteSum (bs : List Byte) : Nat := (bs.foldl (fun acc b => acc + b.toNat) 0) % 256

/-- The fields of a complete message, marked unused and dated with its arrival XT, when it passes the checks of R19; none when
it fails one. -/
def parseMessage (bs : List Byte) (arrival : Ns) : Option Message :=
  match leapCodeOf (byteAt bs 6) with
  | none => none
  | some a =>
    if byteSum bs = 0 ∧ (byteAt bs 7).toNat ≤ 15 ∧ fieldAt bs 0 5 < secondsLimit then
      some
        { seconds := fieldAt bs 0 5
          offset := (byteAt bs 5).toInt
          announcement := a
          quality := (byteAt bs 7).toNat
          uncertainty := fieldAt bs 8 2
          sumCheck := (byteAt bs 15).toNat
          arrival := arrival
          used := false }
    else none

/-! ## From UTC to XT (R65) -/

/-- D_end of a leap day, in UTC seconds (R63). -/
def dEnd (day : Nat) : Int := ((day + 1) * daySeconds : Nat)

/-- The correction of R65 for a UTC time of `u` ns when a leap is pending. -/
def LeapUnit.correction (l : LeapUnit) (u : Int) : Int :=
  match l.pending with
  | none => 0
  | some p =>
    if u < dEnd p.leap.day * secondNs then 0
    else
      match p.leap.kind with
      | .insert => secondNs
      | .delete => -(secondNs : Int)

/-- The XT of a time of day (ns) of a UTC day; none when it is out of range (R65). -/
def LeapUnit.convert (l : LeapUnit) (day tod : Nat) : Option Ns :=
  let u : Int := (day * dayNs + tod : Nat)
  let x := u + l.offset * secondNs + l.correction u
  if 0 ≤ x ∧ x < stepLimit then some x else none

/-- The armed instants of a definition for a UTC day, with their taken marks clear; none when a time converts out of range
(R97). -/
def LeapUnit.arm (l : LeapUnit) (day : Nat) (d : Definition) : Option ArmedInstants :=
  match l.convert day d.openTime.toNat, l.convert day d.callTime.toNat, l.convert day d.closeTime.toNat with
  | some o, some c, some k => some { openAt := ⟨o, false⟩, callAt := ⟨c, false⟩, closeAt := ⟨k, false⟩ }
  | _, _, _ => none

/-! ## Definitions (06 Table 6-2) -/

/-- Whether a definition is the empty definition: its three times are 0. -/
def Definition.isEmpty (d : Definition) : Bool :=
  decide (d.openTime.toNat = 0) && decide (d.callTime.toNat = 0) && decide (d.closeTime.toNat = 0)

/-- Whether the times lie within the day and in increasing order, and the repeat is at most 127 (R111). -/
def Definition.inRange (d : Definition) : Bool :=
  decide (d.closeTime.toNat < dayNs) && decide (d.openTime.toNat < d.callTime.toNat) &&
    decide (d.callTime.toNat < d.closeTime.toNat) && decide (d.repeats.toNat ≤ 127)

/-- Whether two definitions agree in every field but the call and close times (R113). -/
def Definition.revises (d old : Definition) : Bool :=
  decide (d.firstDay = old.firstDay) && decide (d.openTime = old.openTime) && decide (d.hold = old.hold) &&
    decide (d.subscribers = old.subscribers) && decide (d.outputs = old.outputs) && decide (d.repeats = old.repeats)

end Sys2Proof.Machine
end

