-- ==== Sys2Proof/Machine/Layouts.lean ====
section
/-! DEFINITION. The byte layouts of chapter 10: the records of a batch, the trail entries, and the frames the part sends (R165 to
R167). -/

namespace Sys2Proof.Machine

/-! ## Codes (10 Table 10-1 and beside the layouts) -/

def TimescaleState.code : TimescaleState → Nat
  | .cold => 0
  | .acquire => 1
  | .locked => 2
  | .holdover => 3
  | .fallback => 4

def LeapState.code : LeapState → Nat
  | .none => 0
  | .insertPending => 1
  | .deletePending => 2
  | .inLeap => 3

/-- A reference, or none, which is 255. -/
def refCode (r : Option RefId) : Nat :=
  match r with
  | some r => r.code
  | none => 255

def RefState.code : RefState → Nat
  | .absent => 0
  | .qualifying => 1
  | .qualified => 2
  | .lost => 3

def SegState.code : SegState → Nat
  | .idle => 0
  | .armed => 1
  | .opened => 2
  | .call => 3
  | .random => 4
  | .suspended => 5
  | .closed => 6

def Committed.code : Committed → Nat
  | .settled st => st.code
  | .ending => 7

def PhaseTag.code : PhaseTag → Nat
  | .outOfCycle => 0
  | .opened => 2
  | .call => 3
  | .random => 4
  | .suspended => 5
  | .closed => 6

def CloseOutcome.code : CloseOutcome → Nat
  | .drawn => 0
  | .released => 1
  | .halted => 2

def ResultCode.code : ResultCode → Nat
  | .ok => 0
  | .notReady => 1
  | .noRight => 2
  | .badIndex => 3
  | .badState => 4
  | .limit => 5
  | .tooLate => 6
  | .malformed => 7

/-- A leap's kind, or none. -/
def leapKindCode (l : Option Leap) : Nat :=
  match l with
  | none => 0
  | some ⟨.insert, _⟩ => 1
  | some ⟨.delete, _⟩ => 2

/-- A leap's day, 0 for none. -/
def leapDayCode (l : Option Leap) : Nat :=
  match l with
  | none => 0
  | some l => l.day

def LeapSource.code : LeapSource → Nat
  | .reference => 0
  | .request => 1

def edgeCode : EdgeKind → Nat
  | .rising => 0
  | .falling => 1

/-- A port in a body; none is 255. -/
def portCode (p : Option Port) : Nat :=
  match p with
  | some p => p.val
  | none => 255

/-- 03 Table 3-3, numbered from 0 in its order. -/
def TimescaleCause.code : TimescaleCause → Nat
  | .lockConfirmed => 0
  | .mainLoss => 1
  | .mainReturn => 2
  | .lockAchieved => 3
  | .acqTimeout => 4
  | .referenceLost => 5
  | .referenceRegained => 6
  | .acqStep => 7
  | .manualStep => 8
  | .bound => 9

/-- 04 Table 4-5, numbered from 0 in its order. -/
def LeapCause.code : LeapCause → Nat
  | .pending => 0
  | .withdrawn => 1
  | .leapBegin => 2
  | .executed => 3
  | .late => 4
  | .outOfRange => 5
  | .disagree => 6
  | .offsetCorrected => 7

/-- The event codes of section 10.3. -/
def SegEventCode.code : SegEventCode → Nat
  | .arm => 0
  | .revise => 1
  | .disarm => 2
  | .missed => 3
  | .opened => 4
  | .call => 5
  | .random => 6
  | .suspend => 7
  | .close => 8
  | .halt => 9
  | .extend => 10

/-! ## Pieces of a layout -/

/-- `n` pad bytes. -/
def pad (n : Nat) : List Byte := List.replicate n 0#8

/-- One byte. -/
def u8 (v : Nat) : List Byte := [BitVec.ofNat 8 v]

/-- An XT in 8 bytes; one that a shift has brought below 0 is sent modulo 2^64 (log entry 32). -/
def xtBytes (x : Ns) : List Byte := beBytes 8 (BitVec.ofInt 64 x).toNat

/-- The weight of flag bit `i` when `b` is set. -/
def bit (i : Nat) (b : Bool) : Nat := if b then 2 ^ i else 0

/-- An optional field, sent as zeros while absent (R165). -/
def optBytes {α : Type} (size : Nat) (f : α → List Byte) (x : Option α) : List Byte :=
  match x with
  | some v => f v
  | none => pad size

/-- Three armed instants, 8 bytes each. -/
def ArmedInstants.encode (a : ArmedInstants) : List Byte :=
  xtBytes a.openAt.xt ++ xtBytes a.callAt.xt ++ xtBytes a.closeAt.xt

/-- The taken marks: bit 0 open, bit 1 call, bit 2 close. -/
def ArmedInstants.marks (a : ArmedInstants) : Nat := bit 0 a.openAt.taken + bit 1 a.callAt.taken + bit 2 a.closeAt.taken

/-- The close record, 32 bytes (10 Table 10-11). -/
def CloseRecord.encode (r : CloseRecord) : List Byte :=
  beBytes 4 r.cycle ++ u8 r.outcome.code ++ u8 (bit 0 r.traceable + bit 1 r.r.isSome) ++ u8 r.extensions ++ pad 1
    ++ xtBytes r.closeXt ++ beBytes 8 r.closeSeq ++ beBytes 4 (r.r.getD 0) ++ beBytes 4 r.bound

/-! ## Trail entries (10 Table 10-10, 10-12, 10-13) -/

/-- A profile's fields in 8 bytes. -/
def SegProfile.encode (p : SegProfile) : List Byte := beBytes 4 p.window ++ beBytes 2 p.extLength ++ u8 p.maxExt ++ pad 1

/-- The code of a SEGMENT action. -/
def SegAction.code : SegAction → Nat
  | .write false .. => 0
  | .write true .. => 1
  | .missed .. => 2
  | .opened .. => 3
  | .call .. => 4
  | .suspend .. => 5
  | .profile .. => 6

/-- The flags of a SEGMENT entry: bit 0 revision, bit 1 traceable. -/
def SegAction.flags : SegAction → Nat
  | .write _ _ _ _ _ revised => bit 0 revised.isSome
  | .suspend _ _ _ traceable _ => bit 1 traceable
  | _ => 0

/-- The tail of a SEGMENT entry (10 Table 10-13). DESIGN CHOICE (log entry 42): an empty definition is 32 zero bytes. -/
def SegAction.tail : SegAction → List Byte
  | .write _ pid day defn armed revised =>
    u8 pid.val ++ pad 3 ++ beBytes 4 (day.getD 0) ++ optBytes 32 Definition.encode defn
      ++ optBytes 24 ArmedInstants.encode armed
      ++ optBytes 16 (fun (o : Ns × Ns) => xtBytes o.1 ++ xtBytes o.2) revised ++ pad 16
  | .missed day openXt => beBytes 4 (day.getD 0) ++ xtBytes openXt
  | .opened cycle day armed => beBytes 4 cycle ++ beBytes 4 (day.getD 0) ++ optBytes 24 ArmedInstants.encode armed
  | .call cycle closeXt => beBytes 4 cycle ++ xtBytes closeXt
  | .suspend cycle window draw _ bound =>
    beBytes 4 cycle ++ optBytes 4 (fun (d : Draw) => beBytes 4 d.raw.toNat) draw ++ beBytes 4 window
      ++ optBytes 4 (fun (d : Draw) => beBytes 4 d.r) draw ++ beBytes 4 bound
      ++ optBytes 8 (fun (d : Draw) => xtBytes d.closeXt) draw
  | .profile old new _ => old.encode ++ new.encode

/-- One reference's GOOD, BAD and MISSING seconds. -/
def secondsOf (c : Counters) (r : RefId) : List Byte :=
  beBytes 4 (c.good.get r) ++ beBytes 4 (c.bad.get r) ++ beBytes 4 (c.missing.get r)

/-- An optional span of e in 8 bytes. -/
def spanBytes (x : Option ErrorSpan) : List Byte := optBytes 8 (fun (p : ErrorSpan) => beSigned 4 p.least ++ beSigned 4 p.greatest) x

/-- The code of a trail entry's kind (10 Table 10-10). -/
def TrailBody.code : TrailBody → Nat
  | .restart .. => 1
  | .secondEvidence .. => 2
  | .timescale .. => 3
  | .source .. => 4
  | .leap .. => 5
  | .config .. => 6
  | .segment .. => 7
  | .draw .. => 8
  | .close .. => 9
  | .extend .. => 10
  | .port .. => 11
  | .summary .. => 12

/-- The body of a PORT entry after its port (10 Table 10-12). DESIGN CHOICE (log entry 45): the cause byte of LINK_UP and of
OVERRUN is 0. -/
def PortEvent.encode : PortEvent → List Byte
  | .linkUp => u8 0 ++ pad 22
  | .overrun => u8 1 ++ pad 22
  | .portReset cause discarded range =>
    u8 2 ++ u8 (match cause with
      | .linkTimeout => 0
      | .resetFrame => 1)
      ++ u8 (bit 0 range.isSome) ++ beBytes 2 discarded ++ pad 2
      ++ optBytes 16 (fun (o : Nat × Nat) => beBytes 8 o.1 ++ beBytes 8 o.2) range

/-- The body of a trail entry (10 Table 10-12). DESIGN CHOICE (log entry 44): the reference byte of a SOURCE entry that reports a
selection change is 255. DEDUCED (log entry 50): a CLOSE entry of a HALT in RANDOM has draw voided set and draw disclosed clear. -/
def TrailBody.encode : TrailBody → List Byte
  | .restart epoch reinit => beBytes 2 epoch ++ u8 (bit 0 reinit) ++ pad 1
  | .secondEvidence state selection error adj bound traceable =>
    u8 state.code ++ u8 (refCode selection) ++ u8 (bit 0 error.isSome + bit 1 traceable) ++ pad 1
      ++ optBytes 4 (beSigned 4) error ++ beSigned 4 adj ++ beBytes 4 bound
  | .timescale old new cause bound traceable displacement =>
    u8 old.code ++ u8 new.code ++ u8 cause.code ++ u8 (bit 0 traceable + bit 1 displacement.isSome) ++ beBytes 4 bound
      ++ optBytes 8 (beSigned 8) displacement
  | .source (.refState r old new) => u8 0 ++ u8 r.code ++ u8 old.code ++ u8 new.code
  | .source (.selection old new) => u8 1 ++ u8 (refCode none) ++ u8 (refCode old) ++ u8 (refCode new)
  | .leap e =>
    u8 e.cause.code ++ u8 (leapKindCode e.leap) ++ u8 e.source.code ++ u8 (leapKindCode e.second)
      ++ beBytes 4 (leapDayCode e.leap) ++ beBytes 4 (leapDayCode e.second) ++ beSigned 1 e.offsetBefore
      ++ beSigned 1 e.offsetAfter ++ pad 2 ++ xtBytes e.t ++ xtBytes e.threshold ++ beSigned 8 e.amount
  | .config (.item by_ item old new clamped) =>
    u8 by_.val ++ u8 (bit 0 clamped) ++ beBytes 2 item ++ beSigned 8 old ++ beSigned 8 new
  | .config (.output by_ line oldMode newMode oldHigh newHigh oldWidth newWidth oldInstant newInstant clamped) =>
    u8 by_.val ++ u8 (bit 0 clamped + bit 1 oldInstant.isSome + bit 2 newInstant.isSome) ++ beBytes 2 (272 + line.val)
      ++ [oldMode.code] ++ u8 (bit 0 oldHigh) ++ [newMode.code] ++ u8 (bit 0 newHigh)
      ++ beBytes 4 oldWidth ++ beBytes 4 newWidth ++ optBytes 8 xtBytes oldInstant ++ optBytes 8 xtBytes newInstant
  | .segment id action by_ eventSeq =>
    u8 action.code ++ u8 id ++ u8 (portCode by_) ++ u8 action.flags ++ beBytes 8 eventSeq ++ action.tail
  | .draw seg cycle window armedClose eventSeq =>
    u8 seg.val ++ pad 3 ++ beBytes 4 cycle ++ beBytes 4 window ++ pad 4 ++ xtBytes armedClose ++ beBytes 8 eventSeq
  | .close e =>
    u8 e.seg.val ++ u8 e.outcome.code
      ++ u8 (bit 0 e.traceable + bit 1 (e.draw.isSome && !e.voided) + bit 2 (e.draw.isSome && e.voided) + bit 3 e.dayArmed.isSome)
      ++ u8 (portCode e.port) ++ u8 e.stateBefore.code ++ u8 e.skipped ++ pad 2
      ++ beBytes 4 e.cycle ++ beBytes 4 (e.dayArmed.getD 0)
      ++ optBytes 4 (fun (d : Draw) => beBytes 4 d.raw.toNat) e.draw ++ (if e.draw.isSome then beBytes 4 e.window else pad 4)
      ++ optBytes 4 (fun (d : Draw) => beBytes 4 d.r) e.draw ++ beBytes 4 e.bound
      ++ optBytes 8 (fun (d : Draw) => xtBytes d.closeXt) e.draw ++ xtBytes e.closeXt ++ xtBytes e.grantXt
      ++ beBytes 8 e.eventSeq
  | .extend seg cycle extensions newClose eventSeq by_ voided =>
    u8 seg.val ++ u8 extensions ++ u8 (bit 0 voided.isSome) ++ u8 by_.val ++ beBytes 4 cycle ++ xtBytes newClose
      ++ beBytes 8 eventSeq ++ optBytes 4 (fun (d : Draw) => beBytes 4 d.raw.toNat) voided
      ++ optBytes 4 (fun (d : Draw) => beBytes 4 d.r) voided ++ optBytes 8 (fun (d : Draw) => xtBytes d.closeXt) voided
  | .port p event => u8 p.val ++ event.encode
  | .summary by_ seconds previous c =>
    u8 (bit 0 by_.isSome) ++ u8 (portCode by_)
      ++ u8 (bit 0 c.span.a.isSome + bit 1 c.span.b.isSome + bit 2 c.span.c.isSome + bit 3 c.maxBound.isSome) ++ pad 1
      ++ beBytes 4 seconds ++ beBytes 8 previous
      ++ secondsOf c .refA ++ secondsOf c .refB ++ secondsOf c .refC
      ++ spanBytes c.span.a ++ spanBytes c.span.b ++ spanBytes c.span.c
      ++ beBytes 4 (c.maxBound.getD 0) ++ beBytes 4 c.untraceable
      ++ c.stamps.toList.flatMap (beBytes 4) ++ beBytes 4 c.captures ++ beBytes 4 c.overflows
      ++ c.crcDiscards.toList.flatMap (beBytes 4) ++ beBytes 4 c.suppressed ++ beBytes 4 c.overwritten

/-- A trail entry: its 28-byte head and its body (10 Table 10-10), which has no place for the offset and the leap state of its XT
(log entry 52). -/
def TrailEntry.encode (e : TrailEntry) : List Byte :=
  beBytes 8 e.seq ++ u8 e.body.code ++ u8 (bit 0 e.body.classB) ++ beBytes 2 e.body.encode.length ++ xtBytes e.written.xt
    ++ beBytes 8 e.written.seq ++ e.body.encode

/-! ## Records of a batch (10 Table 10-5, 10-8, 10-9) -/

/-- 10 Table 10-8, STAMPED. -/
def StampedBody.encode (b : StampedBody) : List Byte :=
  beBytes 2 b.time.epoch ++ beBytes 8 b.time.seq ++ xtBytes b.time.xt ++ beSigned 1 b.time.offset ++ u8 b.time.leapState.code
    ++ u8 b.time.state.code ++ u8 (bit 0 b.time.traceable + bit 1 b.segPart.isSome) ++ beBytes 4 b.time.bound
    ++ beBytes 8 b.evidence
    ++ optBytes 6 (fun (g : SegPart) => u8 g.seg.val ++ u8 g.phase.code ++ beBytes 4 g.cycle) b.segPart

/-- 10 Table 10-5, TIME. -/
def TimeReading.encode (b : TimeReading) : List Byte :=
  beBytes 2 b.epoch ++ beBytes 8 b.seq ++ xtBytes b.xt ++ beSigned 1 b.offset ++ u8 b.leapState.code ++ u8 b.state.code
    ++ u8 (bit 0 b.traceable) ++ beBytes 4 b.bound

/-- 10 Table 10-5, one block of EVIDENCE. -/
def EvidenceBlock.encode (b : EvidenceBlock) : List Byte :=
  u8 b.state.code ++ u8 (bit 0 b.selected + bit 1 b.lastE.isSome + bit 2 b.span.isSome + bit 3 b.lastD.isSome)
    ++ u8 b.disagree ++ pad 1 ++ optBytes 4 (beSigned 4) b.lastE ++ spanBytes b.span ++ optBytes 4 (beBytes 4) b.lastD

/-- 10 Table 10-9. -/
def SegmentBody.encode (b : SegmentBody) : List Byte :=
  u8 b.seg.val ++ u8 (bit 0 b.defn.isSome + bit 1 b.armed.isSome + bit 2 b.closeRec.isSome)
    ++ u8 (if b.defn.isSome then b.profile.val else 0) ++ u8 b.state.code ++ u8 b.committed.code ++ u8 b.extensions
    ++ optBytes 1 (fun (a : ArmedInstants) => u8 a.marks) b.armed ++ pad 1 ++ optBytes 32 Definition.encode b.defn
    ++ beBytes 4 (b.armedDay.getD 0) ++ beBytes 4 b.cycle ++ optBytes 24 ArmedInstants.encode b.armed
    ++ beBytes 8 b.lastOpen ++ beBytes 8 b.lastCall ++ beBytes 8 b.lastClose ++ optBytes 32 CloseRecord.encode b.closeRec

/-- The cause source, code and reference of a STATUS notice (10 Table 10-5). -/
def statusCauseBytes (c : Option StatusCause) : List Byte :=
  match c with
  | none => u8 0 ++ u8 0 ++ u8 255
  | some (.timescale c) => u8 0 ++ u8 c.code ++ u8 255
  | some (.reference r st) => u8 1 ++ u8 st.code ++ u8 r.code
  | some (.selection sel) => u8 2 ++ u8 (refCode sel) ++ u8 255
  | some (.leap c) => u8 3 ++ u8 c.code ++ u8 255

/-- 10 Table 10-5, STATUS. -/
def StatusBody.encode (b : StatusBody) : List Byte :=
  xtBytes b.time.xt ++ beSigned 1 b.time.offset ++ u8 b.time.leapState.code ++ u8 b.time.state.code
    ++ u8 (bit 0 b.time.traceable) ++ beBytes 4 b.time.bound ++ u8 (refCode b.selection) ++ u8 b.refStates.a.code
    ++ u8 b.refStates.b.code ++ u8 b.refStates.c.code ++ statusCauseBytes b.cause ++ pad 1 ++ beBytes 2 b.count

/-- 10 Table 10-5, SEGMENT_EVENT, which has no place for the offset and the leap state of its XT (log entry 52). -/
def SegNotice.encode (b : SegNotice) : List Byte :=
  beBytes 2 b.epoch ++ u8 b.seg.val ++ u8 b.event.code ++ u8 b.after.code
    ++ u8 (bit 0 b.fromSet + bit 1 b.closeRec.isSome + bit 2 b.newClose.isSome) ++ beBytes 2 b.count ++ beBytes 4 b.cycle
    ++ u8 b.extensions ++ pad 3 ++ beBytes 8 b.seq ++ xtBytes b.xt ++ optBytes 8 xtBytes b.newClose
    ++ beBytes 8 b.lastOpen ++ beBytes 8 b.lastCall ++ beBytes 8 b.lastClose ++ optBytes 32 CloseRecord.encode b.closeRec

/-- 10 Table 10-8, CAPTURED. -/
def CapturedBody.encode (b : CapturedBody) : List Byte :=
  u8 b.line.val ++ u8 (edgeCode b.edge) ++ u8 b.overflow ++ u8 b.time.state.code ++ beSigned 1 b.time.offset
    ++ u8 b.time.leapState.code ++ u8 (bit 0 b.time.traceable) ++ pad 1 ++ beBytes 2 b.time.epoch ++ pad 2
    ++ beBytes 4 b.time.bound ++ beBytes 8 b.time.seq ++ xtBytes b.edgeXt ++ xtBytes b.time.xt

/-- The tag a record answers; 0 for a notice (R157). -/
def Record.tag : Record → Tag
  | .stamped tag _ => tag
  | .time tag _ => tag
  | .evidence tag _ => tag
  | .segment tag _ => tag
  | .trail tag .. => tag
  | .done tag .. => tag
  | .status _ => 0
  | .segmentEvent _ => 0
  | .captured _ => 0
  | .port _ => 0

/-- The kind code of a record (10 Table 10-5). -/
def Record.kindCode : Record → Nat
  | .stamped .. => 144
  | .time .. => 145
  | .evidence .. => 146
  | .segment .. => 147
  | .trail .. => 148
  | .done .. => 149
  | .status _ => 160
  | .segmentEvent _ => 161
  | .captured _ => 162
  | .port _ => 163

/-- The body of a record (10 Table 10-5). -/
def Record.bodyBytes : Record → List Byte
  | .stamped _ b => b.encode
  | .time _ b => b.encode
  | .evidence _ b => b.a.encode ++ b.b.encode ++ b.c.encode
  | .segment _ b => b.encode
  | .trail _ k wIx entries =>
    beBytes 8 k ++ beBytes 8 wIx ++ u8 entries.length ++ pad 3 ++ entries.flatMap TrailEntry.encode
  | .done _ code clamped => u8 code.code ++ u8 (bit 0 clamped)
  | .status b => b.encode
  | .segmentEvent b => b.encode
  | .captured b => b.encode
  | .port overrun => beBytes 2 overrun ++ pad 2

/-- A record: its seven-byte head and its body (10 Table 10-4). -/
def Record.encode (r : Record) : List Byte :=
  u8 r.kindCode ++ beBytes 2 r.bodyBytes.length ++ beBytes 4 r.tag.toNat ++ r.bodyBytes

/-- The sequence number a record of the order sequence carries: STAMPED and CAPTURED alone (R93). -/
def Record.seqNumber : Record → Option Nat
  | .stamped _ b => some b.time.seq
  | .captured b => some b.time.seq
  | _ => none

/-! ## Frames from the part (10 Table 10-2) -/

/-- The bytes of a frame from the part, its CRC among them. -/
def partFrame (kind : Nat) (hold : Bool) (free batchNumber : Nat) (records : List Record) : List Byte :=
  withCrc (u8 kind ++ pad 4 ++ u8 (bit 0 hold) ++ u8 free ++ beBytes 4 batchNumber ++ u8 records.length
    ++ records.flatMap Record.encode)

/-- An idle frame of a port, as its state stands (R150). -/
def PortCtl.idleFrame (pc : PortCtl) : List Byte := partFrame 128 pc.hold pc.freeRequests pc.batchNumber []

/-- A batch frame of a port that carries `records` under batch number `n` (R150, R156). -/
def PortCtl.batchFrame (pc : PortCtl) (n : Nat) (records : List Record) : List Byte :=
  partFrame 129 pc.hold pc.freeRequests n records

end Sys2Proof.Machine
end

