-- ==== Sys2Proof/Machine/Ops.lean ====
section
/-! DEFINITION. The operations the commands share: writing the trail and its counters, response queues and notices, the taking and
answering of requests, the shift of armed instants and the pending leap record, the commit list, changes of the timescale state
and the opening of stamping, and the port reset. -/

namespace Sys2Proof.Machine

/-! ## The trail (R132 to R139) -/

/-- One more on a 32-bit counter, saturating (R137). -/
def bump (n : Nat) : Nat := satAdd max32 n 1

/-- Whether an entry is evidence in the sense of the evidence index (R89). -/
def TrailBody.isEvidence : TrailBody → Bool
  | .secondEvidence .. => true
  | .timescale .. => true
  | _ => false

/-- Whether an entry is a SUMMARY. -/
def TrailBody.isSummary : TrailBody → Bool
  | .summary .. => true
  | _ => false

/-- Step 1 of a write: a full store gives up its oldest readable entry, which is counted (R133). -/
def TrailUnit.makePlace (t : TrailUnit) : TrailUnit :=
  if t.unread < trailPlaces then t
  else
    { t with
      entries := t.entries.tail
      k := t.k + 1
      counters := { t.counters with overwritten := bump t.counters.overwritten } }

/-- Steps 2 to 4 of a write (R133). -/
def TrailUnit.append (t : TrailUnit) (b : TrailBody) (w : Writing) : TrailUnit :=
  { t with
    entries := t.entries ++ [{ seq := t.wIx, written := w, body := b }]
    wIx := t.wIx + 1
    evidence := if b.isEvidence then t.wIx else t.evidence
    prevSummary := if b.isSummary then t.wIx else t.prevSummary }

/-- The writing of an entry that passed the class gate (R133). -/
def TrailUnit.write (t : TrailUnit) (b : TrailBody) (w : Writing) : TrailUnit := t.makePlace.append b w

/-- One entry request: the class gate, then the write, or the suppressed count (R134). -/
def TrailUnit.request (t : TrailUnit) (b : TrailBody) (w : Writing) : TrailUnit :=
  if b.classB && decide (classBLimit ≤ t.unread) then
    { t with counters := { t.counters with suppressed := bump t.counters.suppressed } }
  else t.write b w

/-- Asking the Trail Unit for an entry, handled at this tick (R132). The entry takes the readings as they stand when it
is asked for (log entry 52). -/
def State.ask (s : State) (b : TrailBody) : State := s.withTrail (s.trail.request b s.writing)

/-- Counting into the summary counters (R137). -/
def State.count (s : State) (f : Counters → Counters) : State :=
  s.withTrail { s.trail with counters := f s.trail.counters }

/-- Writing a summary: its body is the counters and the seconds covered as they stand, then the counters are zeroed, then the
entry is written (R139). The cause is REQUEST with a port, INTERVAL without one. -/
def TrailUnit.summarise (t : TrailUnit) (port : Option Port) (w : Writing) : TrailUnit :=
  TrailUnit.request { t with counters := .zero, seconds := 0 } (.summary port t.seconds t.prevSummary t.counters) w

/-- The span with `e` offered to it (R22, R137). -/
def offerError (x : Option ErrorSpan) (e : Int) : Option ErrorSpan :=
  match x with
  | none => some ⟨e, e⟩
  | some p => some ⟨min p.least e, max p.greatest e⟩

/-- The maximum with `b` offered to it (R137). -/
def offerMax (x : Option Nat) (b : Nat) : Option Nat :=
  match x with
  | none => some b
  | some m => some (max m b)

/-! ## Ports: queues, answers and notices (sections 9.3, 9.4) -/

/-- The state with port `p`'s controller replaced. -/
def State.withPort (s : State) (p : Port) (pc : PortCtl) : State := s.withPorts (s.ports.set p pc)

/-- A record joins the response queue at its tail (R155). -/
def PortCtl.enqueue (pc : PortCtl) (r : Record) : PortCtl := { pc with responses := pc.responses ++ [r] }

/-- The request queue becomes `q`; a change of the hold indication is noted for the next frame (R153). -/
def PortCtl.withRequests (pc : PortCtl) (q : List Request) : PortCtl :=
  { pc with requests := q, holdChanged := pc.holdChanged || pc.hold != decide (holdFrom ≤ q.length) }

/-- The service of the head request is complete: it leaves the request queue (R154). -/
def PortCtl.complete (pc : PortCtl) : PortCtl := { pc.withRequests pc.requests.tail with service := .untaken }

/-- An answer formed for the head request: it enters the response queue and completes the service, or waits at the head while
no entry is free (R154). -/
def PortCtl.answer (pc : PortCtl) (r : Record) : PortCtl :=
  if pc.hasRoom then (pc.enqueue r).complete else { pc with service := .waiting r false }

/-- A DRAIN's DONE: as any answer, and the batch threshold is disregarded until it has left (R161). -/
def PortCtl.answerDrain (pc : PortCtl) (tag : Tag) : PortCtl :=
  if pc.hasRoom then
    { (pc.enqueue (.done tag .ok false)).complete with drainDone := some (pc.responses.length + 1) }
  else { pc with service := .waiting (.done tag .ok false) true }

/-- Answering the request at the head of port `p`'s queue. -/
def State.answer (s : State) (p : Port) (r : Record) : State := s.withPort p ((s.port p).answer r)

/-- Answering it DONE. -/
def State.done (s : State) (p : Port) (tag : Tag) (code : ResultCode) (clamped : Bool) : State :=
  s.answer p (.done tag code clamped)

/-- Whether the request `tag`, `body` stands at the head of port `p`'s queue and is taken next (R154). -/
def State.headIs (s : State) (p : Port) (tag : Tag) (body : ReqBody) : Bool :=
  decide ((s.port p).service = .untaken) && decide ((s.port p).requests.head? = some { tag := tag, body := body })

/-- Taking a request that needs no right checked here. A command whose request is not at the head does nothing (log entry 1). -/
def State.take (s : State) (p : Port) (tag : Tag) (body : ReqBody) (serve : State → State) : State :=
  if s.headIs p tag body then serve s else s

/-- Taking a request that needs `right`: without it the answer is NO_RIGHT and nothing else changes (R148). -/
def State.takeWith (s : State) (right : Right) (p : Port) (tag : Tag) (body : ReqBody) (serve : State → State) : State :=
  s.take p tag body fun s => if (s.port p).role.has right then serve s else s.done p tag .noRight false

/-- A STATUS notice for a port: it enters at once, or is recorded in the set; nothing on a DOWN or unsubscribed port (R157,
R158). -/
def PortCtl.notifyStatus (pc : PortCtl) (body : StatusBody) : PortCtl :=
  if !pc.up || !pc.statusSub then pc
  else if pc.takesNotice then pc.enqueue (.status body)
  else { pc with pendStatus := some (satAdd max16 (pc.pendStatus.getD 0) 1) }

/-- Recording a segment event in the set, which is kept in the order of segment id (R158). -/
def recordSlot (seg : SegId) (event : SegEventCode) (seq : Nat) : List PendingSeg → List PendingSeg
  | [] => [{ seg := seg, count := 1, event := event, seq := seq }]
  | x :: xs =>
    if x.seg = seg then { x with count := satAdd max16 x.count 1, event := event, seq := seq } :: xs
    else if seg.val < x.seg.val then { seg := seg, count := 1, event := event, seq := seq } :: x :: xs
    else x :: recordSlot seg event seq xs

/-- A SEGMENT_EVENT notice for a port (R157, R158). -/
def PortCtl.notifySegment (pc : PortCtl) (n : SegNotice) : PortCtl :=
  if !pc.up then pc
  else if pc.takesNotice then pc.enqueue (.segmentEvent n)
  else { pc with pendSegs := recordSlot n.seg n.event n.seq pc.pendSegs }

/-- A PORT notice for the port itself: at once it carries the overrun count, which returns to 0 (R157). -/
def PortCtl.notifyPort (pc : PortCtl) : PortCtl :=
  if !pc.up then pc
  else if pc.takesNotice then { pc.enqueue (.port pc.overrun) with overrun := 0 }
  else { pc with pendPort := true }

/-- The body of a STATUS notice built now (R157). -/
def State.statusBody (s : State) (count : Nat) : StatusBody where
  time := s.reading
  selection := s.steer.selection
  refStates := s.refs.map RefRecord.state
  cause := s.lastCause
  count := count

/-- Raising a STATUS notice: queued to every UP port subscribed to STATUS (R38, R157). -/
def State.raiseStatus (s : State) (cause : StatusCause) : State :=
  (s.withLastCause (some cause)).withPorts
    (s.ports.map fun pc => pc.notifyStatus ((s.withLastCause (some cause)).statusBody 1))

/-- One reference's block of an EVIDENCE response (R34). -/
def State.evidenceBlock (s : State) (r : RefId) : EvidenceBlock where
  state := (s.refs.get r).state
  selected := decide (s.steer.selection = some r)
  lastE := (s.refs.get r).lastE
  span := (s.refs.get r).span
  disagree := (s.refs.get r).disagree
  lastD := (s.refs.get r).lastD

/-! ## Segment records and the commit list (R94) -/

/-- The state with segment `i`'s record replaced. -/
def State.withSeg (s : State) (i : SegId) (g : Segment) : State := s.withSegs (s.segs.set i g)

/-- Committing an event: the segment's committed state becomes `c` and the event joins the commit list (R94). -/
def State.commit (s : State) (e : SegEvent) (c : Committed) : State :=
  (s.withSeg e.seg { s.segs.get e.seg with committed := c }).withCommits (s.commits ++ [e])

/-- The SEGMENT response of segment `i` (R115): the record without the draw. -/
def State.segmentBody (s : State) (i : SegId) : SegmentBody where
  seg := i
  defn := (s.segs.get i).defn
  profile := (s.segs.get i).profile
  state := (s.segs.get i).state
  committed := (s.segs.get i).committed
  extensions := (s.segs.get i).extensions
  armedDay := (s.segs.get i).armedDay
  armed := (s.segs.get i).armed
  cycle := (s.segs.get i).cycle
  lastOpen := (s.segs.get i).lastOpen
  lastCall := (s.segs.get i).lastCall
  lastClose := (s.segs.get i).lastClose
  closeRec := (s.segs.get i).closeRec

/-- The lines in CLOSE_FOLLOW computed anew (R129). -/
def State.followCloses (s : State) : State :=
  s.withOutputs
    (s.outputs.mapFin fun l o => if o.mode = .closeFollow then { o with high := closeLevel s.segs l } else o)

/-! ## Shifts of armed instants (R68, R119) -/

/-- Whether `x` lies at or above a threshold; no threshold takes in every instant. -/
def atOrAbove (threshold : Option Ns) (x : Ns) : Bool :=
  match threshold with
  | some t => decide (t ≤ x)
  | none => true

/-- An XT value under a shift. -/
def shiftNs (threshold : Option Ns) (amount : Int) (x : Ns) : Ns := if atOrAbove threshold x then x + amount else x

/-- An armed instant under a shift; its taken mark stays. -/
def Instant.shift (threshold : Option Ns) (amount : Int) (i : Instant) : Instant :=
  { i with xt := shiftNs threshold amount i.xt }

/-- A segment under a shift: its armed instants and its drawn close XT (R68). -/
def Segment.shift (threshold : Option Ns) (amount : Int) (g : Segment) : Segment :=
  { g with
    armed := g.armed.map fun a =>
      { openAt := a.openAt.shift threshold amount
        callAt := a.callAt.shift threshold amount
        closeAt := a.closeAt.shift threshold amount }
    drawn := g.drawn.map fun d => { d with closeXt := shiftNs threshold amount d.closeXt } }

/-- A shift handed to the Segment Controller (R68). -/
def State.shiftSegments (s : State) (threshold : Option Ns) (amount : Int) : State :=
  s.withSegs (s.segs.map (Segment.shift threshold amount))

/-! ## The pending leap record (R67, R70, R72) -/

/-- A LEAP entry of a cause that carries nothing else yet. -/
def LeapEntry.blank (cause : LeapCause) : LeapEntry where
  cause := cause
  leap := none
  source := .reference
  second := none
  offsetBefore := 0
  offsetAfter := 0
  t := 0
  threshold := 0
  amount := 0

/-- A LEAP entry and the STATUS notice that goes with it (R64, R67, R72). -/
def State.reportLeap (s : State) (e : LeapEntry) : State := (s.ask (.leap e)).raiseStatus (.leap e.cause)

/-- The record that a leap would make under the held offset (R63). -/
def LeapUnit.recordOf (l : LeapUnit) (leap : Leap) (source : LeapSource) : PendingLeap :=
  let q : Ns := (dEnd leap.day + l.offset) * secondNs
  { leap := leap
    lOff := l.offset
    q := q
    t := match leap.kind with
      | .insert => q
      | .delete => q - secondNs
    source := source
    begun := false }

/-- The outcome of the three checks of R67 in their order. -/
inductive LeapCheck where
  | pass
  | outOfRange
  | late
  deriving DecidableEq, Repr

/-- The offset check: the leap's result lies within -128 to 127 (R67). -/
def offsetFits (kind : LeapKind) (lOff : Int) : Bool :=
  match kind with
  | .insert => decide (lOff + 1 ≤ 127)
  | .delete => decide (-128 ≤ lOff - 1)

/-- The checks of R67 on a leap, against the held offset and XT now. -/
def LeapUnit.check (l : LeapUnit) (leap : Leap) (now : Ns) : LeapCheck :=
  if !offsetFits leap.kind l.offset then .outOfRange
  else if stepLimit ≤ (l.recordOf leap .reference).q + secondNs then .outOfRange
  else if (l.recordOf leap .reference).t ≤ now then .late
  else .pass

/-- The amount of the shift when a leap becomes pending (04 Table 4-4). -/
def pendingAmount : LeapKind → Int
  | .insert => secondNs
  | .delete => -(secondNs : Int)

/-- Step 1 of R67: the record is withdrawn, with the shift of its withdrawal. DESIGN CHOICE (log entry 24): the entry holds the
leap's T beside what Table 4-5 names, and L_off as both offsets. -/
def State.withdrawLeap (s : State) (p : PendingLeap) : State :=
  let threshold := p.q + pendingAmount p.leap.kind
  let amount := -(pendingAmount p.leap.kind)
  (((s.withLeap { s.leap with pending := none }).shiftSegments (some threshold) amount)).reportLeap
    { LeapEntry.blank .withdrawn with
      leap := some p.leap
      source := p.source
      offsetBefore := p.lOff
      offsetAfter := p.lOff
      t := p.t
      threshold := threshold
      amount := amount }

/-- Step 2 of R67 for a target that names a leap: the checks, then the record with its shift, or the entry of the check that
failed. DESIGN CHOICE (log entry 24): the entries of a passed check and of OUT_OF_RANGE hold L_off as both offsets. -/
def State.makePending (s : State) (leap : Leap) (source : LeapSource) : State :=
  let p := s.leap.recordOf leap source
  match s.leap.check leap s.now with
  | .outOfRange =>
    s.ask (.leap { LeapEntry.blank .outOfRange with
      leap := some leap, source := source, offsetBefore := s.leap.offset, offsetAfter := s.leap.offset })
  | .late => s.ask (.leap { LeapEntry.blank .late with leap := some leap, source := source })
  | .pass =>
    ((s.withLeap { s.leap with pending := some p }).shiftSegments (some p.q) (pendingAmount leap.kind)).reportLeap
      { LeapEntry.blank .pending with
        leap := some leap
        source := source
        offsetBefore := p.lOff
        offsetAfter := p.lOff
        t := p.t
        threshold := p.q
        amount := pendingAmount leap.kind }

/-- Making the pending leap record agree with a target (R67). -/
def State.agreeLeap (s : State) (target : Option Leap) (source : LeapSource) : State :=
  if target = s.leap.pending.map PendingLeap.leap then s
  else
    let s := match s.leap.pending with
      | some p => s.withdrawLeap p
      | none => s
    match target with
    | some leap => s.makePending leap source
    | none => s

/-- Whether the SET_LEAP store and the held announcement disagree (R70). -/
def LeapUnit.disagrees (l : LeapUnit) : Bool :=
  match l.store, l.announced with
  | some _, .nothing => true
  | some x, .leap y => decide (x ≠ y)
  | _, _ => false

/-- The leap of an announcement, if it names one. -/
def Announcement.leap? : Announcement → Option Leap
  | .leap l => some l
  | _ => none

/-- The comparison of R70, made while the state is LOCKED. -/
def State.compareLeap (s : State) : State :=
  if decide (s.steer.state = .locked) && s.leap.disagrees then
    s.ask (.leap { LeapEntry.blank .disagree with
      leap := s.leap.store, second := s.leap.announced.leap?, source := .request })
  else s

/-- The held offset corrected to `new` (R72): every armed instant moves by the change, and a pending record with it (R73). -/
def State.correctOffset (s : State) (new : Int) (source : LeapSource) : State :=
  let delta := new - s.leap.offset
  if delta = 0 then s
  else
    ((s.withLeap
        { s.leap with
          offset := new
          pending := s.leap.pending.map fun p =>
            { p with lOff := new, t := p.t + delta * secondNs, q := p.q + delta * secondNs } }).shiftSegments none
        (delta * secondNs)).reportLeap
      { LeapEntry.blank .offsetCorrected with
        source := source
        offsetBefore := s.leap.offset
        offsetAfter := new
        amount := delta * secondNs }

/-- LEAP_BEGIN of an insertion: the entry and the notice (R64). DESIGN CHOICE (log entry 24): the entry's fields that Table 4-5
does not name hold the pending leap's kind, source and T. -/
def State.beginLeap (s : State) : State :=
  match s.leap.pending with
  | some p =>
    (s.withLeap { s.leap with pending := some { p with begun := true } }).reportLeap
      { LeapEntry.blank .leapBegin with
        leap := some p.leap
        source := p.source
        offsetBefore := p.lOff
        offsetAfter := p.lOff
        t := p.t }
  | none => s

/-- The offset after a leap (R64). -/
def PendingLeap.result (p : PendingLeap) : Int :=
  match p.leap.kind with
  | .insert => p.lOff + 1
  | .delete => p.lOff - 1

/-- The pending leap carried out (R64): the held offset changes, the record is removed, and a store of the same leap day is
emptied. DESIGN CHOICE (log entry 24): the entry's fields that Table 4-5 does not name hold the leap's kind, source and T. -/
def State.executeLeap (s : State) : State :=
  match s.leap.pending with
  | some p =>
    (s.withLeap
        { s.leap with
          offset := p.result
          pending := none
          store := if s.leap.store.map Leap.day = some p.leap.day then none else s.leap.store }).reportLeap
      { LeapEntry.blank .executed with
        leap := some p.leap
        source := p.source
        offsetBefore := p.lOff
        offsetAfter := p.result
        t := p.t }
  | none => s

/-- The Leap Unit acts for every instant of the record that XT has reached, in their order (R64). -/
def State.actOnLeap (s : State) : State :=
  let s := if s.leap.beginDue s.now then s.beginLeap else s
  if s.leap.executeDue s.now then s.executeLeap else s

/-! ## Changes of the timescale state (R38, R71) -/

/-- What the Leap Unit does when told of a change of the timescale state (R71). -/
def State.tellLeap (s : State) (old : TimescaleState) : State :=
  match s.steer.state with
  | .locked => s.withLeap { s.leap with announced := .unknown }
  | .holdover =>
    match old, s.leap.store with
    | .locked, some l => if s.leapNow = .inLeap then s else s.agreeLeap (some l) .request
    | _, _ => s
  | .fallback =>
    match old, s.leap.store with
    | .locked, some l => if s.leapNow = .inLeap then s else s.agreeLeap (some l) .request
    | _, _ => s
  | _ => s

/-- The timescale state becomes `st`, and the Leap Unit is told (R71). -/
def State.enterState (s : State) (st : TimescaleState) : State :=
  (s.withSteer { s.steer with state := st }).tellLeap s.steer.state

/-- The TIMESCALE entry and the STATUS notice of a change (R38). -/
def State.reportTimescale (s : State) (old : TimescaleState) (cause : TimescaleCause) : State :=
  (s.ask (.timescale old s.steer.state cause s.steer.bound s.steer.traceable none)).raiseStatus (.timescale cause)

/-- The traceable flag computed anew from B and M, without a report (R57). -/
def SteeringUnit.retrace (x : SteeringUnit) : SteeringUnit := { x with traceable := withinLimit x.bound x.limitM }

/-- The lock wait starts when its conditions hold (R3). -/
def State.tryLockWait (s : State) : State :=
  if s.lockWaitOpens then s.withTick { s.tick with pllMonitor := .lockWait, lockWaitTimer := some msCycles } else s

/-- The settle begins at XT now (R14). -/
def TickUnit.settle (t : TickUnit) (now : Ns) : TickUnit :=
  { t with returnPhase := .settle, settleDeadline := some (now + (t.settlePeriod * secondNs : Nat)) }

/-- The settle is complete: the LOCK_WAIT phase, and the lock wait opens (R14, R3). -/
def State.completeSettle (s : State) : State :=
  (s.withTick { s.tick with returnPhase := .lockWait, settleDeadline := none }).tryLockWait

/-- The return sequence's first phase at a main loss (R13). -/
def TickUnit.afterLoss (t : TickUnit) (now : Ns) : TickUnit :=
  match t.mainMonitor with
  | .absent => { t with returnPhase := .waitMain, settleDeadline := none }
  | .present => t.settle now

/-- A main loss taken in the state it finds (R4, R13, R44, R50). DESIGN CHOICE (log entry 53): it discards the calibration count, of
the second that ends at its own tick too when it is taken before that tick's second mark (R11). -/
def State.mainLoss (s : State) : State :=
  let tick := { s.tick with source := .ring, calibCount := none }
  match s.steer.state with
  | .acquire =>
    ((s.withTick tick).withSteer { s.steer with lockCount := 0, acqTimer := none }).enterState .cold
      |>.reportTimescale .acquire .mainLoss
  | .locked =>
    ((s.withTick (tick.afterLoss s.now)).enterState .fallback).reportTimescale .locked .mainLoss
  | .holdover =>
    ((s.withTick (tick.afterLoss s.now)).enterState .fallback).reportTimescale .holdover .mainLoss
  | _ => s

/-! ## The return from FALLBACK (R15) -/

/-- Whether the switch back to the PLL waits for the next PLL edge, or has come at this one (R15). -/
def State.returnPending (s : State) : Bool :=
  decide (s.steer.state = .fallback) && decide (s.tick.returnPhase = .lockWait) && decide (s.tick.pllMonitor = .confirmed)

/-- Whether the PLL edge that completes the return has come: the latest tick was the PLL's (R15). -/
def State.returnDue (s : State) : Bool := s.returnPending && decide (s.tick.source = .pll)

/-- The integrator as the return re-clamps it to the slew limit in force (R15, R50). -/
def SteeringUnit.resumed (x : SteeringUnit) : Int := clampInt (-(x.inForce.slewL : Int)) x.inForce.slewL x.integ

/-- The Steering Unit at a completed return (R50). -/
def SteeringUnit.resume (x : SteeringUnit) : SteeringUnit :=
  { x with integ := x.resumed, adj := x.resumed, bEntry := x.bound, hSeconds := 0 }

/-- The return completed, once its edge has come: HOLDOVER, with its entry and its notice (R15). -/
def State.finishReturn (s : State) : State :=
  if s.returnDue then
    (((s.withTick { s.tick with returnPhase := .none }).withSteer s.steer.resume).enterState .holdover).reportTimescale .fallback
      .mainReturn
  else s

/-! ## The opening of stamping (R46, R47, R96) -/

/-- The pending steps withdrawn: a SET_TIME among them is answered BAD_STATE (R46). -/
def State.withdrawSteps (s : State) : State :=
  let s' := s.steer.pendingSteps.foldl
    (fun s st =>
      match st.origin with
      | .manual (some p) tag => s.done p tag .badState false
      | _ => s) s
  s'.withSteer { s'.steer with pendingSteps := [] }

/-- The MISSED event of segment `i`, if its open instant has passed (R96). -/
def State.missSegment (s : State) (i : SegId) : State :=
  let g := s.segs.get i
  match g.armed with
  | some a =>
    if g.committed = .settled .armed ∧ a.openAt.xt ≤ s.now then
      (s.withSeg i { g with armed := none, armedDay := none }).commit
        { seg := i, kind := .missed g.armedDay a.openAt.xt, after := some .idle } (.settled .idle)
    else s
  | none => s

/-- The stamping-open flag is set, unless it is set already: pending steps are withdrawn and missed armings are committed, in the
order of segment id (R46, R47, R96). -/
def State.openStamping (s : State) : State :=
  if s.steer.stampingOpen then s
  else
    let s := s.withdrawSteps
    (List.finRange 64).foldl State.missSegment (s.withSteer { s.steer with stampingOpen := true })

/-- The expiry of the acquisition timer (R43). -/
def State.expireAcquisition (s : State) : State :=
  if s.steer.timeSet then
    let s := s.withSteer
      { s.steer with acqTimer := none, bEntry := s.steer.uManual, bound := s.steer.uManual, hSeconds := 0 }
    let s := s.withSteer s.steer.retrace
    (s.enterState .holdover).openStamping.reportTimescale .acquire .acqTimeout
  else s.withSteer { s.steer with acqTimer := some 0 }

/-! ## Capture overflow and the port reset (R122, R124, R162) -/

/-- `n` edges of line `l` discarded and counted (R122). -/
def CaptureLine.discard (c : CaptureLine) (n : Nat) : CaptureLine := { c with overflow := satAdd 255 c.overflow n }

/-- `n` capture overflows counted into the summary (R122). -/
def Counters.overflow (c : Counters) (n : Nat) : Counters := { c with overflows := satAdd max32 c.overflows n }

/-- A line's FIFO emptied, each record counted as a discarded edge (R124, R125). -/
def CaptureLine.empty (c : CaptureLine) : CaptureLine := { c.discard c.fifo.length with fifo := [] }

/-- How many records wait in the FIFOs of the lines mapped to `p`. -/
def State.fifoRecords (s : State) (p : Port) : Nat :=
  (s.capture.toList.map fun c => if c.port = p then c.fifo.length else 0).sum

/-- The FIFOs of the lines mapped to `p` emptied (R124). -/
def State.emptyFifos (s : State) (p : Port) : State :=
  (s.withCapture (s.capture.map fun c => if c.port = p then c.empty else c)).count fun c => c.overflow (s.fifoRecords p)

/-- The records a port reset discards: the response queue, and an answer waiting at the head (R162). -/
def PortCtl.discarded (pc : PortCtl) : List Record :=
  match pc.service with
  | .waiting r _ => pc.responses ++ [r]
  | _ => pc.responses

/-- The lowest and the highest of some sequence numbers; none when there are none (R93). -/
def seqRange (ns : List Nat) : Option (Nat × Nat) :=
  match ns with
  | [] => none
  | n :: rest => some (rest.foldl min n, rest.foldl max n)

/-- The Port Controller after a port reset (R162, R164). A frame being sent is cut off, and the idle interval counts from there
(log entry 16); a hold indication that was asserted has changed (R153). -/
def PortCtl.afterPortReset (pc : PortCtl) : PortCtl :=
  { PortCtl.reset pc.role with
    idleTimer := if pc.sending then msCycles else pc.idleTimer
    holdChanged := pc.holdChanged || pc.hold
    lastFrame := pc.lastFrame }

/-- A pending step whose SET_TIME came from `p` keeps its place but has no port to answer (R62). -/
def PendingStep.forget (p : Port) (st : PendingStep) : PendingStep :=
  match st.origin with
  | .manual (some q) tag => if q = p then { st with origin := .manual none tag } else st
  | _ => st

/-- The port reset (R162). -/
def State.resetPort (s : State) (p : Port) (cause : ResetCause) : State :=
  let gone := (s.port p).discarded
  let s := s.withPort p (s.port p).afterPortReset
  let s := s.withSteer { s.steer with pendingSteps := s.steer.pendingSteps.map (PendingStep.forget p) }
  (s.emptyFifos p).ask (.port p (.portReset cause gone.length (seqRange (gone.filterMap Record.seqNumber))))

end Sys2Proof.Machine
end

