-- ==== Sys2Proof/Machine/Leaps.lean ====
section
/-! DEFINITION. The commands of the Leap Unit (chapter 4) and SET_TIME (R45). -/

namespace Sys2Proof.Machine

/-- LEAP_BEGIN (R64): XT has reached T of a pending insertion. -/
def execLeapBegin (s : State) : Host.Outcome State Fault Refusal :=
  .next (if s.leap.beginDue s.now then s.beginLeap else s)

/-- LEAP_EXECUTED (R64): the pending leap is carried out. -/
def execLeapExecuted (s : State) : Host.Outcome State Fault Refusal :=
  .next (if s.leap.executeDue s.now then s.executeLeap else s)

/-- A SET_LEAP after its checks (R69): outside LOCKED the record is made to agree with the store, in LOCKED the comparison of R70
is made. -/
def State.storeLeap (s : State) (store : Option Leap) : State :=
  let s := s.withLeap { s.leap with store := store }
  if s.steer.state = .locked then s.compareLeap else s.agreeLeap store .request

/-- The code that refuses an INSERT or DELETE, if a check of R67 fails (R69). -/
def LeapCheck.refusal : LeapCheck → Option ResultCode
  | .pass => none
  | .outOfRange => some .limit
  | .late => some .tooLate

/-- A SET_LEAP that names a leap (R69). -/
def State.setLeap (s : State) (p : Port) (tag : Tag) (leap : Leap) : State :=
  if s.leapNow = .inLeap then s.done p tag .badState false
  else
    match (s.leap.check leap s.now).refusal with
    | some code => s.done p tag code false
    | none => (s.storeLeap (some leap)).done p tag .ok false

/-- SET_LEAP INSERT (R69). -/
def execSetLeapInsert (p : Port) (tag : Tag) (day : BitVec 32) (s : State) : Host.Outcome State Fault Refusal :=
  .next (s.takeWith .leap p tag (.setLeap day .insert) fun s => s.setLeap p tag { kind := .insert, day := day.toNat })

/-- SET_LEAP DELETE (R69). -/
def execSetLeapDelete (p : Port) (tag : Tag) (day : BitVec 32) (s : State) : Host.Outcome State Fault Refusal :=
  .next (s.takeWith .leap p tag (.setLeap day .delete) fun s => s.setLeap p tag { kind := .delete, day := day.toNat })

/-- SET_LEAP WITHDRAW (R69): the store is emptied; the day is not looked at. -/
def execSetLeapWithdraw (p : Port) (tag : Tag) (day : BitVec 32) (s : State) : Host.Outcome State Fault Refusal :=
  .next
    (s.takeWith .leap p tag (.setLeap day .withdraw) fun s =>
      if s.leapNow = .inLeap then s.done p tag .badState false else (s.storeLeap none).done p tag .ok false)

/-- SET_TIME (R45): a step to the value is asked for, and the request waits at the head until it is applied or withdrawn. -/
def execSetTime (p : Port) (tag : Tag) (seconds : BitVec 64) (s : State) : Host.Outcome State Fault Refusal :=
  .next
    (s.takeWith .setTime p tag (.setTime seconds) fun s =>
      if s.steer.stampingOpen then s.done p tag .badState false
      else if stepLimit ≤ seconds.toNat * secondNs then s.done p tag .limit false
      else
        (s.withSteer
            { s.steer with
              lockCount := if s.steer.state = .acquire then 0 else s.steer.lockCount
              pendingSteps :=
                s.steer.pendingSteps ++ [{ origin := .manual (some p) tag, value := ((seconds.toNat * secondNs : Nat) : Int) }] }).withPort
          p { s.port p with service := .settingTime })

end Sys2Proof.Machine
end

