-- ==== Sys2Proof/Machine/Outputs.lean ====
section
/-! DEFINITION. The Output Unit's commands (chapter 7): the pulse end, the armed instant and OUTPUT_SET in its four modes. -/

namespace Sys2Proof.Machine

/-- PULSE_END (R128): the level becomes low and the pulse end is removed. -/
def execPulseEnd (l : Line) (s : State) : Host.Outcome State Fault Refusal :=
  let o := s.outputs.get l
  .next (if reached o.pulseEnd s.now then s.withOutputs (s.outputs.set l { o with high := false, pulseEnd := none }) else s)

/-- AT_INSTANT_FIRE (R130): the line takes the armed level and the instant is removed. -/
def execAtInstantFire (l : Line) (s : State) : Host.Outcome State Fault Refusal :=
  let o := s.outputs.get l
  .next
    (match o.armed with
      | some a => if a.xt ≤ s.now then s.withOutputs (s.outputs.set l { o with high := a.high, armed := none }) else s
      | none => s)

/-- The pulse width stored: the one written, clamped (R127). -/
def outputWidth (w : BitVec 32) : Nat := clampNat 1 1000000 w.toNat

/-- Whether the width was clamped (R127). -/
def widthClamped (w : BitVec 32) : Bool := decide (outputWidth w ≠ w.toNat)

/-- The level and instant that a line holds for the comparison and the CONFIG entry of R127: in AT_INSTANT those last written, in
another mode the line's level and no instant (log entries 17 and 18). -/
def OutputLine.heldLevel (o : OutputLine) : Bool :=
  match o.mode, o.heldInstant with
  | .atInstant, some a => a.high
  | _, _ => o.high

def OutputLine.heldXt (o : OutputLine) : Option Ns :=
  match o.mode, o.heldInstant with
  | .atInstant, some a => some a.xt
  | _, _ => none

/-- Whether a write of a mode and a width, with what AT_INSTANT adds, equals what the line holds (R127). -/
def OutputLine.sameAs (o new : OutputLine) : Bool :=
  decide (o.mode = new.mode) && decide (o.width = new.width) && decide (o.heldInstant = new.heldInstant)

/-- The CONFIG entry of an OUTPUT_SET (R127). -/
def outputConfig (p : Port) (l : Line) (old new : OutputLine) (clamped : Bool) : TrailBody :=
  .config
    (.output p l old.mode new.mode old.heldLevel new.heldLevel old.width new.width old.heldXt new.heldXt clamped)

/-- The taking of an OUTPUT_SET whose checks have passed: the line changed, the entry, the answer (R127). -/
def State.setOutput (s : State) (p : Port) (tag : Tag) (l : Line) (new : OutputLine) (clamped : Bool) : State :=
  let old := s.outputs.get l
  let s := s.withOutputs (s.outputs.set l new)
  (if old.sameAs new then s else s.ask (outputConfig p l old new clamped)).done p tag .ok clamped

/-- The index check of OUTPUT_SET and its service (R127). -/
def State.serveOutput (s : State) (p : Port) (tag : Tag) (mode : OutputMode) (f : OutputFields)
    (new : State → Line → OutputLine → OutputLine) : State :=
  s.takeWith .schedule p tag (.outputSet mode f) fun s =>
    match eightOf f.line with
    | none => s.done p tag .badIndex false
    | some l => s.setOutput p tag l (new s l (s.outputs.get l)) (widthClamped f.width)

/-- OUTPUT_SET OFF (R127). -/
def execOutputSetOff (p : Port) (tag : Tag) (f : OutputFields) (s : State) : Host.Outcome State Fault Refusal :=
  .next
    (s.serveOutput p tag .off f fun _ _ o =>
      { o with mode := .off, high := false, width := outputWidth f.width, pulseEnd := none, armed := none, heldInstant := none })

/-- A line put in SECOND_PULSE from another mode, or written again in it (R127). -/
def OutputLine.pulsing (o : OutputLine) (w : Nat) : OutputLine :=
  if o.mode = .secondPulse then { o with width := w }
  else { o with mode := .secondPulse, high := false, width := w, pulseEnd := none, armed := none, heldInstant := none }

/-- OUTPUT_SET SECOND_PULSE (R127, R128). -/
def execOutputSetSecondPulse (p : Port) (tag : Tag) (f : OutputFields) (s : State) : Host.Outcome State Fault Refusal :=
  .next (s.serveOutput p tag .secondPulse f fun _ _ o => o.pulsing (outputWidth f.width))

/-- OUTPUT_SET CLOSE_FOLLOW (R127, R129). -/
def execOutputSetCloseFollow (p : Port) (tag : Tag) (f : OutputFields) (s : State) : Host.Outcome State Fault Refusal :=
  .next
    (s.serveOutput p tag .closeFollow f fun s l o =>
      { o with
        mode := .closeFollow
        high := closeLevel s.segs l
        width := outputWidth f.width
        pulseEnd := none
        armed := none
        heldInstant := none })

/-- A line put in AT_INSTANT: an instant at or below XT fires at once, another is armed (R130). -/
def OutputLine.arm (o : OutputLine) (a : LevelAt) (w : Nat) (now : Ns) : OutputLine :=
  { o with
    mode := .atInstant
    high := if a.xt ≤ now then a.high else o.high
    width := w
    pulseEnd := none
    armed := if a.xt ≤ now then none else some a
    heldInstant := some a }

/-- OUTPUT_SET AT_INSTANT (R127, R130): a level code that names no level is MALFORMED, after the index check. -/
def execOutputSetAtInstant (p : Port) (tag : Tag) (f : OutputFields) (s : State) : Host.Outcome State Fault Refusal :=
  .next
    (match eightOf f.line, levelOf f.level with
      | some _, none => s.takeWith .schedule p tag (.outputSet .atInstant f) fun s => s.done p tag .malformed false
      | _, level =>
        s.serveOutput p tag .atInstant f fun s _ o =>
          o.arm { high := level.getD false, xt := (f.instant.toNat : Int) } (outputWidth f.width) s.now)

end Sys2Proof.Machine
end

