-- ==== Sys2Proof/Machine/Ports.lean ====
section
/-! DEFINITION. The commands of the Port Controllers (chapter 9): frames received and sent, the link, waiting answers and notices,
SUBSCRIBE, DRAIN and the requests that name nothing. -/

namespace Sys2Proof.Machine

/-! ## Frames received -/

/-- A discarded frame of port `p` counted (R149). -/
def Counters.crcDiscard (c : Counters) (p : Port) : Counters :=
  { c with crcDiscards := c.crcDiscards.set p (bump (c.crcDiscards.get p)) }

/-- A request that finds the request queue full: the overrun is counted, the first one asks for a PORT entry, and a PORT notice is
raised (R152). -/
def State.overrun (s : State) (p : Port) : State :=
  let first := decide ((s.port p).overrun = 0)
  let s := s.withPort p { s.port p with overrun := satAdd max16 (s.port p).overrun 1 }
  let s := if first then s.ask (.port p .overrun) else s
  s.withPort p (s.port p).notifyPort

/-- A request frame offered to the request queue (R152). -/
def State.offer (s : State) (p : Port) (q : Request) : State :=
  if (s.port p).requests.length < requestPlaces then
    s.withPort p ((s.port p).withRequests ((s.port p).requests ++ [q]))
  else s.overrun p

/-- A valid frame other than a reset frame brings a DOWN link UP (R151). -/
def State.linkUp (s : State) (p : Port) : State :=
  if (s.port p).up then s
  else (s.withPort p { s.port p with up := true, batchNumber := 0 }).ask (.port p .linkUp)

/-- A valid frame that is not a reset frame: it restarts the silence timer, and a request frame is offered to the queue (R149). -/
def State.receive (s : State) (p : Port) (f : Frame) : State :=
  let s := s.linkUp p
  let s := s.withPort p { s.port p with silence := some silenceCycles }
  if f.kind.toNat = 0 then s else s.offer p { tag := f.tag, body := parseRequest f.kind f.body }

/-- CLIENT_FRAME (R149): an end symbol closes a frame. -/
def execClientFrame (p : Port) (bytes : List Byte) (s : State) : Host.Outcome State Fault Refusal :=
  .next
    (match parseFrame bytes with
      | none => s.count fun c => c.crcDiscard p
      | some f =>
        if f.kind.toNat = 1 then if (s.port p).up then s.resetPort p .resetFrame else s
        else s.receive p f)

/-- FRAME_ABANDONED (R149): a start symbol inside a frame. -/
def execFrameAbandoned (p : Port) (s : State) : Host.Outcome State Fault Refusal :=
  .next (s.count fun c => c.crcDiscard p)

/-- Whether the silence timer of a port has expired (R151). -/
def PortCtl.silent (pc : PortCtl) : Bool := pc.up && decide (pc.silence = some 0)

/-- LINK_TIMEOUT (R151). -/
def execLinkTimeout (p : Port) (s : State) : Host.Outcome State Fault Refusal :=
  .next (if (s.port p).silent then s.resetPort p .linkTimeout else s)

/-! ## Frames sent -/

/-- IDLE_FRAME (R150): the frame is sent whole at once (log entry 14). -/
def execIdleFrame (p : Port) (s : State) : Host.Outcome State Fault Refusal :=
  let pc := s.port p
  .next
    (if pc.idleDue then
      s.withPort p { pc with lastFrame := pc.idleFrame, holdChanged := false, idleTimer := msCycles }
    else s)

/-- The number of the next batch frame (R150). -/
def PortCtl.nextBatch (pc : PortCtl) : Nat := (pc.batchNumber + 1) % 4294967296

/-- BATCH_FRAME (R156): every record of the response queue is in flight. -/
def execBatchFrame (p : Port) (s : State) : Host.Outcome State Fault Refusal :=
  let pc := s.port p
  let records := pc.responses.take responsePlaces
  .next
    (if pc.batchDue then
      s.withPort p
        { pc with
          sending := true
          inFlight := records.length
          batchNumber := pc.nextBatch
          holdChanged := false
          lastFrame := pc.batchFrame pc.nextBatch records }
    else s)

/-- The service of a DRAIN after `n` records have left (R161). -/
def Service.sent (n : Nat) : Service → Service
  | .draining tag left => .draining tag (left - n)
  | x => x

/-- BATCH_FRAME_SENT (R156): the records in flight have left and their entries are free; to a STAMP, where the queue was full, from
the next tick on (R82, R86). -/
def execBatchFrameSent (p : Port) (s : State) : Host.Outcome State Fault Refusal :=
  let pc := s.port p
  .next
    (if pc.sending then
      s.withPort p
        { pc with
          sending := false
          inFlight := 0
          responses := pc.responses.drop pc.inFlight
          justFreed := pc.justFreed || !pc.hasRoom
          service := pc.service.sent pc.inFlight
          drainDone := match pc.drainDone with
            | some k => if k ≤ pc.inFlight then none else some (k - pc.inFlight)
            | none => none
          idleTimer := msCycles }
    else s)

/-! ## Waiting answers and notices -/

/-- WAITING_ANSWER (R154): the answer waiting at the head enters a free entry. -/
def execWaitingAnswer (p : Port) (s : State) : Host.Outcome State Fault Refusal :=
  let pc := s.port p
  .next
    (match pc.service with
      | .waiting r ofDrain =>
        if pc.hasRoom then
          let pc' := (pc.enqueue r).complete
          s.withPort p (if ofDrain then { pc' with drainDone := some pc'.responses.length } else pc')
        else s
      | _ => s)

/-- Whether slots of the pending-notice set can enter the response queue (R158). -/
def PortCtl.drainsNotices (pc : PortCtl) : Bool := pc.up && !pc.noSlots && pc.hasRoom && !pc.answerWaits

/-- A segment slot built into a notice from the segment record (R158, R167). -/
def State.slotNotice (s : State) (x : PendingSeg) : SegNotice :=
  let g := s.segs.get x.seg
  { epoch := s.epoch.epoch
    seg := x.seg
    event := x.event
    after := g.state
    fromSet := true
    count := x.count
    cycle := g.cycle
    extensions := g.extensions
    seq := x.seq
    xt := s.now
    offset := s.offsetNow
    leapState := s.leapNow
    newClose := none
    lastOpen := g.lastOpen
    lastCall := g.lastCall
    lastClose := g.lastClose
    closeRec := g.closeRec }

/-- The STATUS slot enters the queue (R158). -/
def PortCtl.drainStatus (pc : PortCtl) (body : Nat → StatusBody) : PortCtl :=
  match pc.pendStatus with
  | some n => if pc.hasRoom then { pc.enqueue (.status (body n)) with pendStatus := none } else pc
  | none => pc

/-- The segment slots enter the queue in the order of segment id, as many as there are free entries (R158). -/
def PortCtl.drainSegs (pc : PortCtl) (body : PendingSeg → SegNotice) : PortCtl :=
  { pc with
    responses := pc.responses ++ (pc.pendSegs.take pc.freeResponses).map fun x => .segmentEvent (body x)
    pendSegs := pc.pendSegs.drop pc.freeResponses }

/-- The PORT slot enters the queue (R158). -/
def PortCtl.drainPort (pc : PortCtl) : PortCtl :=
  if pc.pendPort && pc.hasRoom then { pc.enqueue (.port pc.overrun) with pendPort := false, overrun := 0 } else pc

/-- PENDING_NOTICE_DRAIN (R158): the set is drained into the free entries, one slot after another. -/
def execPendingNoticeDrain (p : Port) (s : State) : Host.Outcome State Fault Refusal :=
  .next
    (if (s.port p).drainsNotices then
      s.withPort p (((s.port p).drainStatus s.statusBody).drainSegs s.slotNotice).drainPort
    else s)

/-! ## SUBSCRIBE and DRAIN -/

/-- The STATUS subscription that a byte gives (R160, 10 Table 10-3). -/
def statusField (b : Byte) : Option (Option Bool) :=
  match b.toNat with
  | 0 => some (some false)
  | 1 => some (some true)
  | 255 => some none
  | _ => none

/-- The batch threshold that a field gives; none keeps the one held (R160). -/
def thresholdField (v : BitVec 16) : Option Nat := if v.toNat = 65535 then none else some (clampNat 1 64 v.toNat)

/-- Whether a threshold was clamped (R160). -/
def thresholdClamped (v : BitVec 16) : Bool :=
  match thresholdField v with
  | some n => decide (n ≠ v.toNat)
  | none => false

/-- The Port Controller with new subscriptions (R160). -/
def PortCtl.subscribe (pc : PortCtl) (status : Option Bool) (threshold : Option Nat) : PortCtl :=
  { pc with
    statusSub := status.getD pc.statusSub
    threshold := threshold.getD pc.threshold
    pendStatus := if status = some false then none else pc.pendStatus }

/-- SUBSCRIBE (R160). -/
def execSubscribe (p : Port) (tag : Tag) (status : Byte) (threshold : BitVec 16) (s : State) :
    Host.Outcome State Fault Refusal :=
  .next
    (s.takeWith .subscribe p tag (.subscribe status threshold) fun s =>
      match statusField status with
      | none => s.done p tag .malformed false
      | some sub =>
        (s.withPort p ((s.port p).subscribe sub (thresholdField threshold))).done p tag .ok (thresholdClamped threshold))

/-- DRAIN (R161): with records still in the response queue it waits at the head until they have left. -/
def execDrain (p : Port) (tag : Tag) (s : State) : Host.Outcome State Fault Refusal :=
  .next
    (s.take p tag .drain fun s =>
      let pc := s.port p
      s.withPort p
        (if pc.responses.isEmpty then pc.answerDrain tag else { pc with service := .draining tag pc.responses.length }))

/-- DRAIN_COMPLETE (R161): the last record present at the taking has left. -/
def execDrainComplete (p : Port) (s : State) : Host.Outcome State Fault Refusal :=
  .next
    (match (s.port p).service with
      | .draining tag 0 => s.withPort p ((s.port p).answerDrain tag)
      | _ => s)

/-! ## Requests that name nothing (R149, R165) -/

/-- The answer to a request whose frame is malformed: for a kind or a length that Table 10-3 does not know, MALFORMED (R166); for a
SET_LEAP action or an OUTPUT_SET mode that names nothing, as the owning rule orders its checks (R69, R127). -/
def State.malformedCode (s : State) (p : Port) (kind : Byte) (body : List Byte) : ResultCode :=
  if body.length ∉ bodyLengths kind.toNat then .malformed
  else if kind.toNat = 21 then if (s.port p).role.has .leap then .malformed else .noRight
  else if kind.toNat = 49 then
    if (s.port p).role.has .schedule = false then .noRight
    else
      match eightOf (byteAt body 0) with
      | none => .badIndex
      | some _ => .malformed
  else .malformed

/-- MALFORMED_REQUEST (R166). -/
def execMalformedRequest (p : Port) (tag : Tag) (kind : Byte) (body : List Byte) (s : State) :
    Host.Outcome State Fault Refusal :=
  .next (s.take p tag (.malformed kind body) fun s => s.done p tag (s.malformedCode p kind body) false)

end Sys2Proof.Machine
end

