-- ==== Sys2Proof/Machine/Arbitration.lean ====
section
/-! DEFINITION. The grants of stamps and captures by the Sequence Arbiter (chapter 5), the requests STAMP and READ_TIME, and the
Capture Unit's edges and CAPTURE_SET (chapter 7). -/

namespace Sys2Proof.Machine

/-- One grant: the sequence counter rises by one, and no other grant is made at this tick (R75, R79, R83). -/
def State.grant (s : State) : State := s.withArb { s.arb with seq := s.arb.seq + 1, grantedThisTick := true }

/-- STAMP (R85): checked, and presented to the arbiter while it stays at the head of the queue (R86). -/
def execStamp (p : Port) (tag : Tag) (seg : Option Byte) (s : State) : Host.Outcome State Fault Refusal :=
  .next
    (s.takeWith .stamp p tag (.stamp seg) fun s =>
      let present (g : Option SegId) : State :=
        if s.steer.stampingOpen then s.withPort p { s.port p with service := .stamping tag g }
        else s.done p tag .notReady false
      match seg with
      | none => present none
      | some b =>
        match segOf b with
        | none => s.done p tag .badIndex false
        | some i => present (some i))

/-- The segment part of a STAMPED record (R88). -/
def State.segPart (s : State) (i : SegId) : SegPart where
  seg := i
  phase := (s.segs.get i).state.phase
  cycle := (s.segs.get i).cycle

/-- A stamp of port `p` counted (R137). -/
def Counters.stamped (c : Counters) (p : Port) : Counters := { c with stamps := c.stamps.set p (bump (c.stamps.get p)) }

/-- The pointer of a granted stamp's class moved past its port (R82). -/
def Arbiter.stampGranted (x : Arbiter) (p : Port) (high : Bool) : Arbiter :=
  if high then { x with highPtr := p + 1 } else { x with normalPtr := p + 1 }

/-- The STAMPED record that a grant forms, read after the counter has risen (R87, R88). -/
def State.stampedRecord (s : State) (tag : Tag) (seg : Option SegId) : Record :=
  .stamped tag { time := s.reading, evidence := s.trail.evidence, segPart := seg.map s.segPart }

/-- STAMP_GRANT (R83, R87): the arbiter chooses port `p`'s STAMP, its record enters the response queue and its service is
complete. -/
def execStampGrant (p : Port) (s : State) : Host.Outcome State Fault Refusal :=
  .next
    (if s.arbiterChoice = some (.stamp p) then
      match (s.port p).service with
      | .stamping tag seg =>
        let s := s.grant
        let s := (s.withPort p ((s.port p).enqueue (s.stampedRecord tag seg)).complete).count fun c => c.stamped p
        s.withArb (s.arb.stampGranted p (s.port p).role.high)
      | _ => s
    else s)

/-- The CAPTURED notice that a grant forms (07 Table 7-3). -/
def State.capturedRecord (s : State) (l : Line) (e : EdgeRecord) : Record :=
  .captured { line := l, edge := e.kind, edgeXt := e.xt, time := s.reading, overflow := (s.capture.get l).overflow }

/-- A capture counted (R137). -/
def Counters.captured (c : Counters) : Counters := { c with captures := bump c.captures }

/-- CAPTURE_GRANT (R123): the arbiter chooses line `l`'s oldest edge, and the notice goes to the mapped port. -/
def execCaptureGrant (l : Line) (s : State) : Host.Outcome State Fault Refusal :=
  .next
    (if s.arbiterChoice = some (.capture l) then
      let line := s.capture.get l
      match line.fifo with
      | e :: rest =>
        let s := s.grant
        let s := s.withPort line.port ((s.port line.port).enqueue (s.capturedRecord l e))
        let s := (s.withCapture (s.capture.set l { line with fifo := rest, overflow := 0 })).count Counters.captured
        s.withArb { s.arb with capturePtr := l + 1 }
      | [] => s
    else s)

/-- Whether a selected edge of a line is kept (07 Table 7-2). -/
def State.keepsEdge (s : State) (c : CaptureLine) : Bool :=
  s.steer.stampingOpen && (s.port c.port).up && decide (c.fifo.length < fifoPlaces)

/-- CAPTURE_EDGE (R121): a selected edge is kept, or discarded and counted (R122); any other is ignored. -/
def execCaptureEdge (l : Line) (kind : EdgeKind) (s : State) : Host.Outcome State Fault Refusal :=
  let c := s.capture.get l
  .next
    (if !c.edgeSel.selects kind then s
    else if s.keepsEdge c then s.withCapture (s.capture.set l { c with fifo := c.fifo ++ [{ kind := kind, xt := s.now }] })
    else (s.withCapture (s.capture.set l (c.discard 1))).count fun x => x.overflow 1)

/-- READ_TIME (R91). -/
def execReadTime (p : Port) (tag : Tag) (s : State) : Host.Outcome State Fault Refusal :=
  .next (s.takeWith .readTime p tag .readTime fun s => s.answer p (.time tag s.reading))

/-- The new value that a field of CAPTURE_SET gives, none when it asks to keep (R125); an index or a code that names nothing
refuses the request. -/
inductive FieldRead (α : Type) where
  | keep
  | value (v : α)
  | wrong
  deriving DecidableEq, Repr

/-- A field with a keep code read with `f`. -/
def readField {α : Type} (f : Byte → Option α) (b : Byte) : FieldRead α :=
  if b = keepByte then .keep
  else
    match f b with
    | some v => .value v
    | none => .wrong

/-- A new mapped port of a line: its FIFO is emptied and each record counted (R125). -/
def State.remap (s : State) (l : Line) (port : Port) : State :=
  let c := s.capture.get l
  if c.port = port then s
  else (s.withCapture (s.capture.set l { c.empty with port := port })).count fun x => x.overflow c.fifo.length

/-- The CONFIG entry of a capture line's item (R125, section 10.6). -/
def captureConfig (p : Port) (item : Nat) (old new : Nat) : TrailBody := .config (.item p item old new false)

/-- A new edge selection, with its CONFIG entry when it changes (R125). -/
def State.setEdges (s : State) (p : Port) (l : Line) (sel : EdgeSel) : State :=
  let c := s.capture.get l
  if c.edgeSel = sel then s
  else (s.withCapture (s.capture.set l { c with edgeSel := sel })).ask (captureConfig p (256 + l.val) c.edgeSel.code sel.code)

/-- A new mapped port, with its CONFIG entry when it changes (R125). -/
def State.setMapping (s : State) (p : Port) (l : Line) (port : Port) : State :=
  let c := s.capture.get l
  if c.port = port then s else (s.remap l port).ask (captureConfig p (264 + l.val) c.port.val port.val)

/-- Whether port `p` may give line `l` a new edge selection (R125, check 4). -/
def State.mayCapture (s : State) (p : Port) (l : Line) : Bool :=
  (s.port p).role.has .remap || ((s.port p).role.has .ownCaptures && decide ((s.capture.get l).port = p))

/-- The checks of R125 in their order; none when they pass. -/
def State.captureRefusal (s : State) (p : Port) (line : Option Line) (sel : FieldRead EdgeSel) (port : FieldRead Port) :
    Option ResultCode :=
  match line, sel, port with
  | none, _, _ => some .badIndex
  | _, _, .wrong => some .badIndex
  | _, .wrong, _ => some .malformed
  | some l, sel, port =>
    if port ≠ .keep ∧ (s.port p).role.has .remap = false then some .noRight
    else if sel ≠ .keep ∧ s.mayCapture p l = false then some .noRight
    else none

/-- The changes of an accepted CAPTURE_SET (R125). -/
def State.applyCapture (s : State) (p : Port) (l : Line) (sel : FieldRead EdgeSel) (port : FieldRead Port) : State :=
  let s := match sel with
    | .value v => s.setEdges p l v
    | _ => s
  match port with
  | .value q => s.setMapping p l q
  | _ => s

/-- CAPTURE_SET (R125). -/
def execCaptureSet (p : Port) (tag : Tag) (line edge port : Byte) (s : State) : Host.Outcome State Fault Refusal :=
  .next
    (s.take p tag (.captureSet line edge port) fun s =>
      match s.captureRefusal p (eightOf line) (readField edgeSelOf edge) (readField eightOf port), eightOf line with
      | some code, _ => s.done p tag code false
      | none, some l => (s.applyCapture p l (readField edgeSelOf edge) (readField eightOf port)).done p tag .ok false
      | none, none => s.done p tag .badIndex false)

end Sys2Proof.Machine
end

