-- ==== Sys2Proof/Machine/SegmentGrants.lean ====
section
/-! DEFINITION. The grants of segment events (chapter 6): each takes the next number, takes effect on the segment record, asks for
its trail entry, hands a notice to each subscriber and has the CLOSE_FOLLOW lines computed anew (R83, R94, R105). The state
after a grant is the one the event recorded at its commit (R94). -/

namespace Sys2Proof.Machine

/-- The segment event that the arbiter grants at this tick, if it grants one (R77, R80). -/
def State.presented (s : State) : Option SegEvent :=
  if s.arbiterChoice = some .segment then s.commits.head? else none

/-- The segment whose request event is the oldest on the commit list: at its grant the segment's instants wait for the next tick
(R95, log entry 46). -/
def State.headRequest (s : State) : Option SegId :=
  match s.commits with
  | e :: _ => if e.kind.ofRequest then some e.seg else none
  | [] => none

/-- The grant of the oldest committed event: the counter rises and the event leaves the list (R83, R94, R95). -/
def State.grantHead (s : State) : State :=
  (s.grant.withArb { s.grant.arb with heldSeg := s.headRequest }).withCommits s.commits.tail

/-- The notice of an event of segment `i` built at its grant (R118, R167). -/
def State.segNotice (s : State) (i : SegId) (code : SegEventCode) (closeRec : Option CloseRecord) (newClose : Option Ns) :
    SegNotice :=
  let g := s.segs.get i
  { epoch := s.epoch.epoch
    seg := i
    event := code
    after := g.state
    fromSet := false
    count := 1
    cycle := g.cycle
    extensions := g.extensions
    seq := s.arb.seq
    xt := s.now
    offset := s.offsetNow
    leapState := s.leapNow
    newClose := newClose
    lastOpen := g.lastOpen
    lastCall := g.lastCall
    lastClose := g.lastClose
    closeRec := closeRec }

/-- A notice handed to every port of the subscriber set in force (R105). -/
def State.notifySubscribers (s : State) (n : SegNotice) : State :=
  match (s.segs.get n.seg).defn with
  | some d => s.withPorts (s.ports.mapFin fun p pc => if d.subscribers.getLsbD p.val then pc.notifySegment n else pc)
  | none => s

/-- What every grant of a segment event does after its effect (R105). -/
def State.report (s : State) (i : SegId) (entry : TrailBody) (code : SegEventCode) (closeRec : Option CloseRecord)
    (newClose : Option Ns) : State :=
  ((s.ask entry).notifySubscribers (s.segNotice i code closeRec newClose)).followCloses

/-- ARM_GRANT (R111). -/
def execArmGrant (s : State) : Host.Outcome State Fault Refusal :=
  .next
    (match s.presented with
      | some { seg := i, kind := .arm swap port day armed, after := after } =>
        let g := s.segs.get i
        let s := s.grantHead.withSeg i { g with state := after.getD g.state }
        s.report i (.segment i.val (.write swap g.profile day g.defn armed none) (some port) s.arb.seq) .arm none none
      | _ => s)

/-- REVISE_GRANT (R113): the entry carries the old and the new call and close instants. -/
def execReviseGrant (s : State) : Host.Outcome State Fault Refusal :=
  .next
    (match s.presented with
      | some { seg := i, kind := .revise swap port oldCall oldClose newCall newClose, after := after } =>
        let g := s.segs.get i
        let s := s.grantHead.withSeg i { g with state := after.getD g.state }
        let armed := g.armed.map fun a => { a with callAt := ⟨newCall, false⟩, closeAt := ⟨newClose, false⟩ }
        s.report i
          (.segment i.val (.write swap g.profile g.armedDay g.defn armed (some (oldCall, oldClose))) (some port) s.arb.seq)
          .revise none none
      | _ => s)

/-- DISARM_GRANT (R112). -/
def execDisarmGrant (s : State) : Host.Outcome State Fault Refusal :=
  .next
    (match s.presented with
      | some { seg := i, kind := .disarm swap port day armed, after := after } =>
        let g := s.segs.get i
        let s := s.grantHead.withSeg i { g with state := after.getD g.state }
        s.report i (.segment i.val (.write swap g.profile day none armed none) (some port) s.arb.seq) .disarm none none
      | _ => s)

/-- MISSED_GRANT (R96). -/
def execMissedGrant (s : State) : Host.Outcome State Fault Refusal :=
  .next
    (match s.presented with
      | some { seg := i, kind := .missed day openXt, after := after } =>
        let g := s.segs.get i
        let s := s.grantHead.withSeg i { g with state := after.getD g.state }
        s.report i (.segment i.val (.missed day openXt) none s.arb.seq) .missed none none
      | _ => s)

/-- The number of the next cycle (R98). -/
def nextCycle (n : Nat) : Nat := (n + 1) % 4294967296

/-- OPEN_GRANT (R98). -/
def execOpenGrant (s : State) : Host.Outcome State Fault Refusal :=
  .next
    (match s.presented with
      | some { seg := i, kind := .opening, after := after } =>
        let g := s.segs.get i
        let s := s.grantHead
        let s := s.withSeg i
          { g with state := after.getD g.state, cycle := nextCycle g.cycle, closeRec := none, lastOpen := s.arb.seq }
        s.report i (.segment i.val (.opened (nextCycle g.cycle) g.armedDay g.armed) none s.arb.seq) .opened none none
      | _ => s)

/-- The armed close instant of a segment; a segment in its call holds one. -/
def Segment.closeXt (g : Segment) : Ns :=
  match g.armed with
  | some a => a.closeAt.xt
  | none => 0

/-- CALL_GRANT (R99). -/
def execCallGrant (s : State) : Host.Outcome State Fault Refusal :=
  .next
    (match s.presented with
      | some { seg := i, kind := .call, after := after } =>
        let g := s.segs.get i
        let s := s.grantHead
        let s := s.withSeg i { g with state := after.getD g.state, lastCall := s.arb.seq }
        s.report i (.segment i.val (.call g.cycle g.closeXt) none s.arb.seq) .call none none
      | _ => s)

/-- The draw made from `raw` in the window `w` after the armed close (R100). -/
def makeDraw (raw : BitVec 32) (w : Nat) (close : Ns) : Draw :=
  let r := raw.toNat * w / 4294967296
  { closeXt := close + (r * 1000 : Nat), r := r, raw := raw }

/-- DRAW_GRANT (R100, R101): the random source gives its next value. -/
def execDrawGrant (s : State) : Host.Outcome State Fault Refusal :=
  .next
    (match s.presented with
      | some { seg := i, kind := .draw, after := after } =>
        let g := s.segs.get i
        let w := (s.profileOf g).window
        let draw := makeDraw (Config.randomDraw s.drawIndex) w g.closeXt
        let s := (s.grantHead.withDrawIndex (s.drawIndex + 1)).withSeg i
          { g with state := after.getD g.state, drawn := some draw }
        s.report i (.draw i g.cycle w g.closeXt s.arb.seq) .random none none
      | _ => s)

/-! ## The end of a cycle (R103) -/

/-- Step 4 of R103 over the days that repeat leaves: the day armed with its instants, the repeat left and the days skipped. -/
def LeapUnit.rearm (l : LeapUnit) (d : Definition) (now : Ns) : Nat → Nat → Nat → Option (Nat × ArmedInstants) × Nat × Nat
  | 0, _, skipped => (none, 0, skipped)
  | n + 1, day, skipped =>
    match l.arm day d with
    | none => (none, 0, skipped)
    | some a => if a.openAt.xt ≤ now then rearm l d now n (day + 1) (skipped + 1) else (some (day, a), n, skipped)

/-- The next cycle that a repeating definition arms at the end of the cycle of `day` (R103, step 4). -/
def State.nextDay (s : State) (g : Segment) : Option (Nat × ArmedInstants) × Nat × Nat :=
  match g.defn, g.armedDay with
  | some d, some day => s.leap.rearm d s.now d.repeats.toNat (day + 1) 0
  | some d, none => (none, d.repeats.toNat, 0)
  | none, _ => (none, 0, 0)

/-- The close record of an ending event (06 Table 6-3). -/
def State.closeRecord (s : State) (g : Segment) (outcome : CloseOutcome) (closeXt : Ns) (r : Option Nat) : CloseRecord where
  cycle := g.cycle
  outcome := outcome
  closeXt := closeXt
  closeSeq := s.arb.seq
  r := r
  extensions := g.extensions
  traceable := s.steer.traceable
  bound := s.steer.bound

/-- The segment record at the end of a cycle (R103), with the close record and the next day's arming. -/
def Segment.endCycle (g : Segment) (r : CloseRecord) (next : Option (Nat × ArmedInstants) × Nat × Nat) : Segment :=
  { g with
    state := .closed
    closeRec := some r
    lastClose := r.closeSeq
    extensions := 0
    drawn := none
    armedDay := next.1.map Prod.fst
    armed := next.1.map Prod.snd
    defn := g.defn.map fun d => { d with repeats := BitVec.ofNat 8 next.2.1 } }

/-- The end of a cycle at a grant (R103) with its CLOSE entry and notice. The counter has risen already. -/
def State.endCycle (s : State) (i : SegId) (outcome : CloseOutcome) (closeXt : Ns) (draw : Option Draw) (voided : Bool)
    (port : Option Port) (code : SegEventCode) : State :=
  let g := s.segs.get i
  let r := s.closeRecord g outcome closeXt (if outcome = .drawn then draw.map Draw.r else none)
  let next := s.nextDay g
  let entry : TrailBody :=
    .close
      { seg := i
        outcome := outcome
        traceable := s.steer.traceable
        draw := draw
        voided := voided
        port := port
        stateBefore := g.state
        skipped := next.2.2
        cycle := g.cycle
        dayArmed := next.1.map Prod.fst
        window := (s.profileOf g).window
        bound := s.steer.bound
        closeXt := closeXt
        grantXt := s.now
        eventSeq := s.arb.seq }
  (s.withSeg i (g.endCycle r next)).report i entry code (some r) none

/-- END_GRANT (R102): the segment closes DRAWN, or is suspended when it is untraceable with hold-on-untraceable set. -/
def execEndGrant (s : State) : Host.Outcome State Fault Refusal :=
  .next
    (match s.presented with
      | some { seg := i, kind := .ending, after := _ } =>
        let s := s.grantHead
        let g := s.segs.get i
        let hold := match g.defn with
          | some d => d.hold
          | none => false
        if s.steer.traceable || !hold then
          let s := s.endCycle i .drawn (match g.drawn with
            | some d => d.closeXt
            | none => s.now) g.drawn false none .close
          s.withSeg i { s.segs.get i with committed := .settled .closed }
        else
          let s := s.withSeg i { g with state := .suspended, committed := .settled .suspended, drawn := none }
          s.report i
            (.segment i.val
              (.suspend g.cycle (s.profileOf g).window g.drawn s.steer.traceable s.steer.bound) none s.arb.seq)
            .suspend none none
      | _ => s)

/-- The armed instants after an EXTEND granted now (R107). -/
def ArmedInstants.extended (a : ArmedInstants) (close : Ns) : ArmedInstants := { a with closeAt := ⟨close, false⟩ }

/-- EXTEND_GRANT (R107): the segment returns to CALL with a new armed close, and a draw that stood is voided. -/
def execExtendGrant (s : State) : Host.Outcome State Fault Refusal :=
  .next
    (match s.presented with
      | some { seg := i, kind := .extend port, after := after } =>
        let g := s.segs.get i
        let close : Ns := s.now + ((s.profileOf g).extLength * secondNs : Nat)
        let voided := if g.state = .random then g.drawn else none
        let s := s.grantHead.withSeg i
          { g with
            state := after.getD g.state
            armed := g.armed.map fun a => a.extended close
            extensions := g.extensions + 1
            drawn := if g.state = .random then none else g.drawn }
        s.report i (.extend i g.cycle (g.extensions + 1) close s.arb.seq port voided) .extend none (some close)
      | _ => s)

/-- RELEASE_GRANT (R108): the suspended cycle ends RELEASED. -/
def execReleaseGrant (s : State) : Host.Outcome State Fault Refusal :=
  .next
    (match s.presented with
      | some { seg := i, kind := .release port, after := _ } =>
        s.grantHead.endCycle i .released s.now none false (some port) .close
      | _ => s)

/-- HALT_GRANT (R110): the cycle ends HALTED, and a draw that stood is voided and disclosed. -/
def execHaltGrant (s : State) : Host.Outcome State Fault Refusal :=
  .next
    (match s.presented with
      | some { seg := i, kind := .halt port, after := _ } =>
        let g := s.segs.get i
        let voided := if g.state = .random then g.drawn else none
        s.grantHead.endCycle i .halted s.now voided true (some port) .halt
      | _ => s)

end Sys2Proof.Machine
end

