-- ==== Sys2Proof/Machine/SegmentRequests.lean ====
section
/-! DEFINITION. What commits segment events (chapter 6): the due instants (R95) and the requests SEGMENT_WRITE, SEGMENT_SWAP, EXTEND,
RELEASE and HALT, with SEGMENT_READ and PROFILE_WRITE. -/

namespace Sys2Proof.Machine

/-! ## Due instants (R95) -/

/-- The armed instants with one of them given its taken mark. -/
def Segment.takeOpen (g : Segment) : Segment :=
  { g with armed := g.armed.map fun a => { a with openAt := { a.openAt with taken := true } } }

def Segment.takeCall (g : Segment) : Segment :=
  { g with armed := g.armed.map fun a => { a with callAt := { a.callAt with taken := true } } }

def Segment.takeClose (g : Segment) : Segment :=
  { g with armed := g.armed.map fun a => { a with closeAt := { a.closeAt with taken := true } } }

/-- OPEN_INSTANT_DUE (R95): the open instant is taken and the OPEN committed. -/
def execOpenInstantDue (i : SegId) (s : State) : Host.Outcome State Fault Refusal :=
  .next
    (if s.openDue i then
      (s.withSeg i (s.segs.get i).takeOpen).commit { seg := i, kind := .opening, after := some .opened } (.settled .opened)
    else s)

/-- CALL_INSTANT_DUE (R95): the call instant is taken and the CALL committed. -/
def execCallInstantDue (i : SegId) (s : State) : Host.Outcome State Fault Refusal :=
  .next
    (if s.callDue i then
      (s.withSeg i (s.segs.get i).takeCall).commit { seg := i, kind := .call, after := some .call } (.settled .call)
    else s)

/-- ARMED_CLOSE_DUE (R95): the armed close instant is taken and the DRAW committed. -/
def execArmedCloseDue (i : SegId) (s : State) : Host.Outcome State Fault Refusal :=
  .next
    (if s.closeDue i then
      (s.withSeg i (s.segs.get i).takeClose).commit { seg := i, kind := .draw, after := some .random } (.settled .random)
    else s)

/-- DRAWN_CLOSE_DUE (R95): the drawn close XT is taken and the END committed; the committed state is ENDING until its grant. -/
def execDrawnCloseDue (i : SegId) (s : State) : Host.Outcome State Fault Refusal :=
  .next (if s.drawnDue i then s.commit { seg := i, kind := .ending, after := none } .ending else s)

/-! ## EXTEND, RELEASE, HALT -/

/-- The code that refuses an EXTEND of segment `i`, if a check of R106 from 3 on fails. -/
def State.extendRefusal (s : State) (i : SegId) : Option ResultCode :=
  let g := s.segs.get i
  match g.committed with
  | .settled .idle => some .badState
  | .settled .armed => some .badState
  | .settled .opened => some .badState
  | .settled .closed => some .tooLate
  | .ending => some .tooLate
  | _ =>
    if (s.profileOf g).maxExt ≤ g.extensions + s.extendsWaiting i then some .limit
    else if s.commitsFull then some .limit
    else none

/-- EXTEND (R106). -/
def execExtend (p : Port) (tag : Tag) (seg : Byte) (s : State) : Host.Outcome State Fault Refusal :=
  .next
    (s.takeWith .schedule p tag (.extend seg) fun s =>
      match segOf seg with
      | none => s.done p tag .badIndex false
      | some i =>
        match s.extendRefusal i with
        | some code => s.done p tag code false
        | none =>
          (s.commit { seg := i, kind := .extend p, after := some .call } (.settled .call)).done p tag .ok false)

/-- The code that refuses a RELEASE of segment `i` (R108). -/
def State.releaseRefusal (s : State) (i : SegId) : Option ResultCode :=
  if (s.segs.get i).committed ≠ .settled .suspended then some .badState else if s.commitsFull then some .limit else none

/-- RELEASE (R108). -/
def execRelease (p : Port) (tag : Tag) (seg : Byte) (s : State) : Host.Outcome State Fault Refusal :=
  .next
    (s.takeWith .schedule p tag (.release seg) fun s =>
      match segOf seg with
      | none => s.done p tag .badIndex false
      | some i =>
        match s.releaseRefusal i with
        | some code => s.done p tag code false
        | none =>
          (s.commit { seg := i, kind := .release p, after := some .closed } (.settled .closed)).done p tag .ok false)

/-- The code that refuses a HALT of segment `i` (R109). -/
def State.haltRefusal (s : State) (i : SegId) : Option ResultCode :=
  match (s.segs.get i).committed with
  | .settled .idle => some .badState
  | .settled .armed => some .badState
  | .settled .closed => some .badState
  | .ending => some .tooLate
  | _ => if s.commitsFull then some .limit else none

/-- HALT (R109). -/
def execHalt (p : Port) (tag : Tag) (seg : Byte) (s : State) : Host.Outcome State Fault Refusal :=
  .next
    (s.takeWith .schedule p tag (.halt seg) fun s =>
      match segOf seg with
      | none => s.done p tag .badIndex false
      | some i =>
        match s.haltRefusal i with
        | some code => s.done p tag code false
        | none =>
          (s.commit { seg := i, kind := .halt p, after := some .closed } (.settled .closed)).done p tag .ok false)

/-! ## SEGMENT_WRITE and SEGMENT_SWAP (R111 to R114) -/

/-- What an accepted write does. -/
inductive WriteEffect where
  /-- the definition is installed and the day armed (R111) -/
  | arm (profile : ProfileId) (day : Nat) (armed : ArmedInstants)
  /-- the open cycle is revised: the armed instants before and after (R113) -/
  | revise (old new : ArmedInstants)
  /-- an empty definition written in ARMED (R112) -/
  | disarm
  /-- an empty definition written in IDLE or CLOSED (R112) -/
  | remove
  | refused (code : ResultCode)
  deriving DecidableEq, Repr

/-- An empty definition (R112). -/
def State.judgeEmpty (s : State) (g : Segment) : WriteEffect :=
  match g.committed with
  | .settled .armed => if s.commitsFull then .refused .limit else .disarm
  | .settled .opened => .refused .badState
  | _ => .remove

/-- A revision in OPEN (R113). DEDUCED (log entry 55): both instants are converted before any is held against XT, so a new close out
of range answers LIMIT where the new call has passed too. -/
def State.judgeRevise (s : State) (g : Segment) (profile : ProfileId) (d : Definition) : WriteEffect :=
  match g.defn, g.armedDay, g.armed with
  | some old, some day, some a =>
    if Definition.revises d old = false ∨ profile ≠ g.profile then .refused .badState
    else
      match s.leap.convert day d.callTime.toNat, s.leap.convert day d.closeTime.toNat with
      | some c, some k =>
        if c ≤ s.now then .refused .tooLate
        else if s.commitsFull then .refused .limit
        else .revise a { a with callAt := ⟨c, false⟩, closeAt := ⟨k, false⟩ }
      | _, _ => .refused .limit
  | _, _, _ => .refused .badState

/-- Whether some instant is at or below XT (R111, check 7). -/
def ArmedInstants.passed (a : ArmedInstants) (now : Ns) : Bool :=
  decide (a.openAt.xt ≤ now) || decide (a.callAt.xt ≤ now) || decide (a.closeAt.xt ≤ now)

/-- A write in IDLE, ARMED or CLOSED (R111, checks 7 and 8). -/
def State.judgeArm (s : State) (profile : ProfileId) (d : Definition) : WriteEffect :=
  match s.leap.arm d.firstDay.toNat d with
  | none => .refused .limit
  | some a =>
    if a.passed s.now then .refused .tooLate
    else if s.commitsFull then .refused .limit
    else .arm profile d.firstDay.toNat a

/-- The checks of R111 from 3 on, and what the write does when they pass. -/
def State.judgeWrite (s : State) (i : SegId) (profile : ProfileId) (d : Definition) : WriteEffect :=
  let g := s.segs.get i
  if g.committed.inCall || (decide (g.committed = .settled .closed) && s.endWaits i) then .refused .badState
  else if Definition.isEmpty d then s.judgeEmpty g
  else if !Definition.inRange d then .refused .limit
  else if g.committed = .settled .opened then s.judgeRevise g profile d
  else s.judgeArm profile d

/-- The committed state and the state after the grant of an ARM: ARMED, or CLOSED from CLOSED (R111). -/
def Committed.afterArm (c : Committed) : SegState := if c = .settled .closed then .closed else .armed

/-- The definition in force after a revision: the call and close times of the written one (R113). -/
def Definition.revised (old d : Definition) : Definition := { old with callTime := d.callTime, closeTime := d.closeTime }

/-- An accepted write carried out (R111 to R113); a refused one changes nothing. DESIGN CHOICE: the entry of an empty definition
holds none of the other fields written with it (log entry 42), and in CLOSED no removed day and instants (log entry 43). -/
def State.applyWrite (s : State) (i : SegId) (swap : Bool) (p : Port) (d : Definition) : WriteEffect → State
  | .arm profile day armed =>
    let g := s.segs.get i
    let after := g.committed.afterArm
    ((s.withSeg i
        { g with profile := profile, defn := some d, armedDay := some day, armed := some armed, extensions := 0 }).commit
      { seg := i, kind := .arm swap p (some day) (some armed), after := some after } (.settled after)).followCloses
  | .revise old new =>
    let g := s.segs.get i
    ((s.withSeg i { g with defn := g.defn.map fun o => Definition.revised o d, armed := some new }).commit
      { seg := i
        kind := .revise swap p old.callAt.xt old.closeAt.xt new.callAt.xt new.closeAt.xt
        after := some .opened } (.settled .opened)).followCloses
  | .disarm =>
    let g := s.segs.get i
    ((s.withSeg i { g with defn := none, armedDay := none, armed := none }).commit
      { seg := i, kind := .disarm swap p g.armedDay g.armed, after := some .idle } (.settled .idle)).followCloses
  | .remove =>
    let g := s.segs.get i
    ((s.withSeg i { g with defn := none, armedDay := none, armed := none }).ask
      (.segment i.val (.write swap g.profile none none none none) (some p) 0)).followCloses
  | .refused _ => s

/-- A write of segment `i`: the state after it and the code that answers a plain write. -/
def WriteEffect.code : WriteEffect → ResultCode
  | .refused code => code
  | _ => .ok

/-- SEGMENT_WRITE (R111). -/
def execSegmentWrite (p : Port) (tag : Tag) (seg profile : Byte) (d : Definition) (s : State) :
    Host.Outcome State Fault Refusal :=
  .next
    (s.takeWith .schedule p tag (.segmentWrite seg profile d) fun s =>
      match segOf seg, profileOfByte profile with
      | some i, some pr =>
        (s.applyWrite i false p d (s.judgeWrite i pr d)).done p tag (s.judgeWrite i pr d).code false
      | _, _ => s.done p tag .badIndex false)

/-- SEGMENT_SWAP (R114): as the write, but answered with the record as it stood before the taking. -/
def execSegmentSwap (p : Port) (tag : Tag) (seg profile : Byte) (d : Definition) (s : State) :
    Host.Outcome State Fault Refusal :=
  .next
    (s.takeWith .schedule p tag (.segmentSwap seg profile d) fun s =>
      match segOf seg, profileOfByte profile with
      | some i, some pr =>
        match s.judgeWrite i pr d with
        | .refused code => s.done p tag code false
        | effect => (s.applyWrite i true p d effect).answer p (.segment tag (s.segmentBody i))
      | _, _ => s.done p tag .badIndex false)

/-- SEGMENT_READ (R115). -/
def execSegmentRead (p : Port) (tag : Tag) (seg : Byte) (s : State) : Host.Outcome State Fault Refusal :=
  .next
    (s.takeWith .schedule p tag (.segmentRead seg) fun s =>
      match segOf seg with
      | none => s.done p tag .badIndex false
      | some i => s.answer p (.segment tag (s.segmentBody i)))

/-! ## PROFILE_WRITE (R116) -/

/-- The three fields written, each clamped to its range (06 Table 6-4). -/
def clampedProfile (maxExt : Byte) (ext : BitVec 16) (window : BitVec 32) : SegProfile where
  window := clampNat 0 600000000 window.toNat
  extLength := clampNat 1 3600 ext.toNat
  maxExt := clampNat 0 15 maxExt.toNat

/-- The three fields as written. -/
def writtenProfile (maxExt : Byte) (ext : BitVec 16) (window : BitVec 32) : SegProfile where
  window := window.toNat
  extLength := ext.toNat
  maxExt := maxExt.toNat

/-- Whether a segment that uses profile `pr` is in its call (R116). DEDUCED (log entry 49): R116's test decides, also where R99 would
refuse beside a CALL that waits before a HALT. -/
def State.profileBusy (s : State) (pr : ProfileId) : Bool :=
  s.segs.any fun g => decide (g.profile = pr) && (g.state.inCall || g.committed.inCall)

/-- PROFILE_WRITE (R116). -/
def execProfileWrite (p : Port) (tag : Tag) (profile maxExt : Byte) (ext : BitVec 16) (window : BitVec 32) (s : State) :
    Host.Outcome State Fault Refusal :=
  .next
    (s.takeWith .schedule p tag (.profileWrite profile maxExt ext window) fun s =>
      match profileOfByte profile with
      | none => s.done p tag .badIndex false
      | some pr =>
        if s.profileBusy pr then s.done p tag .badState false
        else
          let new := clampedProfile maxExt ext window
          let clamped := decide (new ≠ writtenProfile maxExt ext window)
          ((s.withProfiles (s.profiles.set pr new)).ask
            (.segment pr.val (.profile (s.profiles.get pr) new clamped) (some p) 0)).done p tag .ok clamped)

end Sys2Proof.Machine
end

