-- ==== Sys2Proof/Machine/References.lean ====
section
/-! DEFINITION. The commands of the Reference Monitors (chapter 2): messages, pulses, MISSING verdicts and the absence deadline. -/

namespace Sys2Proof.Machine

/-- The state with reference `r`'s record replaced. -/
def State.withRef (s : State) (r : RefId) (rec : RefRecord) : State := s.withRefs (s.refs.set r rec)

/-- A change of a reference's state, with its SOURCE entry and STATUS notice (R28). -/
def State.changeRef (s : State) (r : RefId) (new : RefState) : State :=
  let old := (s.refs.get r).state
  ((s.withRef r { s.refs.get r with state := new }).ask (.source (.refState r old new))).raiseStatus (.reference r new)

/-- Whether the line has been idle for 500 us when byte `b` begins, its stop bit being sampled at `stop`: it has been high for all of
them, and they come after the last stop bit (R18). A line held low after a framing error is not idle. -/
def RefRecord.idleBefore (x : RefRecord) (b : LineByte) (stop : Ns) : Bool :=
  decide (quietNs ≤ b.high) && decide (x.busyUntil + quietNs ≤ stop - (byteNs : Int))

/-- The bytes under assembly when byte `b` comes: none of a new message after 500 us of idle line, which discards one of fewer than
16 bytes; otherwise those held, if the receiver does not wait (R18). -/
def RefRecord.underAssembly (x : RefRecord) (b : LineByte) (stop : Ns) : Option (List Byte) :=
  if x.idleBefore b stop then some [] else x.assembly

/-- The receiver and the last message after a byte (R18, R19): a byte that no message takes is discarded; the 16th completes its
message, dated with the XT of its own stop bit, and the receiver waits for the line to be idle. -/
def RefRecord.hearByte (now : Ns) (x : RefRecord) (b : LineByte) : RefRecord :=
  let stop : Ns := now - (b.ago : Int)
  match x.underAssembly b stop with
  | none => { x with assembly := none, busyUntil := stop }
  | some held =>
    let all := held ++ [b.value]
    if all.length < messageBytes then { x with assembly := some all, busyUntil := stop }
    else
      { x with
        assembly := none
        busyUntil := stop
        lastMessage := match parseMessage all stop with
          | some m => some m
          | none => x.lastMessage }

/-- TIME_OF_DAY_MESSAGE: bytes are assembled one after another (R18), and a complete message that passes becomes the last message
(R19). -/
def execTimeOfDayMessage (r : RefId) (run : LineRun) (s : State) : Host.Outcome State Fault Refusal :=
  .next (s.withRef r (run.foldl (RefRecord.hearByte s.now) (s.refs.get r)))

/-- MESSAGE_FRAMING_ERROR (R18): the message under assembly is discarded and the wait for an idle line begins. The line is low now; it
is idle from when it is high again, as the byte that comes next says (`RefRecord.idleBefore`). -/
def execMessageFramingError (r : RefId) (s : State) : Host.Outcome State Fault Refusal :=
  .next (s.withRef r { s.refs.get r with assembly := none, busyUntil := s.now })

/-- The kind of a verdict. -/
def Verdict.grade : Verdict → Grade
  | .good _ => .good
  | .bad => .bad
  | .missing => .missing

/-- The phase error of a GOOD verdict. -/
def Verdict.error : Verdict → Option Int
  | .good m => some m.e
  | _ => none

/-- The hand-over slot takes a new verdict: a mature waiting one moves to the ready slot first, an unripe one is dropped (R24). -/
def RefRecord.hold (x : RefRecord) (v : Verdict) (maturity now : Ns) : RefRecord :=
  { x with
    ready := match x.waiting with
      | some h => if h.maturity ≤ now then some h else x.ready
      | none => x.ready
    waiting := some { verdict := v, maturity := maturity } }

/-- A verdict in the history, the counts, last e, the span and the hand-over slot (R22, R24). -/
def RefRecord.record (x : RefRecord) (v : Verdict) (maturity now : Ns) : RefRecord :=
  { x.hold v maturity now with
    history := (v.grade :: x.history).take historyPlaces
    goodRun := if v.grade = .good then satAdd max16 x.goodRun 1 else 0
    badRun := if v.grade = .good then 0 else satAdd max16 x.badRun 1
    lastE := v.error
    span := match v.error with
      | some e => offerError x.span e
      | none => x.span }

/-- A verdict in the summary counters (R24, R137). -/
def Counters.verdict (c : Counters) (r : RefId) (v : Verdict) : Counters :=
  match v with
  | .good m => { c with good := c.good.set r (bump (c.good.get r)), span := c.span.set r (offerError (c.span.get r) m.e) }
  | .bad => { c with bad := c.bad.set r (bump (c.bad.get r)) }
  | .missing => { c with missing := c.missing.set r (bump (c.missing.get r)) }

/-- The loss test (R26). -/
def RefRecord.loses (x : RefRecord) : Bool :=
  match x.profile with
  | .strict => decide (2 ≤ x.badRun)
  | .lenient => decide (8 ≤ x.badRun)

/-- The qualification test (R27). -/
def RefRecord.qualifies (x : RefRecord) : Bool :=
  match x.profile with
  | .strict => decide (10 ≤ x.goodRun)
  | .lenient => decide (x.history.take 4 = [.good, .good, .good, .good]) && decide (12 ≤ x.history.count .good)

/-- The state that the qualification logic gives after a verdict (R26, R27). -/
def RefRecord.judged (x : RefRecord) (g : Grade) : RefState :=
  match x.state, g with
  | .qualified, .good => .qualified
  | .qualified, _ => if x.loses then .lost else .qualified
  | .qualifying, .good => if x.qualifies then .qualified else .qualifying
  | .lost, .good => if x.qualifies then .qualified else .lost
  | st, _ => st

/-- Recording a verdict of reference `r` (R24): the record, the summary, then the qualification logic. -/
def State.recordVerdict (s : State) (r : RefId) (v : Verdict) (maturity : Ns) : State :=
  let s := (s.withRef r ((s.refs.get r).record v maturity s.now)).count fun c => c.verdict r v
  let new := (s.refs.get r).judged v.grade
  if new = (s.refs.get r).state then s else s.changeRef r new

/-- The paired message of a pulse at `c` (R21). -/
def RefRecord.paired (x : RefRecord) (c : Ns) : Option Message :=
  match x.lastMessage with
  | some m => if !m.used ∧ c - pairingNs ≤ m.arrival then some m else none
  | none => none

/-- Whether the interval to a pulse at `c` is within the window (R21, condition 1). -/
def RefRecord.inWindow (x : RefRecord) (pWin : Nat) (c : Ns) : Bool :=
  match x.lastPulse with
  | some p => decide ((secondNs : Int) - pWin ≤ c - p) && decide (c - p ≤ (secondNs : Int) + pWin)
  | none => false

/-- The measurement of a GOOD pulse (R22). -/
def RefRecord.measure (x : RefRecord) (m : Message) (c : Ns) : Measure :=
  let expected : Ns := (m.seconds * secondNs : Nat) + x.cableDelay
  { e := clampInt (-errorClamp) errorClamp (c - expected), c := c, expected := expected }

/-- The verdict on a pulse at `c` (R21). -/
def RefRecord.verdict (x : RefRecord) (cfg : RefConfig) (c : Ns) : Verdict :=
  match x.paired c with
  | some m =>
    if x.inWindow cfg.pWin c = true ∧ (x.goodLabel = none ∨ x.goodLabel.map (· + 1) = some m.seconds) ∧ cfg.minQuality ≤ m.quality then
      .good (x.measure m c)
    else .bad
  | none => .bad

/-- The pulse times that every pulse sets (R20, R21). -/
def RefRecord.pulseAt (x : RefRecord) (pWin : Nat) (c : Ns) : RefRecord :=
  { x with lastPulse := some c, expected := some (c + secondNs + pWin), absence := some (c + absenceNs) }

/-- A message marked used (R21). -/
def Message.markUsed (m : Message) : Message := { m with used := true }

/-- A judged pulse in the record, but for its verdict (R21). -/
def RefRecord.judgePulse (x : RefRecord) (cfg : RefConfig) (c : Ns) : RefRecord :=
  { x.pulseAt cfg.pWin c with
    lastMessage := if (x.paired c).isSome then x.lastMessage.map Message.markUsed else x.lastMessage
    goodLabel := match x.verdict cfg c with
      | .good _ => (x.paired c).map Message.seconds
      | _ => none }

/-- REFERENCE_PULSE: the first pulse of an ABSENT reference makes it QUALIFYING (R20); any other is judged (R21), measured (R22)
and recorded (R24). -/
def execReferencePulse (r : RefId) (s : State) : Host.Outcome State Fault Refusal :=
  let x := s.refs.get r
  .next
    (if x.state = .absent then
      (s.withRef r { x.pulseAt s.refCfg.pWin s.now with goodLabel := none }).changeRef r .qualifying
    else
      (s.withRef r (x.judgePulse s.refCfg s.now)).recordVerdict r (x.verdict s.refCfg s.now) (s.now + maturityNs))

/-- The expected instant that XT has passed without a pulse, if any (R23). -/
def State.missed (s : State) (r : RefId) : Option Ns :=
  match (s.refs.get r).expected with
  | some x => if x < s.now then some x else none
  | none => none

/-- MISSING_VERDICT (R23). -/
def execMissingVerdict (r : RefId) (s : State) : Host.Outcome State Fault Refusal :=
  .next
    (match s.missed r with
      | some x =>
        (s.withRef r { s.refs.get r with goodLabel := none, expected := some (x + secondNs) }).recordVerdict r .missing
          (x + maturityNs)
      | none => s)

/-- A record gone ABSENT, but for its state (R25). -/
def RefRecord.forget (x : RefRecord) : RefRecord :=
  { x with
    history := []
    goodRun := 0
    badRun := 0
    lastPulse := none
    expected := none
    absence := none
    goodLabel := none
    lastE := none
    waiting := none
    ready := none
    disagree := 0
    lastD := none }

/-- ABSENCE_DEADLINE (R25). -/
def execAbsenceDeadline (r : RefId) (s : State) : Host.Outcome State Fault Refusal :=
  .next
    (if reached (s.refs.get r).absence s.now then (s.withRef r (s.refs.get r).forget).changeRef r .absent else s)

end Sys2Proof.Machine
end

