-- ==== Sys2Proof/Machine/Steering.lean ====
section
/-! DEFINITION. The second mark (R39 and the other blocks' work at it, R8), the applied step (R10) and the acquisition timeout
(R43). -/

namespace Sys2Proof.Machine

/-! ## Stages 1 to 3: hand-over, selection, cross-check (chapter 2) -/

/-- A ripe waiting verdict moved to the ready slot (R30). -/
def RefRecord.ripen (x : RefRecord) (now : Ns) : RefRecord :=
  match x.waiting with
  | some h => if h.maturity ≤ now then { x with waiting := none, ready := some h } else x
  | none => x

/-- The verdicts that the monitors hand over at this mark (R30). -/
def State.seconds (s : State) : PerRef (Option Verdict) := s.refs.map fun x => (x.ripen s.now).ready.map HeldVerdict.verdict

/-- The records after the hand-over (R30). -/
def State.handOver (s : State) : State := s.withRefs (s.refs.map fun x => { x.ripen s.now with ready := none })

/-- The measurement of a GOOD second. -/
def goodOf : Option Verdict → Option Measure
  | some (.good m) => some m
  | _ => none

/-- Whether a record is a candidate (R31). -/
def RefRecord.candidate (x : RefRecord) : Bool := decide (x.state = .qualified) && decide (1 ≤ x.priority)

/-- The better of a best candidate so far and reference `r`, which stands later in the order of R31. -/
def State.better (s : State) (best : Option RefId) (r : RefId) : Option RefId :=
  if (s.refs.get r).candidate then
    match best with
    | none => some r
    | some b => if (s.refs.get r).priority < (s.refs.get b).priority then some r else some b
  else best

/-- The best candidate: of lowest priority number, the first in the order REF-A, REF-B, REF-C among equals (R31). -/
def State.bestCandidate (s : State) : Option RefId := RefId.all.foldl s.better none

/-- The selection that this mark makes (R31). -/
def State.newSelection (s : State) : Option RefId :=
  match s.steer.selection with
  | some r => if !s.refCfg.revertive && (s.refs.get r).candidate then some r else s.bestCandidate
  | none => s.bestCandidate

/-- The selection re-made; a change is reported, clears the disagreement counts (R32), and makes the held announcement UNKNOWN
(R66). -/
def State.select (s : State) : State :=
  let old := s.steer.selection
  let new := s.newSelection
  if new = old then s
  else
    let s := (s.withSteer { s.steer with selection := new }).withLeap { s.leap with announced := .unknown }
    let s := (s.ask (.source (.selection old new))).raiseStatus (.selection new)
    s.withRefs (s.refs.map fun x => { x with disagree := 0, lastD := none })

/-- The selected reference's GOOD second at this mark, if it has one (R30). -/
def State.goodSecond (s : State) (seconds : PerRef (Option Verdict)) : Option Measure :=
  match s.steer.selection with
  | some r => goodOf (seconds.get r)
  | none => none

/-- The comparison of one reference with the selected one (R33). -/
def RefRecord.compare (limit : Nat) (sel : Measure) (second : Option Verdict) (x : RefRecord) : RefRecord :=
  if x.state ≠ .qualified then { x with disagree := 0, lastD := none }
  else
    match goodOf second with
    | none => x
    | some m =>
      { x with
        lastD := some (m.e - sel.e).natAbs
        disagree := if limit < (m.e - sel.e).natAbs then satAdd 3 x.disagree 1 else 0 }

/-- The cross-check (R33). The selected reference's own count is 0 and its last d absent. -/
def State.crossCheck (s : State) (seconds : PerRef (Option Verdict)) : State :=
  match s.goodSecond seconds with
  | none => s
  | some sel =>
    s.withRefs
      (s.refs.mapRef fun r x =>
        if s.steer.selection = some r then { x with disagree := 0, lastD := none }
        else x.compare s.refCfg.limitD sel (seconds.get r))

/-! ## Stages 4 to 9 (chapter 3) -/

/-- Stage 4: the written items come into force, I and A are clamped anew (R53, R60), and a change of H in HOLDOVER rebases the
growth (R55). -/
def SteeringUnit.takeItems (x : SteeringUnit) : SteeringUnit :=
  let rebase := x.state = .holdover ∧ x.inForce.growthH ≠ x.written.growthH
  let l : Int := x.written.slewL
  { x with
    inForce := x.written
    integ := clampInt (-l) l x.integ
    adj := clampInt (-l) l x.adj
    bEntry := if rebase then x.bound else x.bEntry
    hSeconds := if rebase then 0 else x.hSeconds }

/-- The error of a second in ACQUIRE: C - E, as moved by any step, clamped (R41). -/
def Measure.acquired (m : Measure) : Int := clampInt (-errorClamp) errorClamp (m.c - m.expected)

/-- The acquisition step asked for, unless its value would be refused (R42). -/
def SteeringUnit.askStep (x : SteeringUnit) (m : Measure) (now : Ns) : SteeringUnit :=
  let value := m.expected + (now - m.c)
  { x with
    lockCount := 0
    pendingSteps :=
      if 0 ≤ value ∧ value < stepLimit then x.pendingSteps ++ [{ origin := .acquisition, value := value }] else x.pendingSteps }

/-- Stage 5 in ACQUIRE (R41). -/
def State.decideAcquire (s : State) (changed : Bool) (good : Option Measure) : State :=
  match good with
  | none => s.withSteer { s.steer with lockCount := 0 }
  | some m =>
    let x := { s.steer with eHeld := some m.acquired }
    let count := (if changed then 0 else x.lockCount) + 1
    if x.wLock < (m.c - m.expected).natAbs then s.withSteer (x.askStep m s.now)
    else if count < 3 then s.withSteer { x with lockCount := count }
    else ((s.withSteer { x with lockCount := 3, acqTimer := none, integ := 0 }).enterState .locked).openStamping

/-- Stage 5 in LOCKED (R48). -/
def State.decideLocked (s : State) (good : Option Measure) : State :=
  match s.steer.selection with
  | none =>
    (s.withSteer { s.steer with bEntry := s.steer.bound, hSeconds := 0, adj := s.steer.integ }).enterState .holdover
  | some _ =>
    match good with
    | some m => s.withSteer { s.steer with eHeld := some m.e }
    | none => s

/-- Stage 5 in HOLDOVER (R49). -/
def State.decideHoldover (s : State) (good : Option Measure) : State :=
  match good with
  | some m => (s.withSteer { s.steer with eHeld := some m.e }).enterState .locked
  | none => s

/-- Stage 5: the state decision (R39). -/
def State.decideState (s : State) (changed : Bool) (good : Option Measure) : State :=
  match s.steer.state with
  | .acquire => s.decideAcquire changed good
  | .locked => s.decideLocked good
  | .holdover => s.decideHoldover good
  | _ => s

/-- The loop update with error `e` (R51). -/
def SteeringUnit.runLoop (x : SteeringUnit) (e : Int) : SteeringUnit :=
  let l : Int := x.inForce.slewL
  let eLoop := clampInt (-loopClamp) loopClamp e
  let p := (eLoop * x.inForce.kp).tdiv 16
  let i := clampInt (-l) l (x.integ - (eLoop * x.inForce.ki).tdiv 16)
  { x with integ := i, adj := clampInt (-l) l (i - p) }

/-- Stage 6: in LOCKED the loop runs on a GOOD second's error, which is the held error (R41, R48, R49, R51). -/
def SteeringUnit.loopStage (x : SteeringUnit) (good : Option Measure) : SteeringUnit :=
  match good with
  | some m => if x.state = .locked then x.runLoop (x.eHeld.getD m.e) else x
  | none => x

/-- The stated uncertainty of the selected reference's last message; 0 where none is held (log entry 21). -/
def State.selectedUncertainty (s : State) : Nat :=
  match s.steer.selection with
  | some r =>
    match (s.refs.get r).lastMessage with
    | some m => m.uncertainty
    | none => 0
  | none => 0

/-- What a reference adds to the X term: its last d when its disagreement count is 3 (R54). -/
def RefRecord.excess (x : RefRecord) : Nat := if x.disagree = 3 then x.lastD.getD 0 else 0

/-- The X term of the LOCKED bound (R54). -/
def State.excess (s : State) : Nat := max (max s.refs.a.excess s.refs.b.excess) s.refs.c.excess

/-- The LOCKED bound before it saturates (R54). -/
def State.lockedBound (s : State) : Nat :=
  (s.steer.eHeld.getD 0).natAbs + s.selectedUncertainty + s.steer.uFixed + s.excess

/-- B saturates at its greatest value (section 3.6). -/
def saturate (n : Nat) : Nat := min n max32

/-- Stage 7: the bound, for the state reached (R54 to R56). `entered` says whether HOLDOVER was entered at this mark. -/
def State.boundStage (s : State) (entered : Bool) : SteeringUnit :=
  let x := s.steer
  match x.state with
  | .locked => { x with bound := saturate s.lockedBound }
  | .holdover =>
    if entered then { x with bound := x.bEntry }
    else
      let n := satAdd max32 x.hSeconds 1
      { x with hSeconds := n, bound := saturate (x.bEntry + x.inForce.growthH * n) }
  | .fallback => { x with bound := saturate (x.bound + x.inForce.growthHRing) }
  | .cold => { x with bound := max32 }
  | .acquire => { x with bound := max32 }

/-- The cause of a change of state made by a second mark (03 Table 3-3). -/
def markCause : TimescaleState → TimescaleState → TimescaleCause
  | .acquire, _ => .lockAchieved
  | .holdover, _ => .referenceRegained
  | _, _ => .referenceLost

/-- Stage 9: the report of a change of state or of the traceable flag (R38). -/
def State.reportMark (s : State) (old : TimescaleState) (oldTraceable : Bool) : State :=
  if s.steer.state ≠ old then s.reportTimescale old (markCause old s.steer.state)
  else if s.steer.traceable ≠ oldTraceable then s.reportTimescale old .bound
  else s

/-- The error that SECOND_EVIDENCE carries (R59). DESIGN CHOICE (log entry 47): at a mark in COLD or FALLBACK, where the loop uses
none, it is the e of the selected reference's GOOD second. -/
def markError (old : TimescaleState) (good : Option Measure) : Option Int :=
  match good with
  | some m => some (if old = .acquire then m.acquired else m.e)
  | none => none

/-- The bound and an untraceable second counted into the summary (R59). -/
def Counters.second (c : Counters) (bound : Nat) (traceable : Bool) : Counters :=
  { c with
    maxBound := offerMax c.maxBound bound
    untraceable := if traceable then c.untraceable else bump c.untraceable }

/-- The SECOND_EVIDENCE entry and its counts (R59). -/
def State.evidenceStage (s : State) (error : Option Int) : State :=
  (s.ask
    (.secondEvidence s.steer.state s.steer.selection error s.steer.adj s.steer.bound s.steer.traceable)).count fun c =>
      c.second s.steer.bound s.steer.traceable

/-! ## The hand-over to the Leap Unit (R66) -/

/-- The announcement that a message derives (R66). -/
def Message.announced (m : Message) : Announcement :=
  let day := (((m.seconds : Int) - m.offset).tdiv daySeconds).toNat
  match m.announcement with
  | .none => .nothing
  | .insert => .leap { kind := .insert, day := day }
  | .delete => .leap { kind := .delete, day := day }

/-- The offset reading and the announcement of a message (R66, R70, R72). -/
def State.readMessage (s : State) (m : Message) : State :=
  let s := if s.leapNow = .none ∧ s.leap.pending = none then s.correctOffset m.offset .reference else s
  if m.announced = s.leap.announced then s
  else ((s.withLeap { s.leap with announced := m.announced }).agreeLeap m.announced.leap? .reference).compareLeap

/-- The hand-over at the end of a mark's work (R66). -/
def State.leapHandOver (s : State) (good : Option Measure) : State :=
  match s.steer.selection, good with
  | some r, some _ =>
    match (s.refs.get r).lastMessage with
    | some m => if s.steer.state = .locked ∧ s.leapNow ≠ .inLeap then s.readMessage m else s
    | none => s
  | _, _ => s

/-! ## The other blocks at the mark -/

/-- The ring calibration (R11). -/
def TickUnit.calibrate (t : TickUnit) : TickUnit :=
  let t := match t.calibCount with
    | some n =>
      if ringCountLow ≤ n ∧ n ≤ ringCountHigh then { t with ringIncrement := ringDividend / n, calibrated := true } else t
    | none => t
  { t with calibCount := if t.source = .pll ∧ t.pllMonitor = .confirmed then some 0 else none }

/-- A line in SECOND_PULSE at the mark of the whole multiple `m` (R128). -/
def OutputLine.mark (m : Nat) (o : OutputLine) : OutputLine :=
  if o.mode = .secondPulse then
    { o with high := true, widthInUse := o.width, pulseEnd := some ((m + o.width * 1000 : Nat) : Int) }
  else o

/-- The Trail Unit's work at a mark: seconds covered, and in AUTO mode the summary when the interval is reached (R138). -/
def TrailUnit.mark (t : TrailUnit) (w : Writing) : TrailUnit :=
  let t := { t with seconds := bump t.seconds }
  if t.mode = .auto ∧ t.interval ≤ t.seconds then t.summarise none w else t

/-- The Trail Unit's work at a mark, on the whole state. -/
def State.trailMark (s : State) : State := s.withTrail (s.trail.mark s.writing)

/-- Stages 1 to 3 of R39. -/
def State.markReferences (s : State) : State := (s.handOver.select).crossCheck s.seconds

/-- Stages 4 to 8 of R39, after the references' stages; `changed` says whether the selection changed at this mark. -/
def State.markSteer (s : State) (changed : Bool) (good : Option Measure) : State :=
  let old := s.steer.state
  let s := (s.withSteer s.steer.takeItems).decideState changed good
  let s := s.withSteer (s.steer.loopStage good)
  let s := s.withSteer (s.boundStage (decide (old = .locked)))
  s.withSteer s.steer.retrace

/-- The Steering Unit's work at a mark (R39) and the hand-over to the Leap Unit (R66). -/
def State.steerMark (s : State) : State :=
  let s1 := s.markReferences
  let good := s1.goodSecond s.seconds
  let s2 := s1.markSteer (decide (s1.steer.selection ≠ s.steer.selection)) good
  ((s2.reportMark s.steer.state s.steer.traceable).evidenceStage (markError s.steer.state good)).leapHandOver good

/-- SECOND_MARK (R39, R8): the mark that XT has reached is worked by the Steering Unit, the Leap Unit, the Tick Unit, the Output Unit
and the Trail Unit; `trailFirst` says whether the Trail Unit's work comes first (R138). -/
def execSecondMark (trailFirst : Bool) (s : State) : Host.Outcome State Fault Refusal :=
  .next
    (match s.xt.markDue with
      | none => s
      | some m =>
        let s := s.withXt { s.xt with markDue := none }
        let s := if trailFirst then s.trailMark else s
        let s := s.steerMark
        let s := (s.withTick s.tick.calibrate).withOutputs (s.outputs.map (OutputLine.mark m))
        if trailFirst then s else s.trailMark)

/-- ACQ_TIMEOUT (R43). -/
def execAcqTimeout (s : State) : Host.Outcome State Fault Refusal :=
  .next (if s.acqExpired then s.expireAcquisition else s)

end Sys2Proof.Machine
end

