-- ==== Sys2Proof/Machine/Timebase.lean ====
section
/-! DEFINITION. The commands of the Tick Unit (chapter 1): the main oscillator and PLL monitors, the lock wait, the return from
FALLBACK, and the device reset. -/

namespace Sys2Proof.Machine

/-- The Epoch Store read, advanced or re-initialised, and written back (R76). A write-back that is lost leaves what the store
held. -/
def EpochStore.advance (x : EpochStore) (storeLost writeLost : Bool) : EpochStore :=
  match (if storeLost then none else x.stored) with
  | some n =>
    { epoch := (n + 1) % 65536, reinitialised := false, stored := some (if writeLost then n else (n + 1) % 65536) }
  | none => { epoch := 0, reinitialised := true, stored := if writeLost then none else some 0 }

/-- DEVICE_RESET (R17): every block takes its reset values (R37, R62, R74, R92, R120, R126, R131, R146, R164). The random source
goes on (R101), and the commands waiting for the part stay (log entry 28). -/
def execDeviceReset (straps : Bank 8 Straps) (storeLost writeLost : Bool) (s : State) : Host.Outcome State Fault Refusal :=
  .next
    { State.afterReset straps (s.epoch.advance storeLost writeLost) with
      drawIndex := s.drawIndex
      freeIndex := s.freeIndex
      pending := s.pending }

/-- MAIN_PRESENT (R2): an edge of the main input. It restarts the interval of 1 us. While the monitor is ABSENT it makes it PRESENT,
begins the settle of a return in WAIT_MAIN (R14) and may begin a lock wait (R3). -/
def execMainPresent (s : State) : Host.Outcome State Fault Refusal :=
  .next
    (match s.tick.mainMonitor with
      | .present => s.withTick { s.tick with mainGap := some gapCycles }
      | .absent =>
        let tick := { s.tick with mainMonitor := .present, mainGap := some gapCycles }
        (s.withTick (if s.tick.returnPhase = .waitMain then tick.settle s.now else tick)).tryLockWait)

/-- The effect of a monitor or lock-flag change on the return sequence in SETTLE or LOCK_WAIT, outside a main loss: the sequence
goes back to WAIT_MAIN when the main oscillator is gone (01 Table 1-4). -/
def TickUnit.mainGone (t : TickUnit) : TickUnit :=
  match t.returnPhase with
  | .settle => { t with returnPhase := .waitMain, settleDeadline := none }
  | .lockWait => { t with returnPhase := .waitMain, settleDeadline := none }
  | _ => t

/-- Whether 1 us of ring time has passed without an edge while the monitor is PRESENT (R2). -/
def TickUnit.mainSilent (t : TickUnit) : Bool := decide (t.mainMonitor = .present) && decide (t.mainGap = some 0)

/-- MAIN_ABSENT (R2): 1 us without an edge. The PLL monitor becomes UNLOCKED (R3); leaving CONFIRMED in ACQUIRE, LOCKED or HOLDOVER
is a main loss (R4). A return whose PLL edge has come is complete before it (R15, log entry 22). -/
def execMainAbsent (s : State) : Host.Outcome State Fault Refusal :=
  .next
    (if !s.tick.mainSilent then s
      else
        let s := s.finishReturn
        let tick :=
          { s.tick.mainGone with mainMonitor := .absent, mainGap := none, pllMonitor := .unlocked, lockWaitTimer := none }
        if s.tick.pllMonitor = .confirmed then (s.withTick tick).mainLoss else s.withTick tick)

/-- PLL_LOCK_RAISED (R3). -/
def execPllLockRaised (s : State) : Host.Outcome State Fault Refusal :=
  .next (s.withTick { s.tick with lockFlag := true }).tryLockWait

/-- PLL_LOCK_FALLEN (R3): heeded only while the main oscillator is PRESENT. In LOCK_WAIT of a return it restarts the settle
(01 Table 1-4); leaving CONFIRMED in ACQUIRE, LOCKED or HOLDOVER is a main loss (R4). A return whose PLL edge has come is complete
before it (R15, log entry 22). -/
def execPllLockFallen (s : State) : Host.Outcome State Fault Refusal :=
  .next
    (match s.tick.mainMonitor with
      | .absent => s.withTick { s.tick with lockFlag := false }
      | .present =>
        let s := s.finishReturn
        let tick := { s.tick with lockFlag := false, pllMonitor := .unlocked, lockWaitTimer := none }
        if s.tick.returnPhase = .lockWait then s.withTick (tick.settle s.now)
        else if s.tick.pllMonitor = .confirmed then (s.withTick tick).mainLoss
        else s.withTick tick)

/-- Whether the lock wait has run its 1 ms (R3). -/
def TickUnit.lockWaitOver (t : TickUnit) : Bool := decide (t.pllMonitor = .lockWait) && decide (t.lockWaitTimer = some 0)

/-- The Steering Unit as acquisition starts (R40). -/
def SteeringUnit.startAcquire (x : SteeringUnit) : SteeringUnit :=
  { x with
    lockCount := 0
    integ := 0
    adj := 0
    eHeld := none
    acqTimer := some 0
    bound := max32
    traceable := false }

/-- LOCK_WAIT_EXPIRY (R3): the monitor becomes CONFIRMED. In COLD this confirms lock, and the state becomes ACQUIRE (R5, R40); in
FALLBACK the return is completed by MAIN_RETURN (R15). In both the PLL drives from its next edge on (R1). -/
def execLockWaitExpiry (s : State) : Host.Outcome State Fault Refusal :=
  .next
    (if !s.tick.lockWaitOver then s
      else
        let tick := { s.tick with pllMonitor := .confirmed, lockWaitTimer := none }
        if s.steer.state = .cold then
          (((s.withTick tick).withSteer s.steer.startAcquire).enterState .acquire).reportTimescale .cold .lockConfirmed
        else s.withTick tick)

/-- SETTLE_COMPLETE (R14): XT has reached the settle deadline. -/
def execSettleComplete (s : State) : Host.Outcome State Fault Refusal :=
  .next
    (if s.tick.returnPhase = .settle ∧ reached s.tick.settleDeadline s.now = true then s.completeSettle else s)

/-- MAIN_RETURN (R15): the PLL edge after the confirmation has come, and the state becomes HOLDOVER. -/
def execMainReturn (s : State) : Host.Outcome State Fault Refusal := .next s.finishReturn

end Sys2Proof.Machine
end

