-- ==== Sys2Proof/Machine/Tick.lean ====
section
/-! DEFINITION. The tick: the advance of XT (R6), the applied step in its place (R10), the counts that ticks and ring cycles drive,
and the part's own events that are due between two ticks. -/

namespace Sys2Proof.Machine

/-! ## The advance (R1, R6, R8) -/

/-- The source that drives the next tick (01 Table 1-1): the PLL in ACQUIRE, LOCKED and HOLDOVER, and at the edge that completes a
return; the ring otherwise (R1, R5, R15). -/
def State.tickSource (s : State) : TickSource :=
  match s.steer.state with
  | .cold => .ring
  | .acquire => .pll
  | .locked => .pll
  | .holdover => .pll
  | .fallback => if s.returnPending then .pll else .ring

/-- The adjustment of a PLL tick: A, or at the edge that completes a return the A that HOLDOVER begins with (R1, R15). -/
def State.tickAdj (s : State) : Int := if s.steer.state = .fallback then s.steer.resumed else s.steer.adj

/-- The increment of the next tick (R1). -/
def State.increment (s : State) : Nat :=
  match s.tickSource with
  | .pll => ((nominalIncrement : Int) + s.tickAdj).toNat
  | .ring => s.tick.ringIncrement

/-- XT after an increment (R6), with the second mark that the advance reaches (R8). XT wraps at 2^64 ns (log entry 9). -/
def XtCounter.advance (x : XtCounter) (inc : Nat) : XtCounter :=
  let n := x.ns + (x.frac + inc) / fracUnits
  { ns := n % xtModulus
    frac := (x.frac + inc) % fracUnits
    markDue := if x.ns / secondNs < n / secondNs then some (n / secondNs * secondNs) else x.markDue }

/-! ## What ticks and ring cycles drive -/

/-- The ring cycles of this tick: one on a ring tick, a free number on a PLL tick (log entry 7). -/
def State.cycles (s : State) : Nat :=
  match s.tickSource with
  | .ring => 1
  | .pll => (Config.ringCycles s.freeIndex).val

/-- The Tick Unit's timers after a tick of `source` and `n` ring cycles (R1, R2, R3, R11). -/
def TickUnit.elapse (t : TickUnit) (source : TickSource) (n : Nat) : TickUnit :=
  { t with
    mainGap := t.mainGap.map (· - n)
    lockWaitTimer := t.lockWaitTimer.map (· - n)
    source := source
    calibCount := t.calibCount.map (· + n) }

/-- A port's timers after `n` ring cycles (R150, R151); entries freed before this tick are free for a STAMP (R82). -/
def PortCtl.elapse (n : Nat) (pc : PortCtl) : PortCtl :=
  { pc with silence := pc.silence.map (· - n), idleTimer := pc.idleTimer - n, justFreed := false }

/-- The acquisition timer after a tick: it counts PLL ticks in ACQUIRE (R40). -/
def State.acqElapsed (s : State) : SteeringUnit :=
  if s.steer.state = .acquire ∧ s.tickSource = .pll then { s.steer with acqTimer := s.steer.acqTimer.map (· + 1) }
  else s.steer

/-- Everything that a tick drives but XT: the timers, the arbiter's next grant, and the index of the free values. -/
def State.elapse (s : State) : State :=
  { s with
    tick := s.tick.elapse s.tickSource s.cycles
    steer := s.acqElapsed
    ports := s.ports.map (PortCtl.elapse s.cycles)
    arb := { s.arb with grantedThisTick := false, heldSeg := none }
    freeIndex := s.freeIndex + 1 }

/-- A tick that advances XT (R6). -/
def State.advance (s : State) : State := s.elapse.withXt (s.xt.advance s.increment)

/-! ## The applied step (R10) -/

/-- An XT value of a Reference Monitor moved by a step (R29). -/
def HeldVerdict.displace (d : Int) (h : HeldVerdict) : HeldVerdict :=
  { verdict := match h.verdict with
      | .good m => .good { m with c := m.c + d }
      | v => v
    maturity := h.maturity + d }

/-- A message's arrival moved by a step (R29). -/
def Message.displace (d : Int) (m : Message) : Message := { m with arrival := m.arrival + d }

/-- A reference record moved by a step of displacement `d` (R29); `quiet` is the displacement against the XT that the usual
increment would have given, which carries the receiver's idle timing. -/
def RefRecord.displace (d quiet : Int) (x : RefRecord) : RefRecord :=
  { x with
    lastPulse := x.lastPulse.map (· + d)
    expected := x.expected.map (· + d)
    absence := x.absence.map (· + d)
    lastMessage := x.lastMessage.map (Message.displace d)
    waiting := x.waiting.map (HeldVerdict.displace d)
    ready := x.ready.map (HeldVerdict.displace d)
    busyUntil := x.busyUntil + quiet }

/-- A pulse in progress moved by a step (R128). -/
def OutputLine.displace (d : Int) (o : OutputLine) : OutputLine :=
  if o.mode = .secondPulse then { o with pulseEnd := o.pulseEnd.map (· + d) } else o

/-- The state with XT stepped to `value` in place of this tick's advance, and every value that moves with it (R10, R29, R128). -/
def State.stepTo (s : State) (value : Ns) : State :=
  let d := value - s.now
  let quiet := value - ((s.xt.advance s.increment).ns : Int)
  let s' := s.elapse
  { s' with
    xt := { ns := value.toNat, frac := 0, markDue := s.xt.markDue }
    tick := { s'.tick with calibCount := none }
    refs := s.refs.map (RefRecord.displace d quiet)
    outputs := s.outputs.map (OutputLine.displace d) }

/-- The cause of an applied step's entry (R42, R45). -/
def StepOrigin.cause : StepOrigin → TimescaleCause
  | .acquisition => .acqStep
  | .manual _ _ => .manualStep

/-- The Steering Unit after a step is applied: a SET_TIME's sets the time-set flag (R45). -/
def SteeringUnit.stepped (x : SteeringUnit) (rest : List PendingStep) (origin : StepOrigin) : SteeringUnit :=
  { x with
    pendingSteps := rest
    timeSet := match origin with
      | .acquisition => x.timeSet
      | .manual _ _ => true }

/-- The answer to an applied step's SET_TIME, while its port has not been reset (R45, R62). -/
def State.answerStep (s : State) (origin : StepOrigin) : State :=
  match origin with
  | .manual (some p) tag => s.done p tag .ok false
  | _ => s

/-- The oldest pending step that the Timescale Counter takes (R10, R46). -/
def State.nextStep (s : State) : Option PendingStep :=
  match s.steer.pendingSteps with
  | st :: _ => if !s.steer.stampingOpen && decide (0 ≤ st.value) && decide (st.value < stepLimit) then some st else none
  | [] => none

/-- STEP_APPLIED (R10): the step is this tick. It is reported by a TIMESCALE entry (R38), the Leap Unit acts for every instant
passed (R64), and a SET_TIME is answered (R45). -/
def execStepApplied (s : State) : Host.Outcome State Fault Refusal :=
  .next
    (match s.nextStep with
      | none => s
      | some st =>
        let d := st.value - s.now
        let s := s.stepTo st.value
        let s := s.withSteer (s.steer.stepped s.steer.pendingSteps.tail st.origin)
        let s := s.ask
          (.timescale s.steer.state s.steer.state st.origin.cause s.steer.bound s.steer.traceable (some d))
        s.actOnLeap.answerStep st.origin)

/-! ## The part's own events (log entry 2) -/

/-- The command `c` when it is due. -/
def dueIf (b : Bool) (c : Instr) : List Instr := if b then [c] else []

/-- The grant that the arbiter makes now, as a command. -/
def State.grantDue (s : State) : List Instr :=
  match s.arbiterChoice with
  | none => []
  | some (.capture l) => [.captureGrant l]
  | some (.stamp p) => [.stampGrant p]
  | some .segment =>
    match s.commits with
    | [] => []
    | e :: _ =>
      match e.kind with
      | .arm .. => [.armGrant]
      | .revise .. => [.reviseGrant]
      | .disarm .. => [.disarmGrant]
      | .missed .. => [.missedGrant]
      | .opening => [.openGrant]
      | .call => [.callGrant]
      | .draw => [.drawGrant]
      | .ending => [.endGrant]
      | .extend _ => [.extendGrant]
      | .release _ => [.releaseGrant]
      | .halt _ => [.haltGrant]

/-- The due events of one reference. -/
def State.refDue (s : State) (r : RefId) : List Instr :=
  dueIf (s.missed r).isSome (.missingVerdict r) ++ dueIf (reached (s.refs.get r).absence s.now) (.absenceDeadline r)

/-- The due instants of one segment. -/
def State.segDue (s : State) (i : SegId) : List Instr :=
  dueIf (s.openDue i) (.openInstantDue i) ++ dueIf (s.callDue i) (.callInstantDue i)
    ++ dueIf (s.closeDue i) (.armedCloseDue i) ++ dueIf (s.drawnDue i) (.drawnCloseDue i)

/-- The due events of one output line. -/
def State.lineDue (s : State) (l : Line) : List Instr :=
  dueIf (reached (s.outputs.get l).pulseEnd s.now) (.pulseEnd l)
    ++ dueIf (reached ((s.outputs.get l).armed.map LevelAt.xt) s.now) (.atInstantFire l)

/-- Whether a DRAIN is complete (R161). -/
def PortCtl.drained (pc : PortCtl) : Bool :=
  match pc.service with
  | .draining _ 0 => true
  | _ => false

/-- The taking of the request at the head of a queue. -/
def State.headDue (s : State) (p : Port) : List Instr :=
  match (s.port p).requests with
  | q :: _ => dueIf (decide ((s.port p).service = .untaken)) (requestCommand p q)
  | [] => []

/-- The due events of one port. -/
def State.portDue (s : State) (p : Port) : List Instr :=
  let pc := s.port p
  dueIf pc.silent (.linkTimeout p) ++ dueIf pc.idleDue (.idleFrame p) ++ dueIf pc.batchDue (.batchFrame p)
    ++ dueIf (pc.answerWaits && pc.hasRoom) (.waitingAnswer p) ++ dueIf pc.drainsNotices (.pendingNoticeDrain p)
    ++ dueIf pc.drained (.drainComplete p) ++ s.headDue p

/-- The due events of the Tick Unit, the Timescale Counter and the Steering Unit; a second mark stands in both orders of the Trail
Unit's work. LEAP_EXECUTED stands beside a second mark and the requests of its tick without an order among them (log entry 41). -/
def State.timeDue (s : State) : List Instr :=
  dueIf s.tick.mainSilent .mainAbsent ++ dueIf s.tick.lockWaitOver .lockWaitExpiry
    ++ dueIf (decide (s.tick.returnPhase = .settle) && reached s.tick.settleDeadline s.now) .settleComplete
    ++ dueIf s.returnDue .mainReturn ++ dueIf s.xt.markDue.isSome (.secondMark true)
    ++ dueIf s.xt.markDue.isSome (.secondMark false) ++ dueIf s.acqExpired .acqTimeout
    ++ dueIf (s.leap.beginDue s.now) .leapBegin ++ dueIf (s.leap.executeDue s.now) .leapExecuted

/-- The part's own events that are due before the next tick. -/
def State.dueEvents (s : State) : List Instr :=
  s.timeDue ++ RefId.all.flatMap s.refDue ++ s.grantDue ++ (List.finRange 64).flatMap s.segDue
    ++ (List.finRange 8).flatMap s.lineDue ++ (List.finRange 8).flatMap s.portDue

/-- What the part does next of its own accord: a due event, chosen freely when several are due, or nothing before the next tick
(log entry 2). -/
def State.ownEvent (s : State) : Option Instr :=
  match s.dueEvents with
  | [] => none
  | c :: cs => (c :: cs)[Config.firstTaken s.freeIndex % (c :: cs).length]?

/-- The next tick: a pending step that is taken is applied in place of the advance (R10). -/
def State.nextTick (s : State) : Host.Outcome State Fault Refusal :=
  match s.nextStep with
  | some _ => execStepApplied s
  | none => .next s.advance

end Sys2Proof.Machine
end

