-- ==== Sys2Proof/Machine/Timing.lean ====
section
/-! DEFINITION. SET_TIMING (R163): one command for each item of 10 Table 10-6. Every accepted write is recorded in a CONFIG entry,
takes effect as its owning rule gives, and is answered. -/

namespace Sys2Proof.Machine

/-- The CONFIG entry of a SET_TIMING (R163). -/
def itemConfig (p : Port) (item : TimingItem) (old : Int) (v : BitVec 64) : TrailBody :=
  .config (.item p item.number old (itemValue item v) (itemClamped item v))

/-- The body of the SET_TIMING that writes an item. -/
def timingBody (item : TimingItem) (v : BitVec 64) : ReqBody := .setTiming (BitVec.ofNat 16 item.number) v

/-- A SET_TIMING that its owner accepts: the entry, the effect of the clamped value, the answer (R163). -/
def State.acceptItem (s : State) (p : Port) (tag : Tag) (item : TimingItem) (v : BitVec 64) (old : Int)
    (write : Int → State → State) : State :=
  (write (itemValue item v) (s.ask (itemConfig p item old v))).done p tag .ok (itemClamped item v)

/-- A SET_TIMING of an item whose owner refuses no write (R163). `old` reads the value held, `write` installs the new one. -/
def State.serveItem (s : State) (p : Port) (tag : Tag) (item : TimingItem) (v : BitVec 64) (old : State → Int)
    (write : Int → State → State) : State :=
  s.takeWith .timing p tag (timingBody item v) fun s => s.acceptItem p tag item v (old s) write

/-- A new settle period; a settle in progress has its deadline computed anew, and is complete at once when XT has reached it
(R16). -/
def State.writeSettle (n : Nat) (s : State) : State :=
  let began : Option Ns := s.tick.settleDeadline.map fun (d : Ns) => d - ((s.tick.settlePeriod * secondNs : Nat) : Int)
  let s := s.withTick { s.tick with settlePeriod := n }
  if s.tick.returnPhase = .settle then
    let s := s.withTick { s.tick with settleDeadline := began.map fun (b : Ns) => b + ((n * secondNs : Nat) : Int) }
    if reached s.tick.settleDeadline s.now then s.completeSettle else s
  else s

/-- SET_TIMING settle period (R16). -/
def execSetTimingSettlePeriod (p : Port) (tag : Tag) (v : BitVec 64) (s : State) : Host.Outcome State Fault Refusal :=
  .next (s.serveItem p tag .settlePeriod v (fun s => s.tick.settlePeriod) fun x s => s.writeSettle x.toNat)

/-- SET_TIMING profile of a reference (R35). -/
def execSetTimingRefProfile (p : Port) (tag : Tag) (r : RefId) (v : BitVec 64) (s : State) :
    Host.Outcome State Fault Refusal :=
  .next
    (s.serveItem p tag (.refProfile r) v (fun s => (s.refs.get r).profile.code) fun x s =>
      s.withRefs (s.refs.set r { s.refs.get r with profile := profileOfCode x }))

/-- SET_TIMING priority of a reference (R35). -/
def execSetTimingRefPriority (p : Port) (tag : Tag) (r : RefId) (v : BitVec 64) (s : State) :
    Host.Outcome State Fault Refusal :=
  .next
    (s.serveItem p tag (.refPriority r) v (fun s => (s.refs.get r).priority) fun x s =>
      s.withRefs (s.refs.set r { s.refs.get r with priority := x.toNat }))

/-- SET_TIMING cable delay of a reference (R35). -/
def execSetTimingCableDelay (p : Port) (tag : Tag) (r : RefId) (v : BitVec 64) (s : State) :
    Host.Outcome State Fault Refusal :=
  .next
    (s.serveItem p tag (.cableDelay r) v (fun s => (s.refs.get r).cableDelay) fun x s =>
      s.withRefs (s.refs.set r { s.refs.get r with cableDelay := x }))

/-- SET_TIMING P_win (R36). -/
def execSetTimingPWin (p : Port) (tag : Tag) (v : BitVec 64) (s : State) : Host.Outcome State Fault Refusal :=
  .next
    (s.serveItem p tag .pWin v (fun s => s.refCfg.pWin) fun x s => s.withRefCfg { s.refCfg with pWin := x.toNat })

/-- SET_TIMING minimum quality (R36). -/
def execSetTimingMinimumQuality (p : Port) (tag : Tag) (v : BitVec 64) (s : State) : Host.Outcome State Fault Refusal :=
  .next
    (s.serveItem p tag .minimumQuality v (fun s => s.refCfg.minQuality) fun x s =>
      s.withRefCfg { s.refCfg with minQuality := x.toNat })

/-- SET_TIMING D (R36). -/
def execSetTimingD (p : Port) (tag : Tag) (v : BitVec 64) (s : State) : Host.Outcome State Fault Refusal :=
  .next
    (s.serveItem p tag .limitD v (fun s => s.refCfg.limitD) fun x s => s.withRefCfg { s.refCfg with limitD := x.toNat })

/-- SET_TIMING revertive mode (R36). -/
def execSetTimingRevertiveMode (p : Port) (tag : Tag) (v : BitVec 64) (s : State) : Host.Outcome State Fault Refusal :=
  .next
    (s.serveItem p tag .revertiveMode v (fun s => boolCode s.refCfg.revertive) fun x s =>
      s.withRefCfg { s.refCfg with revertive := decide (x = 1) })

/-- The written values of the five loop items replaced (R60). -/
def State.writeLoop (f : LoopItems → LoopItems) (s : State) : State :=
  s.withSteer { s.steer with written := f s.steer.written }

/-- SET_TIMING KP (R60). -/
def execSetTimingKp (p : Port) (tag : Tag) (v : BitVec 64) (s : State) : Host.Outcome State Fault Refusal :=
  .next (s.serveItem p tag .kp v (fun s => s.steer.written.kp) fun x s => s.writeLoop fun w => { w with kp := x.toNat })

/-- SET_TIMING KI (R60). -/
def execSetTimingKi (p : Port) (tag : Tag) (v : BitVec 64) (s : State) : Host.Outcome State Fault Refusal :=
  .next (s.serveItem p tag .ki v (fun s => s.steer.written.ki) fun x s => s.writeLoop fun w => { w with ki := x.toNat })

/-- SET_TIMING L (R53, R60). -/
def execSetTimingL (p : Port) (tag : Tag) (v : BitVec 64) (s : State) : Host.Outcome State Fault Refusal :=
  .next
    (s.serveItem p tag .slewL v (fun s => s.steer.written.slewL) fun x s => s.writeLoop fun w => { w with slewL := x.toNat })

/-- SET_TIMING H (R55, R60). -/
def execSetTimingH (p : Port) (tag : Tag) (v : BitVec 64) (s : State) : Host.Outcome State Fault Refusal :=
  .next
    (s.serveItem p tag .growthH v (fun s => s.steer.written.growthH) fun x s =>
      s.writeLoop fun w => { w with growthH := x.toNat })

/-- SET_TIMING H_ring (R60). -/
def execSetTimingHRing (p : Port) (tag : Tag) (v : BitVec 64) (s : State) : Host.Outcome State Fault Refusal :=
  .next
    (s.serveItem p tag .growthHRing v (fun s => s.steer.written.growthHRing) fun x s =>
      s.writeLoop fun w => { w with growthHRing := x.toNat })

/-- SET_TIMING W_lock (R61). -/
def execSetTimingWLock (p : Port) (tag : Tag) (v : BitVec 64) (s : State) : Host.Outcome State Fault Refusal :=
  .next
    (s.serveItem p tag .wLock v (fun s => s.steer.wLock) fun x s => s.withSteer { s.steer with wLock := x.toNat })

/-- A new acquisition timeout, compared at once with the running timer (R61). -/
def State.writeAcqTimeout (n : Nat) (s : State) : State :=
  let s := s.withSteer { s.steer with acqTimeout := n }
  if s.acqExpired then s.expireAcquisition else s

/-- SET_TIMING acquisition timeout (R61). -/
def execSetTimingAcquisitionTimeout (p : Port) (tag : Tag) (v : BitVec 64) (s : State) :
    Host.Outcome State Fault Refusal :=
  .next (s.serveItem p tag .acquisitionTimeout v (fun s => s.steer.acqTimeout) fun x s => s.writeAcqTimeout x.toNat)

/-- A new M: the traceable flag is computed anew from the B held, and a change is reported (R57). -/
def State.writeM (n : Nat) (s : State) : State :=
  let was := s.steer.traceable
  let s := s.withSteer ({ s.steer with limitM := n } : SteeringUnit).retrace
  if s.steer.traceable = was then s else s.reportTimescale s.steer.state .bound

/-- SET_TIMING M (R57, R61). -/
def execSetTimingM (p : Port) (tag : Tag) (v : BitVec 64) (s : State) : Host.Outcome State Fault Refusal :=
  .next (s.serveItem p tag .limitM v (fun s => s.steer.limitM) fun x s => s.writeM x.toNat)

/-- SET_TIMING U_fixed (R61). -/
def execSetTimingUFixed (p : Port) (tag : Tag) (v : BitVec 64) (s : State) : Host.Outcome State Fault Refusal :=
  .next
    (s.serveItem p tag .uFixed v (fun s => s.steer.uFixed) fun x s => s.withSteer { s.steer with uFixed := x.toNat })

/-- SET_TIMING U_manual (R61). -/
def execSetTimingUManual (p : Port) (tag : Tag) (v : BitVec 64) (s : State) : Host.Outcome State Fault Refusal :=
  .next
    (s.serveItem p tag .uManual v (fun s => s.steer.uManual) fun x s => s.withSteer { s.steer with uManual := x.toNat })

/-- The code that refuses a write of the UTC offset (R73). DEDUCED (log entry 48): the exceptions are tried in the order in which the
rule lists them. -/
def State.offsetRefusal (s : State) (new : Int) : Option ResultCode :=
  if s.leapNow = .inLeap then some .badState
  else
    match s.leap.pending with
    | some x => if offsetFits x.leap.kind new then none else some .limit
    | none => none

/-- SET_TIMING UTC offset (R73): refused, or corrected as R72 gives, an instant so reached being acted on at once (R64). -/
def execSetTimingUtcOffset (p : Port) (tag : Tag) (v : BitVec 64) (s : State) : Host.Outcome State Fault Refusal :=
  .next
    (s.takeWith .timing p tag (timingBody .utcOffset v) fun s =>
      match s.offsetRefusal (itemValue .utcOffset v) with
      | some code => s.done p tag code false
      | none => s.acceptItem p tag .utcOffset v s.leap.offset fun x s => (s.correctOffset x .request).actOnLeap)

/-- SET_TIMING summary interval (R141). -/
def execSetTimingSummaryInterval (p : Port) (tag : Tag) (v : BitVec 64) (s : State) : Host.Outcome State Fault Refusal :=
  .next
    (s.serveItem p tag .summaryInterval v (fun s => s.trail.interval) fun x s =>
      s.withTrail { s.trail with interval := x.toNat })

/-- SET_TIMING summary mode (R141). -/
def execSetTimingSummaryMode (p : Port) (tag : Tag) (v : BitVec 64) (s : State) : Host.Outcome State Fault Refusal :=
  .next
    (s.serveItem p tag .summaryMode v (fun s => s.trail.mode.code) fun x s =>
      s.withTrail { s.trail with mode := summaryModeOf x })

/-- SET_TIMING of an item number that names no item (R163). -/
def execSetTimingUnknownItem (p : Port) (tag : Tag) (item : BitVec 16) (v : BitVec 64) (s : State) :
    Host.Outcome State Fault Refusal :=
  .next (s.takeWith .timing p tag (.setTiming item v) fun s => s.done p tag .badIndex false)

end Sys2Proof.Machine
end

