-- ==== Sys2Proof/Machine/TrailRequests.lean ====
section
/-! DEFINITION. The requests that read and acknowledge evidence: READ_EVIDENCE (R34), TRAIL_READ, TRAIL_ACK and SUMMARY_NOW
(chapter 8). -/

namespace Sys2Proof.Machine

/-- READ_EVIDENCE (R34): the spans are read and returned to absent at the same moment. -/
def execReadEvidence (p : Port) (tag : Tag) (s : State) : Host.Outcome State Fault Refusal :=
  .next
    (s.takeWith .readEvidence p tag .readEvidence fun s =>
      (s.withRefs (s.refs.map fun x => { x with span := none })).answer p
        (.evidence tag ⟨s.evidenceBlock .refA, s.evidenceBlock .refB, s.evidenceBlock .refC⟩))

/-- The readable entries from trail sequence `start` up, `count` at most (R142). -/
def TrailUnit.slice (t : TrailUnit) (start count : Nat) : List TrailEntry := (t.entries.drop (start - t.k)).take count

/-- TRAIL_READ (R142). -/
def execTrailRead (p : Port) (tag : Tag) (start : BitVec 64) (count : Byte) (s : State) :
    Host.Outcome State Fault Refusal :=
  .next
    (s.takeWith .trail p tag (.trailRead start count) fun s =>
      if count.toNat = 0 ∨ 8 < count.toNat then s.done p tag .limit false
      else if start.toNat < s.trail.k then s.done p tag .badIndex false
      else s.answer p (.trail tag s.trail.k s.trail.wIx (s.trail.slice start.toNat count.toNat)))

/-- The trail with every entry below `n` released, for an `n` from K to W_ix (R144). -/
def TrailUnit.release (t : TrailUnit) (n : Nat) : TrailUnit := { t with entries := t.entries.drop (n - t.k), k := n }

/-- TRAIL_ACK (R144). -/
def execTrailAck (p : Port) (tag : Tag) (index : BitVec 64) (s : State) : Host.Outcome State Fault Refusal :=
  .next
    (s.takeWith .trail p tag (.trailAck index) fun s =>
      if index.toNat < s.trail.k then s.done p tag .ok true
      else if s.trail.wIx < index.toNat then (s.withTrail (s.trail.release s.trail.wIx)).done p tag .ok true
      else (s.withTrail (s.trail.release index.toNat)).done p tag .ok false)

/-- SUMMARY_NOW (R140). -/
def execSummaryNow (p : Port) (tag : Tag) (s : State) : Host.Outcome State Fault Refusal :=
  .next
    (s.takeWith .trail p tag .summaryNow fun s =>
      (s.withTrail (s.trail.summarise (some p) s.writing)).done p tag .ok false)

end Sys2Proof.Machine
end

