-- ==== Sys2Proof/Machine/Dispatch.lean ====
section
/-! DEFINITION. The meaning of every command: one arm for each constructor of `Instr`. -/

namespace Sys2Proof.Machine

def exec (i : Instr) (s : State) : Host.Outcome State Fault Refusal :=
  match i with
  | .deviceReset straps storeLost writeLost => Sys2Proof.Machine.execDeviceReset straps storeLost writeLost s
  | .mainPresent => Sys2Proof.Machine.execMainPresent s
  | .mainAbsent => Sys2Proof.Machine.execMainAbsent s
  | .pllLockRaised => Sys2Proof.Machine.execPllLockRaised s
  | .pllLockFallen => Sys2Proof.Machine.execPllLockFallen s
  | .lockWaitExpiry => Sys2Proof.Machine.execLockWaitExpiry s
  | .settleComplete => Sys2Proof.Machine.execSettleComplete s
  | .mainReturn => Sys2Proof.Machine.execMainReturn s
  | .secondMark trailFirst => Sys2Proof.Machine.execSecondMark trailFirst s
  | .stepApplied => Sys2Proof.Machine.execStepApplied s
  | .acqTimeout => Sys2Proof.Machine.execAcqTimeout s
  | .timeOfDayMessage r run => Sys2Proof.Machine.execTimeOfDayMessage r run s
  | .referencePulse r => Sys2Proof.Machine.execReferencePulse r s
  | .missingVerdict r => Sys2Proof.Machine.execMissingVerdict r s
  | .absenceDeadline r => Sys2Proof.Machine.execAbsenceDeadline r s
  | .leapBegin => Sys2Proof.Machine.execLeapBegin s
  | .leapExecuted => Sys2Proof.Machine.execLeapExecuted s
  | .captureEdge line kind => Sys2Proof.Machine.execCaptureEdge line kind s
  | .stampGrant p => Sys2Proof.Machine.execStampGrant p s
  | .captureGrant line => Sys2Proof.Machine.execCaptureGrant line s
  | .openInstantDue seg => Sys2Proof.Machine.execOpenInstantDue seg s
  | .callInstantDue seg => Sys2Proof.Machine.execCallInstantDue seg s
  | .armedCloseDue seg => Sys2Proof.Machine.execArmedCloseDue seg s
  | .drawnCloseDue seg => Sys2Proof.Machine.execDrawnCloseDue seg s
  | .armGrant => Sys2Proof.Machine.execArmGrant s
  | .reviseGrant => Sys2Proof.Machine.execReviseGrant s
  | .disarmGrant => Sys2Proof.Machine.execDisarmGrant s
  | .missedGrant => Sys2Proof.Machine.execMissedGrant s
  | .openGrant => Sys2Proof.Machine.execOpenGrant s
  | .callGrant => Sys2Proof.Machine.execCallGrant s
  | .drawGrant => Sys2Proof.Machine.execDrawGrant s
  | .endGrant => Sys2Proof.Machine.execEndGrant s
  | .extendGrant => Sys2Proof.Machine.execExtendGrant s
  | .releaseGrant => Sys2Proof.Machine.execReleaseGrant s
  | .haltGrant => Sys2Proof.Machine.execHaltGrant s
  | .pulseEnd line => Sys2Proof.Machine.execPulseEnd line s
  | .atInstantFire line => Sys2Proof.Machine.execAtInstantFire line s
  | .clientFrame p bytes => Sys2Proof.Machine.execClientFrame p bytes s
  | .frameAbandoned p => Sys2Proof.Machine.execFrameAbandoned p s
  | .linkTimeout p => Sys2Proof.Machine.execLinkTimeout p s
  | .idleFrame p => Sys2Proof.Machine.execIdleFrame p s
  | .batchFrame p => Sys2Proof.Machine.execBatchFrame p s
  | .batchFrameSent p => Sys2Proof.Machine.execBatchFrameSent p s
  | .waitingAnswer p => Sys2Proof.Machine.execWaitingAnswer p s
  | .pendingNoticeDrain p => Sys2Proof.Machine.execPendingNoticeDrain p s
  | .drainComplete p => Sys2Proof.Machine.execDrainComplete p s
  | .stamp p tag seg => Sys2Proof.Machine.execStamp p tag seg s
  | .readTime p tag => Sys2Proof.Machine.execReadTime p tag s
  | .readEvidence p tag => Sys2Proof.Machine.execReadEvidence p tag s
  | .setTime p tag seconds => Sys2Proof.Machine.execSetTime p tag seconds s
  | .setLeapInsert p tag day => Sys2Proof.Machine.execSetLeapInsert p tag day s
  | .setLeapDelete p tag day => Sys2Proof.Machine.execSetLeapDelete p tag day s
  | .setLeapWithdraw p tag day => Sys2Proof.Machine.execSetLeapWithdraw p tag day s
  | .profileWrite p tag profile maxExt extLength window => Sys2Proof.Machine.execProfileWrite p tag profile maxExt extLength window s
  | .segmentWrite p tag seg profile d => Sys2Proof.Machine.execSegmentWrite p tag seg profile d s
  | .segmentSwap p tag seg profile d => Sys2Proof.Machine.execSegmentSwap p tag seg profile d s
  | .segmentRead p tag seg => Sys2Proof.Machine.execSegmentRead p tag seg s
  | .extend p tag seg => Sys2Proof.Machine.execExtend p tag seg s
  | .release p tag seg => Sys2Proof.Machine.execRelease p tag seg s
  | .halt p tag seg => Sys2Proof.Machine.execHalt p tag seg s
  | .captureSet p tag line edge port => Sys2Proof.Machine.execCaptureSet p tag line edge port s
  | .outputSetOff p tag f => Sys2Proof.Machine.execOutputSetOff p tag f s
  | .outputSetSecondPulse p tag f => Sys2Proof.Machine.execOutputSetSecondPulse p tag f s
  | .outputSetCloseFollow p tag f => Sys2Proof.Machine.execOutputSetCloseFollow p tag f s
  | .outputSetAtInstant p tag f => Sys2Proof.Machine.execOutputSetAtInstant p tag f s
  | .trailRead p tag start count => Sys2Proof.Machine.execTrailRead p tag start count s
  | .trailAck p tag index => Sys2Proof.Machine.execTrailAck p tag index s
  | .summaryNow p tag => Sys2Proof.Machine.execSummaryNow p tag s
  | .subscribe p tag status threshold => Sys2Proof.Machine.execSubscribe p tag status threshold s
  | .drain p tag => Sys2Proof.Machine.execDrain p tag s
  | .malformedRequest p tag kind body => Sys2Proof.Machine.execMalformedRequest p tag kind body s
  | .setTimingSettlePeriod p tag value => Sys2Proof.Machine.execSetTimingSettlePeriod p tag value s
  | .setTimingRefProfile p tag r value => Sys2Proof.Machine.execSetTimingRefProfile p tag r value s
  | .setTimingRefPriority p tag r value => Sys2Proof.Machine.execSetTimingRefPriority p tag r value s
  | .setTimingCableDelay p tag r value => Sys2Proof.Machine.execSetTimingCableDelay p tag r value s
  | .setTimingPWin p tag value => Sys2Proof.Machine.execSetTimingPWin p tag value s
  | .setTimingMinimumQuality p tag value => Sys2Proof.Machine.execSetTimingMinimumQuality p tag value s
  | .setTimingD p tag value => Sys2Proof.Machine.execSetTimingD p tag value s
  | .setTimingRevertiveMode p tag value => Sys2Proof.Machine.execSetTimingRevertiveMode p tag value s
  | .setTimingKp p tag value => Sys2Proof.Machine.execSetTimingKp p tag value s
  | .setTimingKi p tag value => Sys2Proof.Machine.execSetTimingKi p tag value s
  | .setTimingL p tag value => Sys2Proof.Machine.execSetTimingL p tag value s
  | .setTimingH p tag value => Sys2Proof.Machine.execSetTimingH p tag value s
  | .setTimingHRing p tag value => Sys2Proof.Machine.execSetTimingHRing p tag value s
  | .setTimingWLock p tag value => Sys2Proof.Machine.execSetTimingWLock p tag value s
  | .setTimingAcquisitionTimeout p tag value => Sys2Proof.Machine.execSetTimingAcquisitionTimeout p tag value s
  | .setTimingM p tag value => Sys2Proof.Machine.execSetTimingM p tag value s
  | .setTimingUFixed p tag value => Sys2Proof.Machine.execSetTimingUFixed p tag value s
  | .setTimingUManual p tag value => Sys2Proof.Machine.execSetTimingUManual p tag value s
  | .setTimingUtcOffset p tag value => Sys2Proof.Machine.execSetTimingUtcOffset p tag value s
  | .setTimingSummaryInterval p tag value => Sys2Proof.Machine.execSetTimingSummaryInterval p tag value s
  | .setTimingSummaryMode p tag value => Sys2Proof.Machine.execSetTimingSummaryMode p tag value s
  | .messageFramingError r => Sys2Proof.Machine.execMessageFramingError r s
  | .setTimingUnknownItem p tag item value => Sys2Proof.Machine.execSetTimingUnknownItem p tag item value s

end Sys2Proof.Machine
end

