-- ==== Sys2Proof/Machine/Step.lean ====
section
/-! DEFINITION. The step: the command at the front of the queue, or on an empty queue an own event that is due, or the next
tick. -/

namespace Sys2Proof.Machine

/-- On an empty queue the part does one own event that is due, chosen freely among several, or lets one tick pass (log entry 2). -/
def idle (s : State) : Host.Outcome State Fault Refusal :=
  match s.ownEvent with
  | some c => exec c (s.withFreeIndex (s.freeIndex + 1))
  | none => s.nextTick

/-- One step: the command at the front runs on the state with the queue's rest. -/
def step (s : State) : Host.Outcome State Fault Refusal :=
  match s.pending with
  | c :: rest => exec c (s.withPending rest)
  | [] => idle s

/-- The command that a word of the table spells, put at the front of the queue; the table gives its rows no bits, so no word spells
one. -/
def State.withFetchWord (s : State) (nbits w : Nat) : State :=
  match decodeTableWord nbits w with
  | some c => s.withPending (c :: s.pending)
  | none => s

end Sys2Proof.Machine
end

