-- ==== Sys2Proof/Safety.lean ====
section
/-! DEFINITION. The terms in which claims are stated: the blocks of the state and agreement outside some of them, what it is to
serve a request, and the invariants of a safe run. -/

namespace Sys2Proof.Machine

/-! ## Frames -/

/-- The parts of the state. -/
inductive Block where
  | tick
  | xt
  | refs
  | refCfg
  | steer
  | leap
  | arb
  | epoch
  | segs
  | profiles
  | commits
  | drawIndex
  | capture
  | outputs
  | trail
  | ports
  | lastCause
  | freeIndex
  | pending
  deriving DecidableEq, Repr

/-- `t` holds in this block what `s` holds. -/
def Block.same (s t : State) : Block → Prop
  | .tick => t.tick = s.tick
  | .xt => t.xt = s.xt
  | .refs => t.refs = s.refs
  | .refCfg => t.refCfg = s.refCfg
  | .steer => t.steer = s.steer
  | .leap => t.leap = s.leap
  | .arb => t.arb = s.arb
  | .epoch => t.epoch = s.epoch
  | .segs => t.segs = s.segs
  | .profiles => t.profiles = s.profiles
  | .commits => t.commits = s.commits
  | .drawIndex => t.drawIndex = s.drawIndex
  | .capture => t.capture = s.capture
  | .outputs => t.outputs = s.outputs
  | .trail => t.trail = s.trail
  | .ports => t.ports = s.ports
  | .lastCause => t.lastCause = s.lastCause
  | .freeIndex => t.freeIndex = s.freeIndex
  | .pending => t.pending = s.pending

/-- `t` differs from `s` in the blocks of `changed` alone. -/
def State.differsIn (changed : List Block) (s t : State) : Prop := ∀ b : Block, b ∉ changed → Block.same s t b

/-- `t` differs from `s` in port `p`'s controller alone, and it is `pc` there. -/
def State.onlyPort (p : Port) (pc : PortCtl) (s t : State) : Prop :=
  State.differsIn [.ports] s t ∧ t.port p = pc ∧ ∀ q : Port, q ≠ p → t.port q = s.port q

/-- The controllers of all ports but `p` are as before. -/
def State.otherPorts (p : Port) (s t : State) : Prop := ∀ q : Port, q ≠ p → t.port q = s.port q

/-- The segment records of all segments but `i` are as before. -/
def State.otherSegs (i : SegId) (s t : State) : Prop := ∀ j : SegId, j ≠ i → t.segs.get j = s.segs.get j

/-- The records of all references but `r` are as before. -/
def State.otherRefs (r : RefId) (s t : State) : Prop := ∀ q : RefId, q ≠ r → t.refs.get q = s.refs.get q

/-- The blocks that a command may change: what it is given to do by its rule, with the trail entries and the notices that go with
it. The blocks left out hold after the command what they held before it. -/
def Instr.touches : Instr → List Block
  | .deviceReset .. =>
    [.tick, .xt, .refs, .refCfg, .steer, .leap, .arb, .epoch, .segs, .profiles, .commits, .capture, .outputs, .trail, .ports,
      .lastCause]
  | .mainPresent => [.tick]
  | .mainAbsent => [.tick, .steer, .leap, .segs, .trail, .ports, .lastCause]
  | .pllLockRaised => [.tick]
  | .pllLockFallen => [.tick, .steer, .leap, .segs, .trail, .ports, .lastCause]
  | .lockWaitExpiry => [.tick, .steer, .leap, .segs, .trail, .ports, .lastCause]
  | .settleComplete => [.tick]
  | .mainReturn => [.tick, .steer, .leap, .segs, .trail, .ports, .lastCause]
  | .secondMark .. => [.tick, .xt, .refs, .steer, .leap, .segs, .commits, .outputs, .trail, .ports, .lastCause]
  | .stepApplied => [.tick, .xt, .refs, .steer, .leap, .arb, .outputs, .freeIndex, .trail, .ports, .lastCause]
  | .acqTimeout => [.steer, .leap, .segs, .commits, .trail, .ports, .lastCause]
  | .timeOfDayMessage .. => [.refs]
  | .referencePulse .. => [.refs, .trail, .ports, .lastCause]
  | .missingVerdict .. => [.refs, .trail, .ports, .lastCause]
  | .absenceDeadline .. => [.refs, .trail, .ports, .lastCause]
  | .leapBegin => [.leap, .trail, .ports, .lastCause]
  | .leapExecuted => [.leap, .trail, .ports, .lastCause]
  | .captureEdge .. => [.capture, .trail]
  | .stampGrant .. => [.arb, .trail, .ports]
  | .captureGrant .. => [.arb, .capture, .trail, .ports]
  | .openInstantDue .. => [.segs, .commits]
  | .callInstantDue .. => [.segs, .commits]
  | .armedCloseDue .. => [.segs, .commits]
  | .drawnCloseDue .. => [.segs, .commits]
  | .armGrant => [.arb, .segs, .commits, .outputs, .trail, .ports]
  | .reviseGrant => [.arb, .segs, .commits, .outputs, .trail, .ports]
  | .disarmGrant => [.arb, .segs, .commits, .outputs, .trail, .ports]
  | .missedGrant => [.arb, .segs, .commits, .outputs, .trail, .ports]
  | .openGrant => [.arb, .segs, .commits, .outputs, .trail, .ports]
  | .callGrant => [.arb, .segs, .commits, .outputs, .trail, .ports]
  | .drawGrant => [.arb, .segs, .commits, .drawIndex, .outputs, .trail, .ports]
  | .endGrant => [.arb, .segs, .commits, .outputs, .trail, .ports]
  | .extendGrant => [.arb, .segs, .commits, .outputs, .trail, .ports]
  | .releaseGrant => [.arb, .segs, .commits, .outputs, .trail, .ports]
  | .haltGrant => [.arb, .segs, .commits, .outputs, .trail, .ports]
  | .pulseEnd .. => [.outputs]
  | .atInstantFire .. => [.outputs]
  | .clientFrame .. => [.steer, .capture, .trail, .ports]
  | .frameAbandoned .. => [.trail]
  | .linkTimeout .. => [.steer, .capture, .trail, .ports]
  | .idleFrame .. => [.ports]
  | .batchFrame .. => [.ports]
  | .batchFrameSent .. => [.ports]
  | .waitingAnswer .. => [.ports]
  | .pendingNoticeDrain .. => [.ports]
  | .drainComplete .. => [.ports]
  | .stamp .. => [.ports]
  | .readTime .. => [.ports]
  | .readEvidence .. => [.refs, .ports]
  | .setTime .. => [.steer, .ports]
  | .setLeapInsert .. => [.leap, .segs, .trail, .ports, .lastCause]
  | .setLeapDelete .. => [.leap, .segs, .trail, .ports, .lastCause]
  | .setLeapWithdraw .. => [.leap, .segs, .trail, .ports, .lastCause]
  | .profileWrite .. => [.profiles, .trail, .ports]
  | .segmentWrite .. => [.segs, .commits, .outputs, .trail, .ports]
  | .segmentSwap .. => [.segs, .commits, .outputs, .trail, .ports]
  | .segmentRead .. => [.ports]
  | .extend .. => [.segs, .commits, .ports]
  | .release .. => [.segs, .commits, .ports]
  | .halt .. => [.segs, .commits, .ports]
  | .captureSet .. => [.capture, .trail, .ports]
  | .outputSetOff .. => [.outputs, .trail, .ports]
  | .outputSetSecondPulse .. => [.outputs, .trail, .ports]
  | .outputSetCloseFollow .. => [.outputs, .trail, .ports]
  | .outputSetAtInstant .. => [.outputs, .trail, .ports]
  | .trailRead .. => [.ports]
  | .trailAck .. => [.trail, .ports]
  | .summaryNow .. => [.trail, .ports]
  | .subscribe .. => [.ports]
  | .drain .. => [.ports]
  | .malformedRequest .. => [.ports]
  | .setTimingSettlePeriod .. => [.tick, .trail, .ports]
  | .setTimingRefProfile .. => [.refs, .trail, .ports]
  | .setTimingRefPriority .. => [.refs, .trail, .ports]
  | .setTimingCableDelay .. => [.refs, .trail, .ports]
  | .setTimingPWin .. => [.refCfg, .trail, .ports]
  | .setTimingMinimumQuality .. => [.refCfg, .trail, .ports]
  | .setTimingD .. => [.refCfg, .trail, .ports]
  | .setTimingRevertiveMode .. => [.refCfg, .trail, .ports]
  | .setTimingKp .. => [.steer, .trail, .ports]
  | .setTimingKi .. => [.steer, .trail, .ports]
  | .setTimingL .. => [.steer, .trail, .ports]
  | .setTimingH .. => [.steer, .trail, .ports]
  | .setTimingHRing .. => [.steer, .trail, .ports]
  | .setTimingWLock .. => [.steer, .trail, .ports]
  | .setTimingAcquisitionTimeout .. => [.steer, .leap, .segs, .commits, .trail, .ports, .lastCause]
  | .setTimingM .. => [.steer, .trail, .ports, .lastCause]
  | .setTimingUFixed .. => [.steer, .trail, .ports]
  | .setTimingUManual .. => [.steer, .trail, .ports]
  | .setTimingUtcOffset .. => [.leap, .segs, .trail, .ports, .lastCause]
  | .setTimingSummaryInterval .. => [.trail, .ports]
  | .setTimingSummaryMode .. => [.trail, .ports]
  | .messageFramingError .. => [.refs]
  | .setTimingUnknownItem .. => [.ports]

/-! ## Serving a request -/

/-- The request that a command takes, with its port and tag; none for a command that takes no request. -/
def Instr.asked : Instr → Option (Port × Tag × ReqBody)
  | .deviceReset .. => none
  | .mainPresent => none
  | .mainAbsent => none
  | .pllLockRaised => none
  | .pllLockFallen => none
  | .lockWaitExpiry => none
  | .settleComplete => none
  | .mainReturn => none
  | .secondMark .. => none
  | .stepApplied => none
  | .acqTimeout => none
  | .timeOfDayMessage .. => none
  | .referencePulse .. => none
  | .missingVerdict .. => none
  | .absenceDeadline .. => none
  | .leapBegin => none
  | .leapExecuted => none
  | .captureEdge .. => none
  | .stampGrant .. => none
  | .captureGrant .. => none
  | .openInstantDue .. => none
  | .callInstantDue .. => none
  | .armedCloseDue .. => none
  | .drawnCloseDue .. => none
  | .armGrant => none
  | .reviseGrant => none
  | .disarmGrant => none
  | .missedGrant => none
  | .openGrant => none
  | .callGrant => none
  | .drawGrant => none
  | .endGrant => none
  | .extendGrant => none
  | .releaseGrant => none
  | .haltGrant => none
  | .pulseEnd .. => none
  | .atInstantFire .. => none
  | .clientFrame .. => none
  | .frameAbandoned .. => none
  | .linkTimeout .. => none
  | .idleFrame .. => none
  | .batchFrame .. => none
  | .batchFrameSent .. => none
  | .waitingAnswer .. => none
  | .pendingNoticeDrain .. => none
  | .drainComplete .. => none
  | .stamp p tag seg => some (p, tag, (.stamp seg))
  | .readTime p tag => some (p, tag, .readTime)
  | .readEvidence p tag => some (p, tag, .readEvidence)
  | .setTime p tag seconds => some (p, tag, (.setTime seconds))
  | .setLeapInsert p tag day => some (p, tag, (.setLeap day .insert))
  | .setLeapDelete p tag day => some (p, tag, (.setLeap day .delete))
  | .setLeapWithdraw p tag day => some (p, tag, (.setLeap day .withdraw))
  | .profileWrite p tag profile maxExt extLength window => some (p, tag, (.profileWrite profile maxExt extLength window))
  | .segmentWrite p tag seg profile d => some (p, tag, (.segmentWrite seg profile d))
  | .segmentSwap p tag seg profile d => some (p, tag, (.segmentSwap seg profile d))
  | .segmentRead p tag seg => some (p, tag, (.segmentRead seg))
  | .extend p tag seg => some (p, tag, (.extend seg))
  | .release p tag seg => some (p, tag, (.release seg))
  | .halt p tag seg => some (p, tag, (.halt seg))
  | .captureSet p tag line edge port => some (p, tag, (.captureSet line edge port))
  | .outputSetOff p tag f => some (p, tag, (.outputSet .off f))
  | .outputSetSecondPulse p tag f => some (p, tag, (.outputSet .secondPulse f))
  | .outputSetCloseFollow p tag f => some (p, tag, (.outputSet .closeFollow f))
  | .outputSetAtInstant p tag f => some (p, tag, (.outputSet .atInstant f))
  | .trailRead p tag start count => some (p, tag, (.trailRead start count))
  | .trailAck p tag index => some (p, tag, (.trailAck index))
  | .summaryNow p tag => some (p, tag, .summaryNow)
  | .subscribe p tag status threshold => some (p, tag, (.subscribe status threshold))
  | .drain p tag => some (p, tag, .drain)
  | .malformedRequest p tag kind body => some (p, tag, (.malformed kind body))
  | .setTimingSettlePeriod p tag value => some (p, tag, timingBody .settlePeriod value)
  | .setTimingRefProfile p tag r value => some (p, tag, timingBody (.refProfile r) value)
  | .setTimingRefPriority p tag r value => some (p, tag, timingBody (.refPriority r) value)
  | .setTimingCableDelay p tag r value => some (p, tag, timingBody (.cableDelay r) value)
  | .setTimingPWin p tag value => some (p, tag, timingBody .pWin value)
  | .setTimingMinimumQuality p tag value => some (p, tag, timingBody .minimumQuality value)
  | .setTimingD p tag value => some (p, tag, timingBody .limitD value)
  | .setTimingRevertiveMode p tag value => some (p, tag, timingBody .revertiveMode value)
  | .setTimingKp p tag value => some (p, tag, timingBody .kp value)
  | .setTimingKi p tag value => some (p, tag, timingBody .ki value)
  | .setTimingL p tag value => some (p, tag, timingBody .slewL value)
  | .setTimingH p tag value => some (p, tag, timingBody .growthH value)
  | .setTimingHRing p tag value => some (p, tag, timingBody .growthHRing value)
  | .setTimingWLock p tag value => some (p, tag, timingBody .wLock value)
  | .setTimingAcquisitionTimeout p tag value => some (p, tag, timingBody .acquisitionTimeout value)
  | .setTimingM p tag value => some (p, tag, timingBody .limitM value)
  | .setTimingUFixed p tag value => some (p, tag, timingBody .uFixed value)
  | .setTimingUManual p tag value => some (p, tag, timingBody .uManual value)
  | .setTimingUtcOffset p tag value => some (p, tag, timingBody .utcOffset value)
  | .setTimingSummaryInterval p tag value => some (p, tag, timingBody .summaryInterval value)
  | .setTimingSummaryMode p tag value => some (p, tag, timingBody .summaryMode value)
  | .messageFramingError .. => none
  | .setTimingUnknownItem p tag item value => some (p, tag, .setTiming item value)

/-- The right that a request needs before anything else is looked at (09 Table 9-2); none where its rule orders its own checks or
needs no right. -/
def Instr.needs : Instr → Option Right
  | .deviceReset .. => none
  | .mainPresent => none
  | .mainAbsent => none
  | .pllLockRaised => none
  | .pllLockFallen => none
  | .lockWaitExpiry => none
  | .settleComplete => none
  | .mainReturn => none
  | .secondMark .. => none
  | .stepApplied => none
  | .acqTimeout => none
  | .timeOfDayMessage .. => none
  | .referencePulse .. => none
  | .missingVerdict .. => none
  | .absenceDeadline .. => none
  | .leapBegin => none
  | .leapExecuted => none
  | .captureEdge .. => none
  | .stampGrant .. => none
  | .captureGrant .. => none
  | .openInstantDue .. => none
  | .callInstantDue .. => none
  | .armedCloseDue .. => none
  | .drawnCloseDue .. => none
  | .armGrant => none
  | .reviseGrant => none
  | .disarmGrant => none
  | .missedGrant => none
  | .openGrant => none
  | .callGrant => none
  | .drawGrant => none
  | .endGrant => none
  | .extendGrant => none
  | .releaseGrant => none
  | .haltGrant => none
  | .pulseEnd .. => none
  | .atInstantFire .. => none
  | .clientFrame .. => none
  | .frameAbandoned .. => none
  | .linkTimeout .. => none
  | .idleFrame .. => none
  | .batchFrame .. => none
  | .batchFrameSent .. => none
  | .waitingAnswer .. => none
  | .pendingNoticeDrain .. => none
  | .drainComplete .. => none
  | .stamp .. => some .stamp
  | .readTime .. => some .readTime
  | .readEvidence .. => some .readEvidence
  | .setTime .. => some .setTime
  | .setLeapInsert .. => some .leap
  | .setLeapDelete .. => some .leap
  | .setLeapWithdraw .. => some .leap
  | .profileWrite .. => some .schedule
  | .segmentWrite .. => some .schedule
  | .segmentSwap .. => some .schedule
  | .segmentRead .. => some .schedule
  | .extend .. => some .schedule
  | .release .. => some .schedule
  | .halt .. => some .schedule
  | .captureSet .. => none
  | .outputSetOff .. => some .schedule
  | .outputSetSecondPulse .. => some .schedule
  | .outputSetCloseFollow .. => some .schedule
  | .outputSetAtInstant .. => some .schedule
  | .trailRead .. => some .trail
  | .trailAck .. => some .trail
  | .summaryNow .. => some .trail
  | .subscribe .. => some .subscribe
  | .drain .. => none
  | .malformedRequest .. => none
  | .setTimingSettlePeriod .. => some .timing
  | .setTimingRefProfile .. => some .timing
  | .setTimingRefPriority .. => some .timing
  | .setTimingCableDelay .. => some .timing
  | .setTimingPWin .. => some .timing
  | .setTimingMinimumQuality .. => some .timing
  | .setTimingD .. => some .timing
  | .setTimingRevertiveMode .. => some .timing
  | .setTimingKp .. => some .timing
  | .setTimingKi .. => some .timing
  | .setTimingL .. => some .timing
  | .setTimingH .. => some .timing
  | .setTimingHRing .. => some .timing
  | .setTimingWLock .. => some .timing
  | .setTimingAcquisitionTimeout .. => some .timing
  | .setTimingM .. => some .timing
  | .setTimingUFixed .. => some .timing
  | .setTimingUManual .. => some .timing
  | .setTimingUtcOffset .. => some .timing
  | .setTimingSummaryInterval .. => some .timing
  | .setTimingSummaryMode .. => some .timing
  | .messageFramingError .. => none
  | .setTimingUnknownItem .. => some .timing

/-- The request stands at the head of port `p`'s queue, no service is in progress, and the role holds the right. -/
def State.canServe (s : State) (right : Right) (p : Port) (tag : Tag) (body : ReqBody) : Prop :=
  s.headIs p tag body = true ∧ (s.port p).role.has right = true

/-- A controller whose head request has left at the end of its service: the hold indication changes when 28 requests become 27
(R153, R154). -/
def PortCtl.served (pc : PortCtl) : PortCtl :=
  { pc with
    requests := pc.requests.tail
    service := .untaken
    holdChanged := pc.holdChanged || decide (pc.requests.length = 28) }

/-- A controller after its head request has been answered `r`: with a free entry the request has left and the record is at the
tail of the response queue; without one the answer waits at the head (R154). -/
def PortCtl.answered (pc : PortCtl) (r : Record) : PortCtl :=
  if pc.responses.length < 64 then { pc.served with responses := pc.responses ++ [r] }
  else { pc with service := .waiting r false }

/-- From `s` to `t`, port `p` has answered its head request `r` and no other port has changed. -/
def State.answeredBy (p : Port) (r : Record) (s t : State) : Prop :=
  t.port p = (s.port p).answered r ∧ State.otherPorts p s t

/-- The command completes with the answer `r` on port `p`, changes nothing but that port and the blocks of `changed`, and has the
given effect on them. -/
def Replies (c : Instr) (s : State) (p : Port) (r : Record) (changed : List Block) (effect : State → Prop) : Prop :=
  ∃ t : State, exec c s = .next t ∧ State.answeredBy p r s t ∧ State.differsIn (.ports :: changed) s t ∧ effect t

/-! ## Trail entries and notices -/

/-- `t'` is the trail `t` after the writing of one entry of body `b` (R133). -/
def TrailUnit.Wrote (t t' : TrailUnit) (b : TrailBody) (w : Writing) : Prop :=
  (if t.wIx - t.k < 4096 then
    t'.entries = t.entries ++ [{ seq := t.wIx, written := w, body := b }] ∧ t'.k = t.k ∧
      t'.counters = t.counters
  else
    t'.entries = t.entries.tail ++ [{ seq := t.wIx, written := w, body := b }] ∧ t'.k = t.k + 1 ∧
      t'.counters = { t.counters with overwritten := min (t.counters.overwritten + 1) 4294967295 }) ∧
    t'.wIx = t.wIx + 1 ∧ t'.evidence = (if b.isEvidence then t.wIx else t.evidence) ∧
    t'.prevSummary = (if b.isSummary then t.wIx else t.prevSummary) ∧ t'.seconds = t.seconds ∧ t'.interval = t.interval ∧
    t'.mode = t.mode

/-- XT and the sequence counter of `s`, with the offset and leap state that are read from the leap record of `t` (R63). -/
def State.writingTo (s t : State) : Writing := ⟨s.now, s.arb.seq, (t.leap.reading s.now).1, (t.leap.reading s.now).2⟩

/-- From `s` to `t`, one entry of body `b` has been written, at the XT and the sequence counter of `s` and with the offset and leap
state that XT has in `t`. -/
def State.wrote (b : TrailBody) (s t : State) : Prop := TrailUnit.Wrote s.trail t.trail b (s.writingTo t)

/-- The newest entry of the trail has body `b`, and XT, the sequence counter, the offset and the leap state as they are now. -/
def State.newestEntry (t : State) (b : TrailBody) : Prop :=
  t.trail.entries.getLast? = some { seq := t.trail.wIx - 1, written := t.writing, body := b }

/-- From `s` to `t`, one STATUS notice has been raised: every UP port subscribed to STATUS has it (R157, R158). -/
def State.toldStatus (cause : StatusCause) (s t : State) : Prop :=
  t.lastCause = some cause ∧ ∀ p : Port, t.port p = (s.port p).notifyStatus (t.statusBody 1)

/-! ## Invariants -/

/-- The trail (R133, R135): the readable entries are those of trail sequence K to W_ix - 1, in order, at most 4,096, and the
evidence index and the previous SUMMARY name entries already written. -/
def TrailUnit.Ok (t : TrailUnit) : Prop :=
  t.entries.map TrailEntry.seq = List.range' t.k (t.wIx - t.k) ∧ t.k ≤ t.wIx ∧ t.wIx ≤ t.k + trailPlaces ∧
    t.evidence < t.wIx ∧ t.prevSummary < t.wIx

/-- The segment slots of a port's pending-notice set stand in the order of segment id, one a segment (R158). -/
def PortCtl.SlotsInOrder (pc : PortCtl) : Prop := List.Pairwise (· < ·) (pc.pendSegs.map fun x => x.seg.val)

/-- A port's queues are within their places, and its segment slots in their order (R152, R155, R158). -/
def PortCtl.InBounds (pc : PortCtl) : Prop :=
  pc.requests.length ≤ requestPlaces ∧ pc.responses.length ≤ responsePlaces ∧ pc.SlotsInOrder

/-- Every queue is within its places (R121, R152, R155, R158). -/
def State.QueuesOk (s : State) : Prop :=
  (∀ p : Port, (s.port p).InBounds) ∧ ∀ l : Line, (s.capture.get l).fifo.length ≤ fifoPlaces

/-- A timescale state in which stamping is open (R78). -/
def TimescaleState.stamps : TimescaleState → Bool
  | .cold => false
  | .acquire => false
  | .locked => true
  | .holdover => true
  | .fallback => true

/-- Stamping is open exactly in LOCKED, HOLDOVER and FALLBACK, and no step is pending while it is (R46, R47, R78). -/
def SteeringUnit.StampingOk (x : SteeringUnit) : Prop :=
  x.stampingOpen = x.state.stamps ∧ (x.stampingOpen = true → x.pendingSteps = [])

/-- The traceable flag agrees with B and M (R57), B is within 32 bits, M within its range, and in COLD and ACQUIRE B is at its
greatest value (R40, R56). -/
def SteeringUnit.BoundOk (x : SteeringUnit) : Prop :=
  x.traceable = decide (x.bound ≤ x.limitM) ∧ x.bound ≤ max32 ∧ x.limitM ≤ 10000000 ∧ x.uManual ≤ max32 ∧
    (x.state.stamps = false → x.bound = max32)

/-- A and I lie within the slew limit in force, and both limits are in range (R53, 03 Table 3-8). -/
def SteeringUnit.SlewOk (x : SteeringUnit) : Prop :=
  x.adj.natAbs ≤ x.inForce.slewL ∧ x.integ.natAbs ≤ x.inForce.slewL ∧ x.inForce.slewL ≤ 8388608 ∧
    x.written.slewL ≤ 8388608

/-- The ring increment is nominal or an accepted calibration (R11, R12). -/
def TickUnit.RingOk (t : TickUnit) : Prop := 14316557653 ≤ t.ringIncrement ∧ t.ringIncrement ≤ 21474836480

/-- The tick's source follows the timescale state (01 Table 1-1) from the next PLL edge on (R1): the PLL's in LOCKED and HOLDOVER,
never in COLD, and in FALLBACK only at the edge that completes a return (R15); in ACQUIRE the ring's last tick leaves the acquisition
timer at 0 and at most one GOOD second counted (R5, R40). The return sequence has a phase only in FALLBACK (R14). -/
def State.SourceOk (s : State) : Prop :=
  (s.tick.source = .pll → s.steer.state = .acquire ∨ s.steer.state = .locked ∨ s.steer.state = .holdover ∨
    s.steer.state = .fallback ∧ s.tick.returnPhase = .lockWait ∧ s.tick.pllMonitor = .confirmed) ∧
  (s.steer.state = .locked ∨ s.steer.state = .holdover → s.tick.source = .pll) ∧
  (s.tick.returnPhase ≠ .none → s.steer.state = .fallback) ∧
  (s.steer.state = .acquire → s.tick.source = .ring →
    s.steer.acqTimer = some 0 ∧ s.steer.lockCount + (if s.xt.markDue = none then 0 else 1) ≤ 1) ∧
  10 ≤ s.steer.acqTimeout

end Sys2Proof.Machine
end

