-- ==== Sys2Proof/WellFormed.lean ====
section
/-! DEFINITION. The well-formed commands: the three checks that the operands' types do not make. -/

namespace Sys2Proof

/-- Whether bytes on a line, oldest first, each begin at or after the sampling of the stop bit before, at whatever speed the sender
sends, the last one's stop bit being sampled at the command (R18). -/
def isLineRun : LineRun → Bool
  | [] => false
  | [b] => decide (b.ago = 0)
  | b :: c :: rest => decide (c.ago + byteNs ≤ b.ago) && isLineRun (c :: rest)

/-- A MALFORMED_REQUEST carries a kind and a body that Table 10-3 does not read as a request (R166), or a SET_LEAP action or
an OUTPUT_SET mode that names nothing (R165). -/
def isMalformed (kind : Byte) (body : List Byte) : Bool :=
  2 ≤ kind.toNat && parseRequest kind body == .malformed kind body

/-- A SET_TIMING_UNKNOWN_ITEM carries an item number that names no item (R163). -/
def isUnknownItem (item : BitVec 16) : Bool := (timingItem item.toNat).isNone

/-- Whether a command is well formed. -/
def Instr.wellFormed : Instr → Bool
  | .deviceReset .. => true
  | .mainPresent => true
  | .mainAbsent => true
  | .pllLockRaised => true
  | .pllLockFallen => true
  | .lockWaitExpiry => true
  | .settleComplete => true
  | .mainReturn => true
  | .secondMark .. => true
  | .stepApplied => true
  | .acqTimeout => true
  | .timeOfDayMessage _ run => isLineRun run
  | .referencePulse .. => true
  | .missingVerdict .. => true
  | .absenceDeadline .. => true
  | .leapBegin => true
  | .leapExecuted => true
  | .captureEdge .. => true
  | .stampGrant .. => true
  | .captureGrant .. => true
  | .openInstantDue .. => true
  | .callInstantDue .. => true
  | .armedCloseDue .. => true
  | .drawnCloseDue .. => true
  | .armGrant => true
  | .reviseGrant => true
  | .disarmGrant => true
  | .missedGrant => true
  | .openGrant => true
  | .callGrant => true
  | .drawGrant => true
  | .endGrant => true
  | .extendGrant => true
  | .releaseGrant => true
  | .haltGrant => true
  | .pulseEnd .. => true
  | .atInstantFire .. => true
  | .clientFrame .. => true
  | .frameAbandoned .. => true
  | .linkTimeout .. => true
  | .idleFrame .. => true
  | .batchFrame .. => true
  | .batchFrameSent .. => true
  | .waitingAnswer .. => true
  | .pendingNoticeDrain .. => true
  | .drainComplete .. => true
  | .stamp .. => true
  | .readTime .. => true
  | .readEvidence .. => true
  | .setTime .. => true
  | .setLeapInsert .. => true
  | .setLeapDelete .. => true
  | .setLeapWithdraw .. => true
  | .profileWrite .. => true
  | .segmentWrite .. => true
  | .segmentSwap .. => true
  | .segmentRead .. => true
  | .extend .. => true
  | .release .. => true
  | .halt .. => true
  | .captureSet .. => true
  | .outputSetOff .. => true
  | .outputSetSecondPulse .. => true
  | .outputSetCloseFollow .. => true
  | .outputSetAtInstant .. => true
  | .trailRead .. => true
  | .trailAck .. => true
  | .summaryNow .. => true
  | .subscribe .. => true
  | .drain .. => true
  | .malformedRequest _ _ kind body => isMalformed kind body
  | .setTimingSettlePeriod .. => true
  | .setTimingRefProfile .. => true
  | .setTimingRefPriority .. => true
  | .setTimingCableDelay .. => true
  | .setTimingPWin .. => true
  | .setTimingMinimumQuality .. => true
  | .setTimingD .. => true
  | .setTimingRevertiveMode .. => true
  | .setTimingKp .. => true
  | .setTimingKi .. => true
  | .setTimingL .. => true
  | .setTimingH .. => true
  | .setTimingHRing .. => true
  | .setTimingWLock .. => true
  | .setTimingAcquisitionTimeout .. => true
  | .setTimingM .. => true
  | .setTimingUFixed .. => true
  | .setTimingUManual .. => true
  | .setTimingUtcOffset .. => true
  | .setTimingSummaryInterval .. => true
  | .setTimingSummaryMode .. => true
  | .messageFramingError .. => true
  | .setTimingUnknownItem _ _ item _ => isUnknownItem item

end Sys2Proof
end

