-- ==== Sys2Proof/Certificates/Slice0/Obligations.lean ====
section
/-! DEFINITION. The statements for the provers, each a proposition about the model: what each command does and leaves as it was,
the invariants that every step keeps, and the frames and requests read back as they were written. -/

open Sys2Proof Sys2Proof.Machine

/-! ## The step -/

/-- The command at the front of the queue runs on the state with the queue's rest (the model's own queue, log entries 2 and 36). -/
def Obligations.StepRunsFrontCommand : Prop :=
  ∀ (c : Instr) (rest : List Instr) (s : State), s.pending = c :: rest → step s = exec c (s.withPending rest)

/-! ## What is due -/

/-- The oldest pending step, while the Timescale Counter takes it: stamping is closed and its value lies in [0, 2^63) ns (R10, R46). -/
def stepIsTaken (s : State) (st : PendingStep) : Prop :=
  s.steer.pendingSteps.head? = some st ∧ s.steer.stampingOpen = false ∧ 0 ≤ st.value ∧ st.value < 9223372036854775808

/-- The PLL edge that completes a return has come: the switch waited for it, and the latest tick was the PLL's (R15). -/
def returnEdge (s : State) : Prop :=
  s.steer.state = .fallback ∧ s.tick.returnPhase = .lockWait ∧ s.tick.pllMonitor = .confirmed ∧ s.tick.source = .pll

/-- How far a round-robin search that starts at the pointer goes to reach a number (R81, R82). -/
def searchDistance (ptr n : Fin 8) : Nat := (n.val + 8 - ptr.val) % 8

/-- No event that a request of segment `i` committed waits on the commit list, and none was granted at this tick (R95; that a grant
holds its segment to the next tick is log entry 46). -/
def noRequestWaits (s : State) (i : SegId) : Prop :=
  s.arb.heldSeg ≠ some i ∧ ∀ e : SegEvent, e ∈ s.commits → e.seg = i →
    e.kind = .opening ∨ e.kind = .call ∨ e.kind = .draw ∨ e.kind = .ending ∨ ∃ day x, e.kind = .missed day x

/-- Segment `i` takes its instants: stamping is open and no request event of it waits (R95). -/
def takesInstants (s : State) (i : SegId) : Prop := s.steer.stampingOpen = true ∧ noRequestWaits s i

/-- The open instant of segment `i` is due and not yet taken (R95, Table 6-5). -/
def openReached (s : State) (i : SegId) : Prop :=
  ((s.segs.get i).committed = .settled .armed ∨ (s.segs.get i).committed = .settled .closed) ∧
    ∃ a : ArmedInstants, (s.segs.get i).armed = some a ∧ a.openAt.xt ≤ s.now ∧ a.openAt.taken = false

/-- The call instant of segment `i` is due and not yet taken (R95, Table 6-5). -/
def callReached (s : State) (i : SegId) : Prop :=
  (s.segs.get i).committed = .settled .opened ∧
    ∃ a : ArmedInstants, (s.segs.get i).armed = some a ∧ a.callAt.xt ≤ s.now ∧ a.callAt.taken = false

/-- The armed close instant of segment `i` is due and not yet taken (R95, Table 6-5). -/
def closeReached (s : State) (i : SegId) : Prop :=
  (s.segs.get i).committed = .settled .call ∧
    ∃ a : ArmedInstants, (s.segs.get i).armed = some a ∧ a.closeAt.xt ≤ s.now ∧ a.closeAt.taken = false

/-- The drawn close XT of segment `i` is due (R95, Table 6-5). -/
def drawnReached (s : State) (i : SegId) : Prop :=
  (s.segs.get i).committed = .settled .random ∧ ∃ d : Draw, (s.segs.get i).drawn = some d ∧ d.closeXt ≤ s.now

/-- Some segment's instant is due and taken at this tick, and its event goes before any capture or stamp (R80, R95). -/
def someInstantDue (s : State) : Prop :=
  ∃ i : SegId, takesInstants s i ∧ (openReached s i ∨ callReached s i ∨ closeReached s i ∨ drawnReached s i)

/-- The arbiter grants the segment event `e` at this tick: stamping is open, nothing has been granted at it, and `e` is the oldest on
the commit list (R77, R79, R80). -/
def segmentTurn (s : State) (e : SegEvent) : Prop :=
  s.steer.stampingOpen = true ∧ s.arb.grantedThisTick = false ∧ s.commits.head? = some e

/-- Stamping is open, nothing has been granted at this tick, and no segment event is presented at it (R78 to R80). -/
def noSegmentTurn (s : State) : Prop :=
  s.steer.stampingOpen = true ∧ s.arb.grantedThisTick = false ∧ s.commits = [] ∧ ¬ someInstantDue s

/-- A capture line presents an eligible record (R81). That an entry freed at a tick serves it at that tick, where 07 7.1.1 shows the
next, is the model's reading (log entry 54). -/
def captureReady (s : State) (l : Line) : Prop :=
  (s.capture.get l).fifo ≠ [] ∧ (s.port (s.capture.get l).port).up = true ∧
    (s.port (s.capture.get l).port).responses.length < 64

/-- A port presents an eligible STAMP; entries that a full queue freed at this tick are free for it from the next on (R82, R86). -/
def stampReady (s : State) (p : Port) : Prop :=
  (∃ tag seg, (s.port p).service = .stamping tag seg) ∧ (s.port p).up = true ∧ (s.port p).responses.length < 64 ∧
    (s.port p).justFreed = false

/-- The arbitration class HIGH (Table 0-3). -/
def highClass : Role → Bool
  | .gateway => false
  | .engine => true
  | .oversight => false
  | .full => true

/-- The arbiter grants line `l`'s oldest edge at this tick (R79, R81). -/
def captureTurn (s : State) (l : Line) : Prop :=
  noSegmentTurn s ∧ captureReady s l ∧
    ∀ k : Line, captureReady s k → searchDistance s.arb.capturePtr l ≤ searchDistance s.arb.capturePtr k

/-- The arbiter grants port `p`'s STAMP at this tick: no capture is eligible, no HIGH port's STAMP stands before a NORMAL one, and `p`
is the first of its class from the class's pointer up (R79, R82). -/
def stampTurn (s : State) (p : Port) : Prop :=
  let high := highClass (s.port p).role
  let ptr := if high then s.arb.highPtr else s.arb.normalPtr
  noSegmentTurn s ∧ (∀ l : Line, ¬ captureReady s l) ∧ stampReady s p ∧
    (high = false → ∀ q : Port, highClass (s.port q).role = true → ¬ stampReady s q) ∧
    ∀ q : Port, highClass (s.port q).role = high → stampReady s q → searchDistance ptr p ≤ searchDistance ptr q

/-- A batch is due on the port (R159). -/
def batchIsDue (pc : PortCtl) : Prop :=
  pc.up = true ∧ pc.sending = false ∧ pc.inFlight < pc.responses.length ∧
    (pc.threshold ≤ pc.responses.length - pc.inFlight ∨ pc.requests = [] ∨ pc.drainDone ≠ none ∨
      (∃ tag left, pc.service = .draining tag left) ∨ ∃ r, pc.service = .waiting r true)

/-- The grant that each kind of segment event gets (R105). -/
def grantOf : SegEventKind → Instr
  | .arm .. => .armGrant
  | .revise .. => .reviseGrant
  | .disarm .. => .disarmGrant
  | .missed .. => .missedGrant
  | .opening => .openGrant
  | .call => .callGrant
  | .draw => .drawGrant
  | .ending => .endGrant
  | .extend _ => .extendGrant
  | .release _ => .releaseGrant
  | .halt _ => .haltGrant

/-- On an empty queue the part does one of its own due events, or, with none due, lets one tick pass, in which a pending step that
can be taken replaces the advance (R10; that it does so is the model's choice, log entry 2). -/
def AnIdleStepDoesOneDueEventOrTicks : Prop :=
  ∀ s : State, s.pending = [] →
    (∀ c : Instr, c ∈ s.dueEvents → ∃ d ∈ s.dueEvents, step s = exec d (s.withFreeIndex (s.freeIndex + 1))) ∧
    (s.dueEvents = [] → (∀ st : PendingStep, ¬ stepIsTaken s st) → step s = .next s.advance) ∧
    (s.dueEvents = [] → (∃ st : PendingStep, stepIsTaken s st) → step s = exec .stepApplied s)

/-- The own events of the clocks, the second mark, the leap and the references are due exactly when XT, a timer or a monitor has
brought them (R2, R3, R8, R14, R15, R23, R25, R43, R64; a second mark is due in both orders of the Trail Unit's work, R138, log entry
12). The model's choice is that each waits for a step of its own (log entries 2, 31 and 41). -/
def ClockEventsAreDue : Prop :=
  ∀ s : State,
    let due (c : Instr) : Prop := c ∈ s.dueEvents
    (due .mainAbsent ↔ s.tick.mainMonitor = .present ∧ s.tick.mainGap = some 0) ∧
    (due .lockWaitExpiry ↔ s.tick.pllMonitor = .lockWait ∧ s.tick.lockWaitTimer = some 0) ∧
    (due .settleComplete ↔ s.tick.returnPhase = .settle ∧ ∃ d : Ns, s.tick.settleDeadline = some d ∧ d ≤ s.now) ∧
    (due .mainReturn ↔ returnEdge s) ∧
    (∀ first : Bool, due (.secondMark first) ↔ ∃ m : Nat, s.xt.markDue = some m) ∧
    (due .acqTimeout ↔ s.steer.state = .acquire ∧ ∃ n : Nat, s.steer.acqTimer = some n ∧ s.steer.acqTimeout * 250000000 ≤ n) ∧
    (due .leapBegin ↔
      ∃ p : PendingLeap, s.leap.pending = some p ∧ p.leap.kind = .insert ∧ p.begun = false ∧ p.t ≤ s.now) ∧
    (due .leapExecuted ↔ ∃ p : PendingLeap, s.leap.pending = some p ∧
      (p.leap.kind = .insert ∧ p.begun = true ∧ p.t + 1000000000 ≤ s.now ∨ p.leap.kind = .delete ∧ p.t ≤ s.now)) ∧
    ∀ r : RefId,
      (due (.missingVerdict r) ↔ ∃ x : Ns, (s.refs.get r).expected = some x ∧ x < s.now) ∧
      (due (.absenceDeadline r) ↔ ∃ d : Ns, (s.refs.get r).absence = some d ∧ d ≤ s.now)

/-- The grants are due in the arbiter's order, one at a tick: the oldest committed segment event, or, when no segment's instant is
due, a capture, a HIGH stamp, a NORMAL stamp (R77 to R82); the instants of the segments, the pulse ends and the armed instants
of the lines are due when XT has reached them (R95, R128, R130). -/
def GrantsAndInstantsAreDue : Prop :=
  ∀ s : State,
    let due (c : Instr) : Prop := c ∈ s.dueEvents
    (∀ e : SegEvent, segmentTurn s e → due (grantOf e.kind)) ∧
    (∀ c : Instr, (∃ k : SegEventKind, c = grantOf k) → due c → ∃ e : SegEvent, segmentTurn s e ∧ c = grantOf e.kind) ∧
    (∀ l : Line, due (.captureGrant l) ↔ captureTurn s l) ∧
    (∀ p : Port, due (.stampGrant p) ↔ stampTurn s p) ∧
    (∀ i : SegId,
      (due (.openInstantDue i) ↔ takesInstants s i ∧ openReached s i) ∧
      (due (.callInstantDue i) ↔ takesInstants s i ∧ callReached s i) ∧
      (due (.armedCloseDue i) ↔ takesInstants s i ∧ closeReached s i) ∧
      (due (.drawnCloseDue i) ↔ takesInstants s i ∧ drawnReached s i)) ∧
    ∀ l : Line,
      (due (.pulseEnd l) ↔ ∃ x : Ns, (s.outputs.get l).pulseEnd = some x ∧ x ≤ s.now) ∧
      (due (.atInstantFire l) ↔ ∃ a : LevelAt, (s.outputs.get l).armed = some a ∧ a.xt ≤ s.now)

/-- A port's own events are due when its silence timer has run out (R151), when its transmitter sends an idle frame (R150, R153) or a
batch (R156, R159), when a free entry lets a waiting answer or, with none waiting, pending notices enter (R154, R155, R158), when
the records before a DRAIN have left (R161), and when an untaken request stands at the head (R154). -/
def PortEventsAreDue : Prop :=
  ∀ (s : State) (p : Port),
    let pc := s.port p
    let due (c : Instr) : Prop := c ∈ s.dueEvents
    let waits : Prop := ∃ r ofDrain, pc.service = .waiting r ofDrain
    (due (.linkTimeout p) ↔ pc.up = true ∧ pc.silence = some 0) ∧
    (due (.idleFrame p) ↔ pc.sending = false ∧ ¬ batchIsDue pc ∧ (pc.idleTimer = 0 ∨ pc.holdChanged = true)) ∧
    (due (.batchFrame p) ↔ batchIsDue pc) ∧
    (due (.waitingAnswer p) ↔ waits ∧ pc.responses.length < 64) ∧
    (due (.pendingNoticeDrain p) ↔ pc.up = true ∧ (pc.pendStatus ≠ none ∨ pc.pendSegs ≠ [] ∨ pc.pendPort = true) ∧
      pc.responses.length < 64 ∧ ¬ waits) ∧
    (due (.drainComplete p) ↔ ∃ tag, pc.service = .draining tag 0) ∧
    (∀ q rest, pc.requests = q :: rest → pc.service = .untaken → due (requestCommand p q)) ∧
    ∀ (c : Instr) (tag : Tag) (body : ReqBody), Instr.asked c = some (p, tag, body) → due c →
      pc.service = .untaken ∧ pc.requests.head? = some { tag := tag, body := body }

/-- What a step does on an empty queue, and which own events are due (R10, R43, R64, R77 to R82, R95, R150 to R161; log entries 2 and 54). -/
def Obligations.IdleStepDoesDueEventOrTick : Prop :=
  AnIdleStepDoesOneDueEventOrTicks ∧ ClockEventsAreDue ∧ GrantsAndInstantsAreDue ∧ PortEventsAreDue

/-! ## Every command -/

/-- Every command completes, leaves the blocks that its rule does not give it as they were, and leaves the commands that wait in
the queue waiting. That a command whose event is not due completes too, doing nothing, is the model's choice (log entry 1), and so
is what a device reset keeps: the waiting commands and the places of the random source and of the free values (log entry 28). -/
def Obligations.EveryCommandCompletesWithinItsBlocks : Prop :=
  ∀ (c : Instr) (s : State),
    ∃ t : State, exec c s = .next t ∧ State.differsIn (Instr.touches c) s t ∧ t.pending = s.pending

/-- A command that takes a request does nothing while that request is not the next to be taken at the head of its port's queue;
the request that is next is taken by its own command (R154; the first clause is the model's choice, log entry 1). -/
def Obligations.RequestsAreTakenAtTheHead : Prop :=
  (∀ (c : Instr) (p : Port) (tag : Tag) (body : ReqBody) (s : State),
    Instr.asked c = some (p, tag, body) → s.headIs p tag body = false → exec c s = .next s) ∧
  ∀ (p : Port) (q : Request), Instr.asked (requestCommand p q) = some (p, q.tag, q.body)

/-- A request whose right the port's role does not hold is answered NO_RIGHT, and nothing else changes (R148). -/
def Obligations.NoRightChangesNothingElse : Prop :=
  ∀ (c : Instr) (p : Port) (tag : Tag) (body : ReqBody) (right : Right) (s : State),
    Instr.asked c = some (p, tag, body) → Instr.needs c = some right → s.headIs p tag body = true →
      (s.port p).role.has right = false → Replies c s p (.done tag .noRight false) [] fun _ => True

/-! ## Tick Unit and Timescale Counter (chapter 1) -/

/-- The next tick is the PLL's: the state is ACQUIRE, LOCKED or HOLDOVER, or the tick is the edge that completes a return (R1, R5,
R15). -/
def pllDrives (s : State) : Prop :=
  s.steer.state = .acquire ∨ s.steer.state = .locked ∨ s.steer.state = .holdover ∨
    s.steer.state = .fallback ∧ s.tick.returnPhase = .lockWait ∧ s.tick.pllMonitor = .confirmed

/-- The next tick adds `inc` units to XT: on a PLL tick the nominal increment and A, which at a completed return is I clamped to the
slew limit in force; on a ring tick the ring increment (R1, R15, R50). -/
def ticksBy (s : State) (inc : Nat) : Prop :=
  (pllDrives s → s.steer.state ≠ .fallback → (inc : Int) = 17179869184 + s.steer.adj) ∧
    (pllDrives s → s.steer.state = .fallback →
      (inc : Int) = 17179869184 + clampInt (-(s.steer.inForce.slewL : Int)) s.steer.inForce.slewL s.steer.integ) ∧
    (¬ pllDrives s → inc = s.tick.ringIncrement)

/-- The Tick Unit after a tick of `n` ring cycles, one on a ring tick and at most two on a PLL tick (R1 to R3; log entry 7), whose
calibration count becomes `calib`. -/
def Ticked (s t : State) (n : Nat) (calib : Option Nat) : Prop :=
  n ≤ 2 ∧ (pllDrives s → t.tick.source = .pll) ∧ (¬ pllDrives s → t.tick.source = .ring ∧ n = 1) ∧
    t.tick = { s.tick with
      mainGap := s.tick.mainGap.map (· - n)
      lockWaitTimer := s.tick.lockWaitTimer.map (· - n)
      source := t.tick.source
      calibCount := calib }

/-- A port after a tick of `n` ring cycles (R82, R150, R151). -/
def portTicked (n : Nat) (pc : PortCtl) : PortCtl :=
  { pc with silence := pc.silence.map (· - n), idleTimer := pc.idleTimer - n, justFreed := false }

/-- From `t` to `t'`, the entries of these bodies have been written one after another, all with the same readings (R132, R133). -/
def WroteAll (w : Writing) : List TrailBody → TrailUnit → TrailUnit → Prop
  | [], t, t' => t' = t
  | b :: rest, t, t' => ∃ u : TrailUnit, TrailUnit.Wrote t u b w ∧ WroteAll w rest u t'

/-- A port that is UP and subscribed has a STATUS notice of this cause: a record in its response queue, or its STATUS slot taken (R38,
R157, R158). -/
def hasStatus (cause : StatusCause) (pc : PortCtl) : Prop :=
  pc.up = true → pc.statusSub = true →
    pc.pendStatus ≠ none ∨ ∃ body : StatusBody, Record.status body ∈ pc.responses ∧ body.cause = some cause

/-- A tick adds the increment of the tick source to XT and carries the fraction exactly (R1, R6); a whole multiple of 10^9 ns that
the advance reaches is a second mark (R8). The timers count the tick's ring cycles, and the arbiter may grant again. The model's
choices: a tick passes when no event is due (log entry 2), a PLL tick has at most 2 ring cycles (log entry 7), and a mark stays due
until it is worked (log entry 31). -/
def Obligations.TickAdvancesXt : Prop :=
  ∀ (s : State) (inc : Nat), s.pending = [] → s.dueEvents = [] → (∀ st : PendingStep, ¬ stepIsTaken s st) →
    s.xt.frac < 4294967296 → ticksBy s inc → s.xt.ns + inc / 4294967296 + 1 < 18446744073709551616 →
    ∃ (t : State) (n : Nat), step s = .next t ∧ t.xt.frac < 4294967296 ∧
      t.xt.ns * 4294967296 + t.xt.frac = s.xt.ns * 4294967296 + s.xt.frac + inc ∧
      (∀ m : Nat, m % 1000000000 = 0 → s.xt.ns < m → m ≤ t.xt.ns → t.xt.ns < m + 1000000000 → t.xt.markDue = some m) ∧
      ((∀ m : Nat, m % 1000000000 = 0 → s.xt.ns < m → t.xt.ns < m) → t.xt.markDue = s.xt.markDue) ∧
      Ticked s t n (s.tick.calibCount.map (· + n)) ∧ (∀ p : Port, t.port p = portTicked n (s.port p)) ∧
      t.steer = { s.steer with
        acqTimer := if s.steer.state = .acquire then s.steer.acqTimer.map (· + 1) else s.steer.acqTimer } ∧
      t.arb = { s.arb with grantedThisTick := false, heldSeg := none } ∧
      State.differsIn [.tick, .xt, .steer, .ports, .arb, .freeIndex] s t

/-- From `s` to `t`, the lock wait has started if its conditions hold, at 250,000 ring cycles, and the PLL monitor is as before if
they do not (R3). -/
def LockWaitOpened (s t : State) : Prop :=
  if t.tick.lockFlag = true ∧ t.tick.mainMonitor = .present ∧ s.tick.pllMonitor = .unlocked ∧
      (s.steer.state = .cold ∨ s.steer.state = .fallback ∧ t.tick.returnPhase = .lockWait) then
    t.tick.pllMonitor = .lockWait ∧ t.tick.lockWaitTimer = some 250000
  else t.tick.pllMonitor = s.tick.pllMonitor ∧ t.tick.lockWaitTimer = s.tick.lockWaitTimer

/-- An edge of the main input restarts the interval of 250 ring cycles, and on an absent one begins the settle of a return that waits
for it; with a rise of the PLL's lock flag and the end of a settle, it changes the monitors and the return sequence alone, and
opens the lock wait as soon as its conditions hold (R2, R3, R14). -/
def MonitorsOpenTheLockWait : Prop :=
  (∀ s : State, s.tick.mainMonitor = .present →
    ∃ t : State, exec .mainPresent s = .next t ∧ State.differsIn [.tick] s t ∧
      t.tick = { s.tick with mainGap := some 250 }) ∧
  (∀ s : State, s.tick.mainMonitor = .absent →
    ∃ t : State, exec .mainPresent s = .next t ∧ LockWaitOpened s t ∧ State.differsIn [.tick] s t ∧
      t.tick = { s.tick with
        mainMonitor := .present
        mainGap := some 250
        returnPhase := if s.tick.returnPhase = .waitMain then .settle else s.tick.returnPhase
        settleDeadline := if s.tick.returnPhase = .waitMain then
            some (s.now + ((s.tick.settlePeriod * 1000000000 : Nat) : Int))
          else s.tick.settleDeadline
        pllMonitor := t.tick.pllMonitor
        lockWaitTimer := t.tick.lockWaitTimer }) ∧
  (∀ s : State,
    ∃ t : State, exec .pllLockRaised s = .next t ∧ LockWaitOpened s t ∧ State.differsIn [.tick] s t ∧
      t.tick = { s.tick with
        lockFlag := true
        pllMonitor := t.tick.pllMonitor
        lockWaitTimer := t.tick.lockWaitTimer }) ∧
  ∀ (s : State) (d : Ns), s.tick.returnPhase = .settle → s.tick.settleDeadline = some d → d ≤ s.now →
    ∃ t : State, exec .settleComplete s = .next t ∧ LockWaitOpened s t ∧ State.differsIn [.tick] s t ∧
      t.tick = { s.tick with
        returnPhase := .lockWait
        settleDeadline := none
        pllMonitor := t.tick.pllMonitor
        lockWaitTimer := t.tick.lockWaitTimer }

/-- A gap of 250 ring cycles on the main input and a fall of the lock flag that are no main loss act on the PLL monitor and the return
sequence alone (R2, R3, R14, R15, Table 1-4). -/
def LossOutsideOperationIsNoMainLoss : Prop :=
  (∀ s : State, s.tick.mainMonitor = .present → s.tick.mainGap = some 0 → ¬ returnEdge s →
    s.tick.pllMonitor ≠ .confirmed ∨ s.steer.state = .cold ∨ s.steer.state = .fallback →
    ∃ t : State, exec .mainAbsent s = .next t ∧ State.differsIn [.tick] s t ∧
      t.tick = { s.tick with
        mainMonitor := .absent
        mainGap := none
        pllMonitor := .unlocked
        lockWaitTimer := none
        returnPhase := if s.tick.returnPhase = .settle ∨ s.tick.returnPhase = .lockWait then .waitMain
          else s.tick.returnPhase
        settleDeadline := if s.tick.returnPhase = .settle ∨ s.tick.returnPhase = .lockWait then none
          else s.tick.settleDeadline }) ∧
  (∀ s : State, s.tick.mainMonitor = .present → ¬ returnEdge s →
    s.tick.pllMonitor ≠ .confirmed ∨ s.steer.state = .cold ∨ s.steer.state = .fallback →
    ∃ t : State, exec .pllLockFallen s = .next t ∧ State.differsIn [.tick] s t ∧
      t.tick = { s.tick with
        lockFlag := false
        pllMonitor := .unlocked
        lockWaitTimer := none
        returnPhase := if s.tick.returnPhase = .lockWait then .settle else s.tick.returnPhase
        settleDeadline := if s.tick.returnPhase = .lockWait then
            some (s.now + ((s.tick.settlePeriod * 1000000000 : Nat) : Int))
          else s.tick.settleDeadline }) ∧
  ∀ s : State, s.tick.mainMonitor = .absent →
    ∃ t : State, exec .pllLockFallen s = .next t ∧ State.differsIn [.tick] s t ∧ t.tick = { s.tick with lockFlag := false }

/-- The main oscillator monitor, the PLL monitor and the return sequence follow the main input and the PLL's lock flag where no main loss
is made (R2, R3, R14, R15). -/
def Obligations.MonitorsFollowTheMainInputAndTheLockFlag : Prop :=
  MonitorsOpenTheLockWait ∧ LossOutsideOperationIsNoMainLoss

/-- A main loss in LOCKED or HOLDOVER moves the timescale to FALLBACK on the ring and starts the return sequence; in ACQUIRE it moves
it to COLD. XT, A, I, B and the stamping-open flag stay, and the change is reported with cause MAIN_LOSS (R4, R13, R44). That the
ring is the source from the loss on is log entry 22; that the count of a second that ends at the same tick is discarded with the
others is log entry 53; that the TIMESCALE entry is the newest, after the LEAP entries of a store made pending, is log entry 13. -/
def Obligations.MainLossGoesToTheRing : Prop :=
  ∀ (c : Instr) (s : State), c = .mainAbsent ∨ c = .pllLockFallen → s.tick.mainMonitor = .present →
    (c = .mainAbsent → s.tick.mainGap = some 0) → s.tick.pllMonitor = .confirmed → s.tick.returnPhase = .none →
    s.steer.state = .acquire ∨ s.steer.state = .locked ∨ s.steer.state = .holdover →
    ∃ t : State, exec c s = .next t ∧ State.differsIn [.tick, .steer, .leap, .segs, .trail, .ports, .lastCause] s t ∧
      t.tick = { s.tick with
        mainMonitor := if c = .mainAbsent then .absent else .present
        mainGap := if c = .mainAbsent then none else s.tick.mainGap
        lockFlag := if c = .mainAbsent then s.tick.lockFlag else false
        pllMonitor := .unlocked
        lockWaitTimer := none
        source := .ring
        calibCount := none
        returnPhase := if s.steer.state = .acquire then .none else if c = .mainAbsent then .waitMain else .settle
        settleDeadline := if s.steer.state = .acquire then s.tick.settleDeadline else if c = .mainAbsent then none
          else some (s.now + ((s.tick.settlePeriod * 1000000000 : Nat) : Int)) } ∧
      t.steer = (if s.steer.state = .acquire then { s.steer with state := .cold, lockCount := 0, acqTimer := none }
        else { s.steer with state := .fallback }) ∧
      t.newestEntry (.timescale s.steer.state t.steer.state .mainLoss s.steer.bound s.steer.traceable none) ∧
      t.lastCause = some (.timescale .mainLoss) ∧
      (s.leap.store = none → t.leap = s.leap ∧ t.segs = s.segs ∧
        State.wrote (.timescale s.steer.state t.steer.state .mainLoss s.steer.bound s.steer.traceable none) s t ∧
        State.toldStatus (.timescale .mainLoss) s t)

/-- When the lock wait has run out the PLL monitor becomes CONFIRMED. In COLD this starts ACQUIRE with the acquisition values of the Steering Unit, reported with cause LOCK_CONFIRMED (R3, R5, R40); in FALLBACK nothing else changes (R15). The source
changes at the next tick (log entry 22). -/
def LockWaitExpiryConfirms : Prop :=
  ∀ s : State, s.tick.pllMonitor = .lockWait → s.tick.lockWaitTimer = some 0 →
    (s.steer.state = .cold →
      ∃ t : State, exec .lockWaitExpiry s = .next t ∧ State.differsIn [.tick, .steer, .trail, .ports, .lastCause] s t ∧
        t.tick = { s.tick with pllMonitor := .confirmed, lockWaitTimer := none } ∧
        t.steer = { s.steer with
          state := .acquire
          lockCount := 0
          integ := 0
          adj := 0
          eHeld := none
          acqTimer := some 0
          bound := 4294967295
          traceable := false } ∧
        State.wrote (.timescale .cold .acquire .lockConfirmed 4294967295 false none) s t ∧
        State.toldStatus (.timescale .lockConfirmed) s t) ∧
    (s.steer.state ≠ .cold →
      ∃ t : State, exec .lockWaitExpiry s = .next t ∧ State.differsIn [.tick] s t ∧
        t.tick = { s.tick with pllMonitor := .confirmed, lockWaitTimer := none })

/-- Once the PLL edge has come, the return from FALLBACK is completed with HOLDOVER as the state; A and I are the integrator clamped to
the slew limit in force, B is carried into the growth, and the change is reported with cause MAIN_RETURN (R15, R50). A loss at that
edge's tick acts as after the completed return (log entry 22). -/
def MainReturnGoesToHoldover : Prop :=
  ∀ s : State, returnEdge s →
    ∃ t : State, exec .mainReturn s = .next t ∧ State.differsIn [.tick, .steer, .trail, .ports, .lastCause] s t ∧
      t.tick = { s.tick with returnPhase := .none } ∧
      t.steer = { s.steer with
        state := .holdover
        integ := clampInt (-(s.steer.inForce.slewL : Int)) s.steer.inForce.slewL s.steer.integ
        adj := clampInt (-(s.steer.inForce.slewL : Int)) s.steer.inForce.slewL s.steer.integ
        bEntry := s.steer.bound
        hSeconds := 0 } ∧
      State.wrote (.timescale .fallback .holdover .mainReturn s.steer.bound s.steer.traceable none) s t ∧
      State.toldStatus (.timescale .mainReturn) s t ∧
      (s.tick.mainMonitor = .present → exec .pllLockFallen s = exec .pllLockFallen t ∧
        (s.tick.mainGap = some 0 → exec .mainAbsent s = exec .mainAbsent t))

/-- A lock wait that runs out confirms the PLL, and a return is completed at the PLL's edge (R3, R5, R15, R40, R50). -/
def Obligations.LockWaitExpiryAndMainReturnGiveThePll : Prop :=
  LockWaitExpiryConfirms ∧ MainReturnGoesToHoldover

/-- A device reset gives every block its reset values: XT 0 in COLD, the straps' roles, a trail that holds the RESTART entry alone,
and the boot epoch advanced, or re-initialised at 0 when the store's check fails (R17, R37, R62, R74, R76, R92, R120, R126, R131,
R136, R146, R147, R164). Of what the tables do not give, the model clears the lock flag (log entry 6), sends an idle frame at once
(log entry 15), and keeps the store's old content after a lost write-back (log entry 5); the commands that wait and the random
source's place are the model's own and stay (log entries 8 and 28). -/
def Obligations.DeviceResetRestoresEveryBlock : Prop :=
  ∀ (straps : Bank 8 Straps) (storeLost writeLost : Bool) (s : State),
    ∃ t : State, exec (.deviceReset straps storeLost writeLost) s = .next t ∧
      t.tick = State.reset.tick ∧ t.xt = State.reset.xt ∧ t.refs = State.reset.refs ∧ t.refCfg = State.reset.refCfg ∧
      t.steer = State.reset.steer ∧ t.leap = State.reset.leap ∧ t.arb = State.reset.arb ∧ t.segs = State.reset.segs ∧
      t.profiles = State.reset.profiles ∧ t.commits = [] ∧ t.capture = State.reset.capture ∧ t.outputs = State.reset.outputs ∧
      (∀ n : Nat, storeLost = false → s.epoch.stored = some n →
        t.epoch = { epoch := (n + 1) % 65536, reinitialised := false
                    stored := some (if writeLost then n else (n + 1) % 65536) }) ∧
      (storeLost = true ∨ s.epoch.stored = none →
        t.epoch = { epoch := 0, reinitialised := true, stored := if writeLost then none else some 0 }) ∧
      t.trail = { State.reset.trail with
        entries := [{ seq := 1, written := ⟨0, 0, 0, .none⟩, body := .restart t.epoch.epoch t.epoch.reinitialised }] } ∧
      (∀ p : Port, t.port p = PortCtl.reset (match (straps.get p).first, (straps.get p).second with
        | false, false => .gateway
        | true, false => .engine
        | false, true => .oversight
        | true, true => .full)) ∧
      State.differsIn [.tick, .xt, .refs, .refCfg, .steer, .leap, .arb, .epoch, .segs, .profiles, .commits, .capture, .outputs,
        .trail, .ports, .lastCause] s t

/-- State.reset holds the values of Table 1-7, Table 2-9, Table 3-8, Table 3-9, Table 4-1, Table 5-7, Table 6-4, Table 6-6, Table 7-1,
Table 7-6, Table 8-7 and Table 9-6, with summary counters at nothing and the trail holding the RESTART entry (R136, R137). What no
table gives is the model's choice: the straps (log entry 4), the Epoch Store (log entry 5), the lock flag (log entry 6), the edge
interval (log entry 10), the receivers (log entry 11), the idle timer (log entry 15) and the frame last sent (log entry 14). -/
def ResetHoldsTheTablesValues : Prop :=
  let s := State.reset
  s.xt = { ns := 0, frac := 0, markDue := none } ∧
  s.tick =
    { mainMonitor := .absent, mainGap := none, lockFlag := false, pllMonitor := .unlocked, lockWaitTimer := none, source := .ring
      ringIncrement := 17179869184, calibrated := false, calibCount := none, returnPhase := .none, settleDeadline := none
      settlePeriod := 10 } ∧
  (∀ r : RefId, s.refs.get r =
    { state := .absent, profile := .strict, priority := if r = .refA then 1 else if r = .refB then 2 else 3, cableDelay := 0
      lastMessage := none, lastPulse := none, expected := none, absence := none, goodLabel := none, history := [], goodRun := 0
      badRun := 0, lastE := none, span := none, waiting := none, ready := none, disagree := 0, lastD := none, assembly := none
      busyUntil := 0 }) ∧
  s.refCfg = { pWin := 2000, minQuality := 8, limitD := 5000, revertive := false } ∧
  s.steer =
    { state := .cold, stampingOpen := false, timeSet := false, lockCount := 0, acqTimer := none, integ := 0, adj := 0
      eHeld := none, bound := 4294967295, bEntry := 0, hSeconds := 0, traceable := false, pendingSteps := []
      written := { kp := 137, ki := 17, slewL := 1048576, growthH := 20, growthHRing := 50000 }
      inForce := { kp := 137, ki := 17, slewL := 1048576, growthH := 20, growthHRing := 50000 }
      wLock := 500, acqTimeout := 900, limitM := 100000, uFixed := 150, uManual := 4294967295, selection := none } ∧
  s.leap = { offset := 0, pending := none, announced := .unknown, store := none } ∧
  s.arb = { seq := 0, capturePtr := 0, highPtr := 0, normalPtr := 0, grantedThisTick := false, heldSeg := none } ∧
  s.epoch = { epoch := 0, reinitialised := true, stored := some 0 } ∧
  (∀ i : SegId, s.segs.get i =
    { state := .idle, committed := .settled .idle, profile := 0, defn := none, armedDay := none, armed := none, drawn := none
      extensions := 0, cycle := 0, lastOpen := 0, lastCall := 0, lastClose := 0, closeRec := none }) ∧
  (∀ k : ProfileId, s.profiles.get k = { window := 0, extLength := 300, maxExt := 0 }) ∧ s.commits = [] ∧
  (∀ l : Line, s.capture.get l = { edgeSel := .off, port := l, fifo := [], overflow := 0 } ∧
    s.outputs.get l =
      { mode := .off, high := false, width := 100000, widthInUse := 100000, pulseEnd := none, armed := none
        heldInstant := none }) ∧
  s.trail =
    { entries := [{ seq := 1, written := ⟨0, 0, 0, .none⟩, body := .restart 0 true }], wIx := 2, k := 1, evidence := 0
      prevSummary := 0, counters := s.trail.counters, seconds := 0, interval := 60, mode := .auto } ∧
  (∀ r : RefId, s.trail.counters.good.get r = 0 ∧ s.trail.counters.bad.get r = 0 ∧ s.trail.counters.missing.get r = 0 ∧
    s.trail.counters.span.get r = none) ∧
  s.trail.counters.maxBound = none ∧ s.trail.counters.untraceable = 0 ∧ s.trail.counters.captures = 0 ∧
  s.trail.counters.overflows = 0 ∧ s.trail.counters.suppressed = 0 ∧ s.trail.counters.overwritten = 0 ∧
  ∀ p : Port, s.trail.counters.stamps.get p = 0 ∧ s.trail.counters.crcDiscards.get p = 0 ∧
    s.port p =
      { role := .gateway, up := false, silence := none, requests := [], service := .untaken, overrun := 0, responses := []
        justFreed := false, inFlight := 0, sending := false, pendStatus := none, pendSegs := [], pendPort := false
        statusSub := false, threshold := 1, batchNumber := 0, drainDone := none, idleTimer := 0, holdChanged := false
        lastFrame := [] }

/-! ## Reference Monitors (chapter 2) -/

/-- The four checks on a complete message: the sum of all its bytes, the announcement, the quality and the scale seconds (R19, R168). -/
def messagePasses (bytes : List Byte) : Prop :=
  (bytes.map fun b => b.toNat).sum % 256 = 0 ∧ (byteAt bytes 6).toNat ≤ 2 ∧ (byteAt bytes 7).toNat ≤ 15 ∧
    fieldAt bytes 0 5 < 9223372036

/-- `last` is what a complete message leaves as the last message: its six fields, its arrival XT and no used mark when it passes, and
what was there when it fails (R19, Table 10-14). -/
def LastMessageAfter (bytes : List Byte) (arrival : Ns) (before last : Option Message) : Prop :=
  (¬ messagePasses bytes → last = before) ∧
  (messagePasses bytes →
    ∃ a : LeapCode, (a = .none ↔ (byteAt bytes 6).toNat = 0) ∧ (a = .insert ↔ (byteAt bytes 6).toNat = 1) ∧
      (a = .delete ↔ (byteAt bytes 6).toNat = 2) ∧
      last = some
        { seconds := fieldAt bytes 0 5
          offset := (byteAt bytes 5).toInt
          announcement := a
          quality := (byteAt bytes 7).toNat
          uncertainty := fieldAt bytes 8 2
          sumCheck := (byteAt bytes 15).toNat
          arrival := arrival
          used := false })

/-- Bytes on the message line are heard one after another. A byte that begins after 500 us of idle line starts a new message; one that
does not goes on with the bytes under assembly, or is discarded while the receiver waits for the idle line. The line is idle while it
is high, after the last stop bit: a line held low after a framing error is not. The 16th completes the
message, which is dated with the XT of that byte's stop bit and checked. A message of 16 bytes sent whole after an idle line is
therefore heard and checked. A framing error discards the bytes under assembly and begins the wait, and a
byte that comes before the line has been high for 500 us is not taken (R18, R19, R168). That a command
carries bytes with the times of their stop bits and the time for which the line was high before them, and that the idle line counts
from a stop bit's sampling, is the model's choice (log entry 11). -/
def Obligations.TimeOfDayMessageIsChecked : Prop :=
  (∀ (r : RefId) (b : LineByte) (s : State),
    let x := s.refs.get r
    let stop : Ns := s.now - b.ago
    let idle : Prop := 500000 ≤ b.high ∧ x.busyUntil + 500000 ≤ stop - 82465
    let heard (x' : RefRecord) : Prop := ∃ t : State, exec (.timeOfDayMessage r [b]) s = .next t ∧ t.refs.get r = x' ∧
      State.otherRefs r s t ∧ State.differsIn [.refs] s t
    (¬ idle → x.assembly = none → heard { x with assembly := none, busyUntil := stop }) ∧
    ∀ held : List Byte, idle ∧ held = [] ∨ ¬ idle ∧ x.assembly = some held →
      let all := held ++ [b.value]
      (all.length < 16 → heard { x with assembly := some all, busyUntil := stop }) ∧
      (16 ≤ all.length → ∃ last : Option Message, LastMessageAfter all stop x.lastMessage last ∧
        heard { x with assembly := none, busyUntil := stop, lastMessage := last })) ∧
  (∀ (r : RefId) (b : LineByte) (rest : LineRun) (s t : State), exec (.timeOfDayMessage r [b]) s = .next t →
    exec (.timeOfDayMessage r (b :: rest)) s = exec (.timeOfDayMessage r rest) t) ∧
  (∀ (r : RefId) (run : LineRun) (s : State) (first last : LineByte), run.length = 16 → run.head? = some first →
    run.getLast? = some last → 500000 ≤ first.high → (s.refs.get r).busyUntil + 500000 ≤ s.now - first.ago - 82465 →
    (∀ (n : Nat) (a b : LineByte), run[n]? = some a → run[n + 1]? = some b → b.high < 500000 ∨ a.ago < b.ago + 582465) →
    ∃ (t : State) (message : Option Message), exec (.timeOfDayMessage r run) s = .next t ∧
      LastMessageAfter (run.map LineByte.value) (s.now - last.ago) (s.refs.get r).lastMessage message ∧
      t.refs.get r = { s.refs.get r with assembly := none, busyUntil := s.now - last.ago, lastMessage := message } ∧
      State.otherRefs r s t ∧ State.differsIn [.refs] s t) ∧
  ∀ (r : RefId) (s : State),
    ∃ t : State, exec (.messageFramingError r) s = .next t ∧
      t.refs.get r = { s.refs.get r with assembly := none, busyUntil := s.now } ∧ State.otherRefs r s t ∧
      State.differsIn [.refs] s t ∧
      ∀ (b : LineByte) (u : State), u.refs.get r = t.refs.get r → b.high < 500000 →
        ∃ v : State, exec (.timeOfDayMessage r [b]) u = .next v ∧ (v.refs.get r).assembly = none ∧
          (v.refs.get r).lastMessage = (s.refs.get r).lastMessage

/-- The first pulse of an ABSENT reference makes it QUALIFYING, sets its pulse times and gives no verdict (R20); the change is
reported (R28). -/
def Obligations.FirstPulseMakesQualifying : Prop :=
  ∀ (r : RefId) (s : State), (s.refs.get r).state = .absent →
    ∃ t : State, exec (.referencePulse r) s = .next t ∧
      t.refs.get r = { s.refs.get r with
        state := .qualifying
        lastPulse := some s.now
        expected := some (s.now + 1000000000 + s.refCfg.pWin)
        absence := some (s.now + 10000000000)
        goodLabel := none } ∧
      State.otherRefs r s t ∧ State.wrote (.source (.refState r .absent .qualifying)) s t ∧
      State.toldStatus (.reference r .qualifying) s t ∧ State.differsIn [.refs, .trail, .ports, .lastCause] s t

/-- From `s` to `t`, reference `r` has got `record` and the summary `counters`; a change of its state, and only that, is reported by a
SOURCE entry and a STATUS notice (R28). -/
def RefRecorded (r : RefId) (record : RefRecord) (counters : Counters) (s t : State) : Prop :=
  t.refs.get r = record ∧ State.otherRefs r s t ∧ State.differsIn [.refs, .trail, .ports, .lastCause] s t ∧
    (record.state = (s.refs.get r).state →
      t.trail = { s.trail with counters := counters } ∧ t.ports = s.ports ∧ t.lastCause = s.lastCause) ∧
    (record.state ≠ (s.refs.get r).state →
      TrailUnit.Wrote { s.trail with counters := counters } t.trail
          (.source (.refState r (s.refs.get r).state record.state)) s.writing ∧
        State.toldStatus (.reference r record.state) s t)

/-- The ready slot when a new verdict takes the waiting one's place: a mature waiting verdict moves there (R24). -/
def readyAfter (x : RefRecord) (now : Ns) : Option HeldVerdict :=
  match x.waiting with
  | some h => if h.maturity ≤ now then some h else x.ready
  | none => x.ready

/-- A pulse that meets the four conditions of R21 is GOOD: its phase error is measured from the paired message's label and the cable
delay and clamped (R22), it is recorded in the history, the counts, the span, the summary and the hand-over slot (R24), and it may
qualify the reference (R27, Table 2-3). -/
def Obligations.GoodPulseIsMeasuredAndRecorded : Prop :=
  ∀ (r : RefId) (s : State) (m : Message) (p : Ns),
    let x := s.refs.get r
    x.state ≠ .absent → x.lastMessage = some m → m.used = false → s.now - 900000000 ≤ m.arrival → x.lastPulse = some p →
    (1000000000 : Int) - s.refCfg.pWin ≤ s.now - p → s.now - p ≤ 1000000000 + s.refCfg.pWin →
    (x.goodLabel = none ∨ ∃ l : Nat, x.goodLabel = some l ∧ m.seconds = l + 1) → s.refCfg.minQuality ≤ m.quality →
    let expected : Ns := ((m.seconds * 1000000000 : Nat) : Int) + x.cableDelay
    let e := clampInt (-1073741824) 1073741824 (s.now - expected)
    let history := (Grade.good :: x.history).take 16
    let goodRun := min (x.goodRun + 1) 65535
    let span := match x.span with
      | none => some ⟨e, e⟩
      | some q => some ⟨min q.least e, max q.greatest e⟩
    let qualifies : Prop := (x.state = .qualifying ∨ x.state = .lost) ∧
      (x.profile = .strict ∧ 10 ≤ goodRun ∨
        x.profile = .lenient ∧ history.take 4 = [.good, .good, .good, .good] ∧ 12 ≤ history.count .good)
    ∃ (t : State) (st : RefState), exec (.referencePulse r) s = .next t ∧ (qualifies → st = .qualified) ∧
      (¬ qualifies → st = x.state) ∧
      RefRecorded r
        { x with
          state := st
          lastMessage := some { m with used := true }
          lastPulse := some s.now
          expected := some (s.now + 1000000000 + s.refCfg.pWin)
          absence := some (s.now + 10000000000)
          goodLabel := some m.seconds
          history := history
          goodRun := goodRun
          badRun := 0
          lastE := some e
          span := span
          ready := readyAfter x s.now
          waiting := some { verdict := .good { e := e, c := s.now, expected := expected }, maturity := s.now + 500000000 } }
        { s.trail.counters with
          good := s.trail.counters.good.set r (min (s.trail.counters.good.get r + 1) 4294967295)
          span := s.trail.counters.span.set r (offerError (s.trail.counters.span.get r) e) }
        s t

/-- What a BAD or MISSING verdict leaves of a reference record: the history, the counts, no last e, the hand-over slot (R24), and
LOST where the profile's loss test says so (R26, Table 2-3). -/
def poorSecond (x : RefRecord) (v : Verdict) (maturity now : Ns) : RefRecord :=
  { x with
    state := if x.state = .qualified ∧ (if x.profile = .strict then 2 else 8) ≤ min (x.badRun + 1) 65535 then .lost
      else x.state
    goodLabel := none
    history := ((if v = .missing then Grade.missing else Grade.bad) :: x.history).take 16
    goodRun := 0
    badRun := min (x.badRun + 1) 65535
    lastE := none
    ready := readyAfter x now
    waiting := some { verdict := v, maturity := maturity } }

/-- A judged pulse that fails a condition of R21 is BAD and uses its paired message; an expected instant that XT has passed gives
MISSING and moves on by one second (R23). Both are recorded alike (R24, R26). -/
def BadAndMissingSecondsAreRecorded : Prop :=
  (∀ (r : RefId) (s : State),
    let x := s.refs.get r
    let paired : Prop := ∃ m : Message, x.lastMessage = some m ∧ m.used = false ∧ s.now - 900000000 ≤ m.arrival
    let meets : Prop := ∃ (m : Message) (p : Ns), x.lastMessage = some m ∧ m.used = false ∧ s.now - 900000000 ≤ m.arrival ∧
      x.lastPulse = some p ∧ (1000000000 : Int) - s.refCfg.pWin ≤ s.now - p ∧ s.now - p ≤ 1000000000 + s.refCfg.pWin ∧
      (x.goodLabel = none ∨ ∃ l : Nat, x.goodLabel = some l ∧ m.seconds = l + 1) ∧ s.refCfg.minQuality ≤ m.quality
    x.state ≠ .absent → ¬ meets →
    ∃ (t : State) (last : Option Message), exec (.referencePulse r) s = .next t ∧
      (paired → last = x.lastMessage.map fun m => { m with used := true }) ∧ (¬ paired → last = x.lastMessage) ∧
      RefRecorded r
        { poorSecond x .bad (s.now + 500000000) s.now with
          lastMessage := last
          lastPulse := some s.now
          expected := some (s.now + 1000000000 + s.refCfg.pWin)
          absence := some (s.now + 10000000000) }
        { s.trail.counters with bad := s.trail.counters.bad.set r (min (s.trail.counters.bad.get r + 1) 4294967295) } s t) ∧
  ∀ (r : RefId) (s : State) (x0 : Ns), (s.refs.get r).expected = some x0 → x0 < s.now →
    ∃ t : State, exec (.missingVerdict r) s = .next t ∧
      RefRecorded r
        { poorSecond (s.refs.get r) .missing (x0 + 500000000) s.now with expected := some (x0 + 1000000000) }
        { s.trail.counters with
          missing := s.trail.counters.missing.set r (min (s.trail.counters.missing.get r + 1) 4294967295) } s t

/-- At the absence deadline a reference becomes ABSENT and forgets everything but its configuration, its last message and its error
span (R25). -/
def AbsenceDeadlineForgetsTheReference : Prop :=
  ∀ (r : RefId) (s : State) (d : Ns), (s.refs.get r).absence = some d → d ≤ s.now →
    ∃ t : State, exec (.absenceDeadline r) s = .next t ∧
      t.refs.get r = { s.refs.get r with
        state := .absent
        history := []
        goodRun := 0
        badRun := 0
        lastPulse := none
        expected := none
        absence := none
        goodLabel := none
        lastE := none
        waiting := none
        ready := none
        disagree := 0
        lastD := none } ∧
      State.otherRefs r s t ∧ State.wrote (.source (.refState r (s.refs.get r).state .absent)) s t ∧
      State.toldStatus (.reference r .absent) s t ∧ State.differsIn [.refs, .trail, .ports, .lastCause] s t

/-- BAD and MISSING verdicts are recorded, and at the absence deadline the reference is forgotten (R21, R23 to R26). -/
def Obligations.PoorAndAbsentSecondsAreRecorded : Prop :=
  BadAndMissingSecondsAreRecorded ∧ AbsenceDeadlineForgetsTheReference

/-- READ_EVIDENCE answers each reference's state, selection mark, last e, span, disagreement count and last d, and returns the three
spans to absent (R34). -/
def ReadEvidenceReturnsAndClearsTheSpans : Prop :=
  ∀ (p : Port) (tag : Tag) (s : State), s.canServe .readEvidence p tag .readEvidence →
    let block (r : RefId) : EvidenceBlock :=
      { state := (s.refs.get r).state
        selected := decide (s.steer.selection = some r)
        lastE := (s.refs.get r).lastE
        span := (s.refs.get r).span
        disagree := (s.refs.get r).disagree
        lastD := (s.refs.get r).lastD }
    Replies (.readEvidence p tag) s p (.evidence tag ⟨block .refA, block .refB, block .refC⟩) [.refs] fun t =>
      ∀ r : RefId, t.refs.get r = { s.refs.get r with span := none }

/-! ## Configuration items (section 9.8, Tables 2-8, 3-8) -/

/-- The SET_TIMING `c` of an item is served: the value sent, clamped to the item's range, is recorded in a CONFIG entry with the old
one, has the given effect, and is answered OK with the clamped indicator where clamping changed it (R163). -/
def TimingServed (c : Instr) (s : State) (p : Port) (tag : Tag) (item : TimingItem) (v : BitVec 64) (lo hi old : Int)
    (changed : List Block) (effect : Int → State → Prop) : Prop :=
  s.canServe .timing p tag (timingBody item v) →
    let x := clampInt lo hi v.toInt
    Replies c s p (.done tag .ok (decide (x ≠ v.toInt))) (.trail :: changed) fun t =>
      State.wrote (.config (.item p item.number old x (decide (x ≠ v.toInt)))) s t ∧ effect x t

/-- The profile, the priority and the cable delay of a reference, and P_win, minimum quality, D and revertive mode, are written as
clamped, and nothing else of the references changes (R35, R36, Table 2-8). -/
def ReferenceItemsAreWritten : Prop :=
  ∀ (p : Port) (tag : Tag) (v : BitVec 64) (s : State),
    (∀ r : RefId,
      TimingServed (.setTimingRefProfile p tag r v) s p tag (.refProfile r) v 0 1
        (if (s.refs.get r).profile = .strict then 0 else 1) [.refs] (fun x t => State.otherRefs r s t ∧
          t.refs.get r = { s.refs.get r with profile := if x = 0 then .strict else .lenient }) ∧
      TimingServed (.setTimingRefPriority p tag r v) s p tag (.refPriority r) v 0 3 (s.refs.get r).priority [.refs]
        (fun x t => State.otherRefs r s t ∧ t.refs.get r = { s.refs.get r with priority := x.toNat }) ∧
      TimingServed (.setTimingCableDelay p tag r v) s p tag (.cableDelay r) v (-1000000) 1000000 (s.refs.get r).cableDelay
        [.refs] (fun x t => State.otherRefs r s t ∧ t.refs.get r = { s.refs.get r with cableDelay := x })) ∧
    TimingServed (.setTimingPWin p tag v) s p tag .pWin v 100 100000 s.refCfg.pWin [.refCfg]
      (fun x t => t.refCfg = { s.refCfg with pWin := x.toNat }) ∧
    TimingServed (.setTimingMinimumQuality p tag v) s p tag .minimumQuality v 0 15 s.refCfg.minQuality [.refCfg]
      (fun x t => t.refCfg = { s.refCfg with minQuality := x.toNat }) ∧
    TimingServed (.setTimingD p tag v) s p tag .limitD v 100 1000000 s.refCfg.limitD [.refCfg]
      (fun x t => t.refCfg = { s.refCfg with limitD := x.toNat }) ∧
    TimingServed (.setTimingRevertiveMode p tag v) s p tag .revertiveMode v 0 1 (if s.refCfg.revertive then 1 else 0) [.refCfg]
      (fun x t => t.refCfg = { s.refCfg with revertive := decide (x = 1) })

/-! ## The second mark (R39 and the blocks of R8) -/

/-- The verdict that a reference hands over at a mark: a waiting one whose maturity has come, or else the ready one (R30). -/
def handedOver (x : RefRecord) (now : Ns) : Option Verdict :=
  match x.waiting with
  | some h => if h.maturity ≤ now then some h.verdict else x.ready.map HeldVerdict.verdict
  | none => x.ready.map HeldVerdict.verdict

/-- What a reference measured in the second it hands over at a mark, when that second is GOOD (R30). -/
def goodHandedOver (x : RefRecord) (now : Ns) : Option Measure :=
  match handedOver x now with
  | some (.good m) => some m
  | _ => none

/-- The GOOD second, at the mark that leads from `s` to `t`, of the reference that the mark selects. -/
def selectedGood (s t : State) : Option Measure :=
  match t.steer.selection with
  | some r => goodHandedOver (s.refs.get r) s.now
  | none => none

/-- At a second mark each monitor hands over its mature verdict (R30), the selection is re-made from states and priorities (R31), a
change of selection is entered in the trail and clears the disagreement counts (R32), and every other qualified reference is
compared with the selected one (R33). -/
def Obligations.SecondMarkSelectsAndCrossChecks : Prop :=
  ∀ (first : Bool) (s : State) (m : Nat), s.xt.markDue = some m →
    let candidate (r : RefId) : Prop := (s.refs.get r).state = .qualified ∧ 1 ≤ (s.refs.get r).priority
    ∃ t : State, exec (.secondMark first) s = .next t ∧
      (∀ r : RefId, s.refCfg.revertive = false → s.steer.selection = some r → candidate r → t.steer.selection = some r) ∧
      (s.refCfg.revertive = true ∨ (∀ r : RefId, s.steer.selection = some r → ¬ candidate r) →
        (∀ r : RefId, t.steer.selection = some r → candidate r ∧ ∀ q : RefId, candidate q →
          (s.refs.get r).priority < (s.refs.get q).priority ∨
            (s.refs.get r).priority = (s.refs.get q).priority ∧ r.code ≤ q.code) ∧
        (t.steer.selection = none → ∀ q : RefId, ¬ candidate q)) ∧
      (∀ r : RefId,
        let x := s.refs.get r
        let changed : Prop := t.steer.selection ≠ s.steer.selection
        ∃ (count : Nat) (d : Option Nat),
          t.refs.get r = { x with
            waiting := if (match x.waiting with
              | some h => decide (h.maturity ≤ s.now)
              | none => false) then none else x.waiting
            ready := none
            disagree := count
            lastD := d } ∧
          (selectedGood s t = none → (changed → count = 0 ∧ d = none) ∧ (¬ changed → count = x.disagree ∧ d = x.lastD)) ∧
          ∀ sel : Measure, selectedGood s t = some sel →
            (t.steer.selection = some r ∨ x.state ≠ .qualified → count = 0 ∧ d = none) ∧
            (t.steer.selection ≠ some r → x.state = .qualified →
              (∀ o : Measure, goodHandedOver x s.now = some o →
                d = some (o.e - sel.e).natAbs ∧
                  count = if s.refCfg.limitD < (o.e - sel.e).natAbs then min ((if t.steer.selection ≠ s.steer.selection then 0
                    else x.disagree) + 1) 3 else 0) ∧
              (goodHandedOver x s.now = none →
                (changed → count = 0 ∧ d = none) ∧ (¬ changed → count = x.disagree ∧ d = x.lastD)))) ∧
      (t.steer.selection ≠ s.steer.selection → s.trail.wIx - s.trail.k < 3800 →
        ∃ e ∈ t.trail.entries, s.trail.wIx ≤ e.seq ∧ e.body = .source (.selection s.steer.selection t.steer.selection))

/-- The loop update of R51 with the items in force at the mark, from integrator `i`: the new I and the new A. -/
def loopUpdate (w : LoopItems) (i e : Int) : Int × Int :=
  let l : Int := w.slewL
  let eLoop := clampInt (-1048576) 1048576 e
  let i' := clampInt (-l) l (i - (eLoop * w.ki).tdiv 16)
  (i', clampInt (-l) l (i' - (eLoop * w.kp).tdiv 16))

/-- The LOCKED bound of R54 for the error `e`: its size, the selected reference's stated uncertainty (0 without a message, log entry
21), U_fixed and the largest last d at count 3, saturated. -/
def lockedBound (e : Int) (t : State) : Nat :=
  let excess (r : RefId) : Nat := if (t.refs.get r).disagree = 3 then (t.refs.get r).lastD.getD 0 else 0
  let stated : Nat := match t.steer.selection with
    | some r => match (t.refs.get r).lastMessage with
      | some m => m.uncertainty
      | none => 0
    | none => 0
  min (e.natAbs + stated + t.steer.uFixed + max (max (excess .refA) (excess .refB)) (excess .refC)) 4294967295

/-- At a second mark in LOCKED or HOLDOVER the written items come into force, I and A are clamped to the new L, and then: with the
selected reference's GOOD second the state is LOCKED and the loop runs on its error; in LOCKED without one A and I stay, and
without a selection HOLDOVER begins; in HOLDOVER without one B grows by H (R48, R49, R51 to R55, R57, R60). -/
def Obligations.SecondMarkSteersInLockedAndHoldover : Prop :=
  ∀ (first : Bool) (s : State) (m : Nat), s.xt.markDue = some m → s.steer.state = .locked ∨ s.steer.state = .holdover →
    ∃ t : State, exec (.secondMark first) s = .next t ∧
      let x := s.steer
      let l : Int := x.written.slewL
      let i := clampInt (-l) l x.integ
      let a := clampInt (-l) l x.adj
      t.steer.traceable = decide (t.steer.bound ≤ x.limitM) ∧
      (∀ g : Measure, selectedGood s t = some g →
        t.steer = { x with
          state := .locked
          eHeld := some g.e
          integ := (loopUpdate x.written i g.e).1
          adj := (loopUpdate x.written i g.e).2
          bound := lockedBound g.e t
          inForce := x.written
          bEntry := t.steer.bEntry
          hSeconds := t.steer.hSeconds
          selection := t.steer.selection
          traceable := t.steer.traceable }) ∧
      (selectedGood s t = none → x.state = .locked → t.steer.selection ≠ none →
        t.steer = { x with
          integ := i
          adj := a
          bound := lockedBound (x.eHeld.getD 0) t
          inForce := x.written
          selection := t.steer.selection
          traceable := t.steer.traceable }) ∧
      (x.state = .locked → t.steer.selection = none →
        t.steer = { x with
          state := .holdover
          integ := i
          adj := i
          bEntry := x.bound
          hSeconds := 0
          inForce := x.written
          selection := none
          traceable := t.steer.traceable }) ∧
      (selectedGood s t = none → x.state = .holdover →
        let rebased : Prop := x.written.growthH ≠ x.inForce.growthH
        ∃ base n : Nat, (rebased → base = x.bound ∧ n = 1) ∧
          (¬ rebased → base = x.bEntry ∧ n = min (x.hSeconds + 1) 4294967295) ∧
          t.steer = { x with
            integ := i
            adj := a
            bEntry := base
            hSeconds := n
            bound := min (base + x.written.growthH * n) 4294967295
            inForce := x.written
            selection := t.steer.selection
            traceable := t.steer.traceable })

/-- The segment's open instant passed while it was ARMED (R96). -/
def missedAt (g : Segment) (now : Ns) : Prop :=
  g.committed = .settled .armed ∧ ∃ a : ArmedInstants, g.armed = some a ∧ a.openAt.xt ≤ now

/-- From `s` to `t`, the opening of stamping has committed a MISSED event for each arming that has passed, in the order of segment id,
and nothing else (R96). -/
def CommittedMissed (s t : State) : Prop :=
  ∃ missed : List SegEvent, t.commits = s.commits ++ missed ∧ List.Pairwise (· < ·) (missed.map fun e => e.seg.val) ∧
    ∀ e : SegEvent, e ∈ missed ↔ missedAt (s.segs.get e.seg) s.now ∧ e.after = some .idle ∧
      ∃ a : ArmedInstants, (s.segs.get e.seg).armed = some a ∧ e.kind = .missed (s.segs.get e.seg).armedDay a.openAt.xt

/-- The answers that port `p` has to the SET_TIME requests among some steps when stamping opens: each BAD_STATE (R46). -/
def withdrawnAnswers (p : Port) (steps : List PendingStep) : List Record :=
  steps.filterMap fun st => match st.origin with
    | .manual (some q) tag => if q = p then some (.done tag .badState false) else none
    | _ => none

/-- At a second mark in COLD B is at its greatest value; in FALLBACK it grows by H_ring and the loop does not run (R50, R56). At a
mark in ACQUIRE the selected reference's GOOD second is counted towards LOCKED, or asks for a step, and the third in a row enters
LOCKED, runs the loop from I = 0 and opens stamping, which answers a withdrawn SET_TIME BAD_STATE and commits a MISSED event for
each arming that has passed (R41, R42, R46, R47, R54, R96). -/
def SecondMarkSteersOutsideLockedAndHoldover : Prop :=
  ∀ (first : Bool) (s : State) (m : Nat), s.xt.markDue = some m → s.steer.stampingOpen = s.steer.state.stamps →
    s.steer.state = .cold ∨ s.steer.state = .fallback ∨ s.steer.state = .acquire →
    ∃ t : State, exec (.secondMark first) s = .next t ∧
      let x := s.steer
      let l : Int := x.written.slewL
      let i := clampInt (-l) l x.integ
      let a := clampInt (-l) l x.adj
      t.steer.traceable = decide (t.steer.bound ≤ x.limitM) ∧
      (x.state ≠ .acquire →
        t.steer = { x with
          integ := i
          adj := a
          bound := if x.state = .cold then 4294967295 else min (x.bound + x.written.growthHRing) 4294967295
          inForce := x.written
          selection := t.steer.selection
          traceable := t.steer.traceable }) ∧
      (x.state = .acquire →
        (selectedGood s t = none →
          t.steer = { x with
            lockCount := 0
            integ := i
            adj := a
            bound := 4294967295
            inForce := x.written
            selection := t.steer.selection
            traceable := t.steer.traceable }) ∧
        ∀ g : Measure, selectedGood s t = some g →
          let error := g.c - g.expected
          let e := clampInt (-1073741824) 1073741824 error
          let value := g.expected + (s.now - g.c)
          let count := (if t.steer.selection ≠ x.selection then 0 else x.lockCount) + 1
          (x.wLock < error.natAbs →
            t.steer = { x with
              lockCount := 0
              eHeld := some e
              pendingSteps := if 0 ≤ value ∧ value < 9223372036854775808 then
                  x.pendingSteps ++ [{ origin := .acquisition, value := value }]
                else x.pendingSteps
              integ := i
              adj := a
              bound := 4294967295
              inForce := x.written
              selection := t.steer.selection
              traceable := t.steer.traceable }) ∧
          (error.natAbs ≤ x.wLock → count < 3 →
            t.steer = { x with
              lockCount := count
              eHeld := some e
              integ := i
              adj := a
              bound := 4294967295
              inForce := x.written
              selection := t.steer.selection
              traceable := t.steer.traceable }) ∧
          (error.natAbs ≤ x.wLock → 3 ≤ count →
            t.steer = { x with
              state := .locked
              stampingOpen := true
              pendingSteps := []
              lockCount := 3
              acqTimer := none
              eHeld := some e
              integ := (loopUpdate x.written 0 e).1
              adj := (loopUpdate x.written 0 e).2
              bound := lockedBound e t
              inForce := x.written
              selection := t.steer.selection
              traceable := t.steer.traceable } ∧
            CommittedMissed s t ∧
            (∀ i : SegId, missedAt (s.segs.get i) s.now → (t.segs.get i).committed = .settled .idle ∧
              (t.segs.get i).armed = none ∧ (t.segs.get i).armedDay = none ∧ (t.segs.get i).defn = (s.segs.get i).defn) ∧
            (∀ i : SegId, ¬ missedAt (s.segs.get i) s.now → (t.segs.get i).committed = (s.segs.get i).committed ∧
              (t.segs.get i).armedDay = (s.segs.get i).armedDay ∧ (t.segs.get i).defn = (s.segs.get i).defn) ∧
            ∀ p : Port,
              let a := withdrawnAnswers p x.pendingSteps
              (a = [] → (t.port p).requests = (s.port p).requests ∧ (t.port p).service = (s.port p).service) ∧
              (a ≠ [] → (s.port p).responses.length + a.length < 64 →
                (t.port p).requests = (s.port p).requests.drop a.length ∧ (t.port p).service = .untaken ∧
                  ∀ r ∈ a, r ∈ (t.port p).responses) ∧
              ∀ r : Record, a = [r] → 64 ≤ (s.port p).responses.length →
                (t.port p).requests = (s.port p).requests ∧ (t.port p).service = .waiting r false))

/-- A mark that changes the timescale state or the traceable flag asks for one TIMESCALE entry, with the state, the bound and the flag
as the mark leaves them and the cause of Table 3-3, immediately before the SECOND_EVIDENCE, and raises its STATUS notice; a mark that
changes neither writes no TIMESCALE entry (R38, R57, R59). The entry has the offset and leap state that stand when it is asked for:
before the hand-over to the Leap Unit in LOCKED, and after a store is made pending elsewhere (log entries 13 and 52). -/
def SecondMarkReportsItsChange : Prop :=
  ∀ (first : Bool) (s : State) (m : Nat), s.xt.markDue = some m → s.trail.Ok → s.steer.stampingOpen = s.steer.state.stamps →
    ∃ t : State, exec (.secondMark first) s = .next t ∧
      let changed : Prop := t.steer.state ≠ s.steer.state ∨ t.steer.traceable ≠ s.steer.traceable
      let cause : TimescaleCause :=
        if t.steer.state = s.steer.state then .bound
        else match s.steer.state with
          | .acquire => .lockAchieved
          | .holdover => .referenceRegained
          | _ => .referenceLost
      (changed →
        (∃ e ∈ t.trail.entries, s.trail.wIx ≤ e.seq ∧
          e.written = s.writingTo (if t.steer.state = .locked then s else t) ∧
          e.body = .timescale s.steer.state t.steer.state cause t.steer.bound t.steer.traceable none ∧
          (s.trail.wIx - s.trail.k < 3800 → e.seq + 1 = t.trail.evidence)) ∧
        ∀ p : Port, hasStatus (.timescale cause) (t.port p)) ∧
      (¬ changed → ∀ e ∈ t.trail.entries, s.trail.wIx ≤ e.seq →
        ∀ old new c b flag d, e.body ≠ .timescale old new c b flag d)

/-- What a second mark does in COLD, FALLBACK and ACQUIRE, and how a mark reports a change (R38, R41, R42, R46, R47, R50, R56, R59, R96). -/
def Obligations.SecondMarkSteersInTheOtherStates : Prop :=
  SecondMarkSteersOutsideLockedAndHoldover ∧ SecondMarkReportsItsChange

/-- A second mark is worked once by every block: the ring is calibrated (R11), each line in SECOND_PULSE begins a pulse that ends
its width after the mark (R128), SECOND_EVIDENCE is asked for with the error used, B is offered to the summary's greatest bound and
an untraceable second counted (R59, R137), and the seconds covered are counted, with a summary in AUTO mode when the interval is
reached (R138, R139). The model's choices: whether the Trail Unit comes first is an operand (log entry 12), in COLD and FALLBACK the error is
the measured e (log entry 47), a mark is worked by
a command after the tick that reaches it (log entry 31), and an entry has the offset and leap state that stand when it is asked for
(log entry 52). -/
def Obligations.SecondMarkReachesEveryBlock : Prop :=
  ∀ (first : Bool) (s : State) (m : Nat), s.xt.markDue = some m →
    ∃ t : State, exec (.secondMark first) s = .next t ∧ t.xt = { s.xt with markDue := none } ∧
      (∀ n : Nat, s.tick.calibCount = some n → 200000000 ≤ n → n ≤ 300000000 →
        t.tick.ringIncrement = 4294967296000000000 / n ∧ t.tick.calibrated = true) ∧
      ((∀ n : Nat, s.tick.calibCount = some n → n < 200000000 ∨ 300000000 < n) →
        t.tick.ringIncrement = s.tick.ringIncrement ∧ t.tick.calibrated = s.tick.calibrated) ∧
      t.tick = { s.tick with
        ringIncrement := t.tick.ringIncrement
        calibrated := t.tick.calibrated
        calibCount := if s.tick.source = .pll ∧ s.tick.pllMonitor = .confirmed then some 0 else none } ∧
      (∀ l : Line, t.outputs.get l =
        if (s.outputs.get l).mode = .secondPulse then
          { s.outputs.get l with
            high := true
            widthInUse := (s.outputs.get l).width
            pulseEnd := some ((m + (s.outputs.get l).width * 1000 : Nat) : Int) }
        else s.outputs.get l) ∧
      (s.trail.wIx - s.trail.k < 3800 →
        ∃ e : TrailEntry, e ∈ t.trail.entries ∧ e.seq = t.trail.evidence ∧ s.trail.wIx ≤ e.seq ∧
          e.written = s.writingTo (if t.steer.state = .locked then s else t) ∧
          e.body = .secondEvidence t.steer.state t.steer.selection
            ((selectedGood s t).map fun g =>
              if s.steer.state = .acquire then clampInt (-1073741824) 1073741824 (g.c - g.expected) else g.e)
            t.steer.adj t.steer.bound t.steer.traceable) ∧
      (let seconds := min (s.trail.seconds + 1) 4294967295
       let sums : Prop := s.trail.mode = .auto ∧ s.trail.interval ≤ seconds
       let counted (c : Counters) : Counters := { c with
         maxBound := some (match c.maxBound with
           | some b => max b t.steer.bound
           | none => t.steer.bound)
         untraceable := if t.steer.traceable then c.untraceable else min (c.untraceable + 1) 4294967295 }
       let roomy : Prop := s.trail.wIx - s.trail.k < 3800
       (¬ sums → t.trail.seconds = seconds ∧ t.trail.prevSummary = s.trail.prevSummary ∧
         t.trail.counters.maxBound = (counted s.trail.counters).maxBound ∧
         t.trail.counters.untraceable = (counted s.trail.counters).untraceable ∧
         (roomy → t.trail.counters = counted s.trail.counters)) ∧
       (sums → t.trail.seconds = 0) ∧
       (sums → roomy → first = false → t.trail.counters = .zero ∧ t.trail.prevSummary + 1 = t.trail.wIx ∧
         t.newestEntry (.summary none seconds s.trail.prevSummary (counted s.trail.counters))) ∧
       (sums → roomy → first = true → t.trail.counters = counted .zero ∧ t.trail.prevSummary = s.trail.wIx ∧
         ∃ e ∈ t.trail.entries, e.seq = s.trail.wIx ∧ e.written = s.writing ∧
           e.body = .summary none seconds s.trail.prevSummary s.trail.counters)) ∧
      State.differsIn [.tick, .xt, .refs, .steer, .leap, .segs, .commits, .outputs, .trail, .ports, .lastCause] s t

/-! ## Steps, the acquisition timeout and SET_TIME (sections 3.2, 3.3) -/

/-- The LEAP entries of a pending leap whose instants XT has reached at `now`: LEAP_BEGIN at T of an insertion not yet begun, EXECUTED
at T + 10^9 of an insertion and at T of a deletion (R64; the fields Table 4-5 leaves blank are log entry 24, the begun mark log entry
23). -/
def leapEntriesAt (u : LeapUnit) (now : Ns) : List LeapEntry :=
  match u.pending with
  | none => []
  | some p =>
    (if p.leap.kind = .insert ∧ p.begun = false ∧ p.t ≤ now then
      [{ LeapEntry.blank .leapBegin with
        leap := some p.leap, source := p.source, offsetBefore := p.lOff, offsetAfter := p.lOff, t := p.t }] else []) ++
    if p.leap.kind = .insert ∧ p.t + 1000000000 ≤ now ∨ p.leap.kind = .delete ∧ p.t ≤ now then
      [{ LeapEntry.blank .executed with
        leap := some p.leap, source := p.source, offsetBefore := p.lOff
        offsetAfter := if p.leap.kind = .insert then p.lOff + 1 else p.lOff - 1, t := p.t }] else []

/-- The Leap Unit once it has acted for every instant of its pending leap that XT has reached at `now` (R64). -/
def leapActed (u : LeapUnit) (now : Ns) : LeapUnit :=
  match u.pending with
  | none => u
  | some p =>
    if p.leap.kind = .insert ∧ p.t + 1000000000 ≤ now ∨ p.leap.kind = .delete ∧ p.t ≤ now then
      { u with
        offset := if p.leap.kind = .insert then p.lOff + 1 else p.lOff - 1
        pending := none
        store := if u.store.map Leap.day = some p.leap.day then none else u.store }
    else if p.leap.kind = .insert ∧ p.t ≤ now then { u with pending := some { p with begun := true } }
    else u

/-- An applied step is the tick itself: XT takes its value with a fraction of 0 and reaches no second mark, the calibration second
is voided, the references' XT values and a pulse in progress move with it, and a TIMESCALE entry gives its cause and displacement; the
Leap Unit acts for the instants it passes, after that entry; a SET_TIME's step sets the time-set flag and is answered OK (R10, R29,
R42, R45, R64, R128). The model's choices: at most 2 ring cycles on a PLL tick (log entry 7), a second mark that was due stays so (log
entry 31), and the order of entries, notices and answer (log entries 13 and 33). -/
def Obligations.StepIsApplied : Prop :=
  ∀ (s : State) (st : PendingStep) (rest : List PendingStep), s.steer.pendingSteps = st :: rest →
    s.steer.stampingOpen = false → 0 ≤ st.value → st.value < 9223372036854775808 →
    let d := st.value - s.now
    let cause : TimescaleCause := match st.origin with
      | .acquisition => .acqStep
      | .manual _ _ => .manualStep
    let leaps := leapEntriesAt s.leap st.value
    ∃ (t : State) (n : Nat), exec .stepApplied s = .next t ∧ Ticked s t n none ∧
      t.xt = { ns := st.value.toNat, frac := 0, markDue := s.xt.markDue } ∧
      t.arb = { s.arb with grantedThisTick := false, heldSeg := none } ∧
      (∀ r : RefId, t.refs.get r = { s.refs.get r with
        lastPulse := (s.refs.get r).lastPulse.map (· + d)
        expected := (s.refs.get r).expected.map (· + d)
        absence := (s.refs.get r).absence.map (· + d)
        lastMessage := (s.refs.get r).lastMessage.map fun m => { m with arrival := m.arrival + d }
        waiting := (s.refs.get r).waiting.map (HeldVerdict.displace d)
        ready := (s.refs.get r).ready.map (HeldVerdict.displace d)
        busyUntil := (t.refs.get r).busyUntil }) ∧
      (∀ inc : Nat, ticksBy s inc → s.xt.ns + (s.xt.frac + inc) / 4294967296 < 18446744073709551616 →
        ∀ r : RefId, (t.refs.get r).busyUntil =
          (s.refs.get r).busyUntil + (st.value - ((s.xt.ns + (s.xt.frac + inc) / 4294967296 : Nat) : Int))) ∧
      (∀ l : Line, t.outputs.get l =
        if (s.outputs.get l).mode = .secondPulse then
          { s.outputs.get l with pulseEnd := (s.outputs.get l).pulseEnd.map (· + d) }
        else s.outputs.get l) ∧
      t.steer = { s.steer with
        pendingSteps := rest
        timeSet := s.steer.timeSet || decide (cause = .manualStep)
        acqTimer := if s.steer.state = .acquire then s.steer.acqTimer.map (· + 1) else s.steer.acqTimer } ∧
      t.leap = leapActed s.leap st.value ∧
      WroteAll t.writing
        (.timescale s.steer.state s.steer.state cause s.steer.bound s.steer.traceable (some d) :: leaps.map TrailBody.leap)
        s.trail t.trail ∧
      (leaps = [] → t.lastCause = s.lastCause ∧ ∀ p : Port,
        (∀ tag : Tag, st.origin = .manual (some p) tag →
          t.port p = (portTicked n (s.port p)).answered (.done tag .ok false)) ∧
        ((∀ tag : Tag, st.origin ≠ .manual (some p) tag) → t.port p = portTicked n (s.port p))) ∧
      (∀ e : LeapEntry, leaps.getLast? = some e → t.lastCause = some (.leap e.cause)) ∧
      (∀ e ∈ leaps, ∀ p : Port, hasStatus (.leap e.cause) (t.port p)) ∧
      (∀ (p : Port) (tag : Tag), st.origin = .manual (some p) tag → (s.port p).responses.length + 2 < 64 →
        .done tag .ok false ∈ (t.port p).responses ∧ (t.port p).requests = (s.port p).requests.tail ∧
          (t.port p).service = .untaken) ∧
      State.differsIn [.tick, .xt, .refs, .steer, .leap, .arb, .outputs, .freeIndex, .trail, .ports, .lastCause] s t

/-- The acquisition timeout without a set time restarts the timer; with one it enters HOLDOVER on U_manual and opens stamping, which
withdraws the pending steps, answers their SET_TIMEs BAD_STATE, and commits a MISSED event for each arming that has passed (R43, R46,
R47, R96). That the answers come before the STATUS notice is the model's choice (log entry 13). -/
def Obligations.AcquisitionTimeoutOpensStamping : Prop :=
  ∀ (s : State) (n : Nat), s.steer.state = .acquire → s.steer.stampingOpen = false → s.steer.acqTimer = some n →
    s.steer.acqTimeout * 250000000 ≤ n →
    (s.steer.timeSet = false →
      ∃ t : State, exec .acqTimeout s = .next t ∧ t.steer = { s.steer with acqTimer := some 0 } ∧ State.differsIn [.steer] s t) ∧
    (s.steer.timeSet = true →
      ∃ t : State, exec .acqTimeout s = .next t ∧
        t.steer = { s.steer with
          state := .holdover
          stampingOpen := true
          acqTimer := none
          bEntry := s.steer.uManual
          bound := s.steer.uManual
          hSeconds := 0
          traceable := decide (s.steer.uManual ≤ s.steer.limitM)
          pendingSteps := [] } ∧
        State.wrote (.timescale .acquire .holdover .acqTimeout s.steer.uManual
          (decide (s.steer.uManual ≤ s.steer.limitM)) none) s t ∧
        t.lastCause = some (.timescale .acqTimeout) ∧
        (s.steer.pendingSteps = [] → State.toldStatus (.timescale .acqTimeout) s t) ∧
        (∀ p : Port,
          let pc := s.port p
          let a := withdrawnAnswers p s.steer.pendingSteps
          (pc.responses.length + a.length ≤ 64 →
            t.port p = ({ pc with
              requests := pc.requests.drop a.length
              service := if a.isEmpty then pc.service else .untaken
              holdChanged := pc.holdChanged ||
                decide (28 ≤ pc.requests.length) != decide (28 ≤ pc.requests.length - a.length)
              responses := pc.responses ++ a } : PortCtl).notifyStatus (t.statusBody 1)) ∧
          ∀ r : Record, a = [r] → t.port p = (pc.answered r).notifyStatus (t.statusBody 1)) ∧
        (∀ i : SegId,
          (missedAt (s.segs.get i) s.now →
            t.segs.get i = { s.segs.get i with committed := .settled .idle, armed := none, armedDay := none }) ∧
          (¬ missedAt (s.segs.get i) s.now → t.segs.get i = s.segs.get i)) ∧
        CommittedMissed s t ∧
        State.differsIn [.steer, .segs, .commits, .trail, .ports, .lastCause] s t)

/-- SET_TIME is answered BAD_STATE once stamping is open and LIMIT for a value of 2^63 ns or more; otherwise it asks for a step,
restarts the lock count in ACQUIRE, and waits at the head of its queue until the step is applied (R45). -/
def Obligations.SetTimeAsksForAStep : Prop :=
  ∀ (p : Port) (tag : Tag) (seconds : BitVec 64) (s : State), s.canServe .setTime p tag (.setTime seconds) →
    (s.steer.stampingOpen = true →
      Replies (.setTime p tag seconds) s p (.done tag .badState false) [] fun _ => True) ∧
    (s.steer.stampingOpen = false → 9223372036 < seconds.toNat →
      Replies (.setTime p tag seconds) s p (.done tag .limit false) [] fun _ => True) ∧
    (s.steer.stampingOpen = false → seconds.toNat ≤ 9223372036 →
      ∃ t : State, exec (.setTime p tag seconds) s = .next t ∧
        t.steer = { s.steer with
          lockCount := if s.steer.state = .acquire then 0 else s.steer.lockCount
          pendingSteps := s.steer.pendingSteps ++
            [{ origin := .manual (some p) tag, value := ((seconds.toNat * 1000000000 : Nat) : Int) }] } ∧
        t.port p = { s.port p with service := .settingTime } ∧ State.otherPorts p s t ∧
        State.differsIn [.steer, .ports] s t)

/-- KP, KI, L, H and H_ring are written for the next second mark; W_lock, U_fixed and U_manual, and an acquisition timeout that the
timer has not reached, take effect at once. A new M recomputes the traceable flag, and a change of it is reported with cause BOUND
(R57, R60, R61, Table 3-8). That the TIMESCALE entry comes after the CONFIG entry and the notice before the answer is the model's
choice (log entry 13). -/
def SteeringItemsAreWritten : Prop :=
  ∀ (p : Port) (tag : Tag) (v : BitVec 64) (s : State),
    TimingServed (.setTimingKp p tag v) s p tag .kp v 0 1023 s.steer.written.kp [.steer]
      (fun x t => t.steer = { s.steer with written := { s.steer.written with kp := x.toNat } }) ∧
    TimingServed (.setTimingKi p tag v) s p tag .ki v 0 1023 s.steer.written.ki [.steer]
      (fun x t => t.steer = { s.steer with written := { s.steer.written with ki := x.toNat } }) ∧
    TimingServed (.setTimingL p tag v) s p tag .slewL v 1 8388608 s.steer.written.slewL [.steer]
      (fun x t => t.steer = { s.steer with written := { s.steer.written with slewL := x.toNat } }) ∧
    TimingServed (.setTimingH p tag v) s p tag .growthH v 1 65535 s.steer.written.growthH [.steer]
      (fun x t => t.steer = { s.steer with written := { s.steer.written with growthH := x.toNat } }) ∧
    TimingServed (.setTimingHRing p tag v) s p tag .growthHRing v 1 10000000 s.steer.written.growthHRing [.steer]
      (fun x t => t.steer = { s.steer with written := { s.steer.written with growthHRing := x.toNat } }) ∧
    TimingServed (.setTimingWLock p tag v) s p tag .wLock v 50 100000 s.steer.wLock [.steer]
      (fun x t => t.steer = { s.steer with wLock := x.toNat }) ∧
    TimingServed (.setTimingUFixed p tag v) s p tag .uFixed v 0 65535 s.steer.uFixed [.steer]
      (fun x t => t.steer = { s.steer with uFixed := x.toNat }) ∧
    TimingServed (.setTimingUManual p tag v) s p tag .uManual v 0 4294967295 s.steer.uManual [.steer]
      (fun x t => t.steer = { s.steer with uManual := x.toNat }) ∧
    ((∀ n : Nat, s.steer.state = .acquire → s.steer.acqTimer = some n →
        n < (clampInt 10 3600 v.toInt).toNat * 250000000) →
      TimingServed (.setTimingAcquisitionTimeout p tag v) s p tag .acquisitionTimeout v 10 3600 s.steer.acqTimeout [.steer]
        (fun x t => t.steer = { s.steer with acqTimeout := x.toNat })) ∧
    (let x := clampInt 1000 10000000 v.toInt
     let flag := decide (s.steer.bound ≤ x.toNat)
     (flag = s.steer.traceable →
       TimingServed (.setTimingM p tag v) s p tag .limitM v 1000 10000000 s.steer.limitM [.steer]
         (fun x t => t.steer = { s.steer with limitM := x.toNat })) ∧
     (flag ≠ s.steer.traceable → s.canServe .timing p tag (timingBody .limitM v) →
       ∃ t : State, exec (.setTimingM p tag v) s = .next t ∧
         t.steer = { s.steer with limitM := x.toNat, traceable := flag } ∧
         WroteAll s.writing [.config (.item p 39 s.steer.limitM x (decide (x ≠ v.toInt))),
           .timescale s.steer.state s.steer.state .bound s.steer.bound flag none] s.trail t.trail ∧
         t.lastCause = some (.timescale .bound) ∧
         t.port p = ((s.port p).notifyStatus (t.statusBody 1)).answered (.done tag .ok (decide (x ≠ v.toInt))) ∧
         (∀ q : Port, q ≠ p → t.port q = (s.port q).notifyStatus (t.statusBody 1)) ∧
         State.differsIn [.steer, .trail, .ports, .lastCause] s t))

/-- An acquisition timeout set at or below the running timer expires at once: without a set time the timer restarts, with one HOLDOVER
begins and stamping opens (R43, R61). -/
def ShorterAcquisitionTimeoutExpiresAtOnce : Prop :=
  ∀ (p : Port) (tag : Tag) (v : BitVec 64) (s : State) (n : Nat), s.steer.state = .acquire → s.steer.stampingOpen = false →
    s.steer.acqTimer = some n → (clampInt 10 3600 v.toInt).toNat * 250000000 ≤ n →
    (s.steer.timeSet = false →
      TimingServed (.setTimingAcquisitionTimeout p tag v) s p tag .acquisitionTimeout v 10 3600 s.steer.acqTimeout [.steer]
        (fun x t => t.steer = { s.steer with acqTimeout := x.toNat, acqTimer := some 0 })) ∧
    (s.steer.timeSet = true → s.canServe .timing p tag (timingBody .acquisitionTimeout v) →
      ∃ t : State, exec (.setTimingAcquisitionTimeout p tag v) s = .next t ∧
        t.steer = { s.steer with
          acqTimeout := (clampInt 10 3600 v.toInt).toNat
          state := .holdover
          stampingOpen := true
          acqTimer := none
          bEntry := s.steer.uManual
          bound := s.steer.uManual
          hSeconds := 0
          traceable := decide (s.steer.uManual ≤ s.steer.limitM)
          pendingSteps := [] } ∧
        t.newestEntry (.timescale .acquire .holdover .acqTimeout s.steer.uManual
          (decide (s.steer.uManual ≤ s.steer.limitM)) none) ∧
        t.lastCause = some (.timescale .acqTimeout) ∧
        CommittedMissed s t ∧
        State.differsIn [.steer, .segs, .commits, .trail, .ports, .lastCause] s t)

/-- The SET_TIMING items of the Steering Unit are served (R57, R60, R61, Table 3-8). -/
def Obligations.SteeringItemsAreServed : Prop :=
  SteeringItemsAreWritten ∧ ShorterAcquisitionTimeoutExpiresAtOnce

/-! ## Leap Unit (chapter 4) -/

/-- Q of a leap at the end of UTC day `day` under the offset `off` (R63). -/
def dayEndInstant (day : Nat) (off : Int) : Ns := ((((day + 1) * 86400 : Nat) : Int) + off) * 1000000000

/-- T of a leap (R63). -/
def changeInstant (l : Leap) (off : Int) : Ns :=
  if l.kind = .insert then dayEndInstant l.day off else dayEndInstant l.day off - 1000000000

/-- The offset check and the range check of R67. -/
abbrev leapInRange (l : Leap) (off : Int) : Prop :=
  (if l.kind = .insert then off + 1 ≤ 127 else -128 ≤ off - 1) ∧
    dayEndInstant l.day off + 1000000000 < 9223372036854775808

/-- The record of a leap made pending from the held offset `off` (R63). -/
def pendingOf (l : Leap) (off : Int) (source : LeapSource) : PendingLeap where
  leap := l
  lOff := off
  t := changeInstant l off
  q := dayEndInstant l.day off
  source := source
  begun := false

/-- One second later for an insertion, one second earlier for a deletion (Table 4-4). -/
def leapShift (l : Leap) : Int := if l.kind = .insert then 1000000000 else -1000000000

/-- A segment whose armed instants and drawn close at or above the threshold have moved by the amount; all of them without a
threshold (R68). -/
def movedSegment (threshold : Option Ns) (amount : Int) (g : Segment) : Segment :=
  let move (x : Ns) : Ns := match threshold with
    | some t => if t ≤ x then x + amount else x
    | none => x + amount
  { g with
    armed := g.armed.map fun a =>
      { openAt := { a.openAt with xt := move a.openAt.xt }
        callAt := { a.callAt with xt := move a.callAt.xt }
        closeAt := { a.closeAt with xt := move a.closeAt.xt } }
    drawn := g.drawn.map fun d => { d with closeXt := move d.closeXt } }

/-- At T of a pending insertion LEAP_BEGIN is reported; at T + 10^9 of an insertion, or at T of a deletion, the leap is carried out:
the held offset changes by one, the record goes, and a store of the same day is emptied (R64). The mark that LEAP_BEGIN has been made
is the model's (log entry 23), and so is what the entries hold in the fields that Table 4-5 does not name (log entry 24). -/
def Obligations.LeapIsBegunAndCarriedOut : Prop :=
  (∀ (s : State) (p : PendingLeap), s.leap.pending = some p → p.leap.kind = .insert → p.begun = false → p.t ≤ s.now →
    ∃ t : State, exec .leapBegin s = .next t ∧ t.leap = { s.leap with pending := some { p with begun := true } } ∧
      State.wrote (.leap { LeapEntry.blank .leapBegin with
        leap := some p.leap, source := p.source, offsetBefore := p.lOff, offsetAfter := p.lOff, t := p.t }) s t ∧
      State.toldStatus (.leap .leapBegin) s t ∧ State.differsIn [.leap, .trail, .ports, .lastCause] s t) ∧
  ∀ (s : State) (p : PendingLeap), s.leap.pending = some p →
    (p.leap.kind = .insert ∧ p.begun = true ∧ p.t + 1000000000 ≤ s.now ∨ p.leap.kind = .delete ∧ p.t ≤ s.now) →
    ∃ t : State, exec .leapExecuted s = .next t ∧
      let after := if p.leap.kind = .insert then p.lOff + 1 else p.lOff - 1
      t.leap = { s.leap with
        offset := after
        pending := none
        store := if s.leap.store.map Leap.day = some p.leap.day then none else s.leap.store } ∧
      State.wrote (.leap { LeapEntry.blank .executed with
        leap := some p.leap, source := p.source, offsetBefore := p.lOff, offsetAfter := after, t := p.t }) s t ∧
      State.toldStatus (.leap .executed) s t ∧ State.differsIn [.leap, .trail, .ports, .lastCause] s t

/-- The LEAP entry of a record made pending (R67, Table 4-5; L_off as both offsets is log entry 24). -/
def pendingEntry (l : Leap) (off : Int) (source : LeapSource) : LeapEntry :=
  { LeapEntry.blank .pending with
    leap := some l
    source := source
    offsetBefore := off
    offsetAfter := off
    t := changeInstant l off
    threshold := dayEndInstant l.day off
    amount := leapShift l }

/-- The LEAP entry of a record withdrawn (R67, Table 4-5; T, and L_off as both offsets, are log entry 24). -/
def withdrawnEntry (r : PendingLeap) : LeapEntry :=
  { LeapEntry.blank .withdrawn with
    leap := some r.leap
    source := r.source
    offsetBefore := r.lOff
    offsetAfter := r.lOff
    t := r.t
    threshold := r.q + leapShift r.leap
    amount := -leapShift r.leap }

/-- A segment whose instants the withdrawal of `r` moves back (Table 4-4). -/
def unmovedSegment (r : PendingLeap) (g : Segment) : Segment :=
  movedSegment (some (r.q + leapShift r.leap)) (-leapShift r.leap) g

/-- The leap a target names passes the checks of R67 under the held offset `off`. -/
abbrev leapPasses (l : Leap) (off : Int) (now : Ns) : Prop := leapInRange l off ∧ now < changeInstant l off

/-- The pending record that making `pending` agree with a target leaves (R67). -/
def agreedRecord (pending : Option PendingLeap) (target : Option Leap) (off : Int) (now : Ns) (source : LeapSource) :
    Option PendingLeap :=
  if target = pending.map PendingLeap.leap then pending
  else match target with
    | some l => if leapPasses l off now then some (pendingOf l off source) else none
    | none => none

/-- The LEAP entries of making `pending` agree with a target: WITHDRAWN, then PENDING or the entry of the first check that fails (R67;
L_off as both offsets of OUT_OF_RANGE is log entry 24). -/
def agreedEntries (pending : Option PendingLeap) (target : Option Leap) (off : Int) (now : Ns) (source : LeapSource) :
    List LeapEntry :=
  if target = pending.map PendingLeap.leap then []
  else
    (match pending with
      | some r => [withdrawnEntry r]
      | none => []) ++
    match target with
    | some l =>
      if ¬ leapInRange l off then
        [{ LeapEntry.blank .outOfRange with leap := some l, source := source, offsetBefore := off, offsetAfter := off }]
      else if leapPasses l off now then [pendingEntry l off source]
      else [{ LeapEntry.blank .late with leap := some l, source := source }]
    | none => []

/-- A segment after the shifts of making `pending` agree with a target (R67, R68). -/
def agreedSegment (pending : Option PendingLeap) (target : Option Leap) (off : Int) (now : Ns) (g : Segment) : Segment :=
  if target = pending.map PendingLeap.leap then g
  else
    let back := match pending with
      | some r => unmovedSegment r g
      | none => g
    match target with
    | some l => if leapPasses l off now then movedSegment (some (dayEndInstant l.day off)) (leapShift l) back else back
    | none => back

/-- The bodies of the LEAP entries among the entries of trail sequence `from_` and above. -/
def leapEntriesFrom (from_ : Nat) (t : TrailUnit) : List LeapEntry :=
  t.entries.filterMap fun e => if from_ ≤ e.seq then
    match e.body with
    | .leap x => some x
    | _ => none
  else none

/-- A change from LOCKED to FALLBACK or HOLDOVER, with a leap in the store and no leap second in progress, makes the pending record
agree with the store, with its shifts, its entries and their notices (R67, R71). The LEAP entries come before the TIMESCALE entry of
the change (the model's choice, log entry 13). -/
def LeavingLockedTakesTheStore : Prop :=
  ∀ (c : Instr) (s : State) (l : Leap), s.steer.state = .locked → s.leap.store = some l → s.leapNow ≠ .inLeap →
    let leaves : Prop := (∃ (first : Bool) (m : Nat), c = .secondMark first ∧ s.xt.markDue = some m) ∨
      s.tick.mainMonitor = .present ∧ s.tick.pllMonitor = .confirmed ∧
        (c = .mainAbsent ∧ s.tick.mainGap = some 0 ∨ c = .pllLockFallen ∧ s.tick.returnPhase = .none)
    let entries := agreedEntries s.leap.pending (some l) s.leap.offset s.now .request
    leaves → s.trail.Ok → s.trail.wIx - s.trail.k < 3800 →
      ∃ t : State, exec c s = .next t ∧ (t.steer.state ≠ .locked →
        t.leap.pending = agreedRecord s.leap.pending (some l) s.leap.offset s.now .request ∧
        t.leap.offset = s.leap.offset ∧ t.leap.store = some l ∧
        (∀ i : SegId, t.segs.get i = agreedSegment s.leap.pending (some l) s.leap.offset s.now (s.segs.get i)) ∧
        leapEntriesFrom s.trail.wIx t.trail = entries ∧
        ∀ e ∈ entries, e.cause = .withdrawn ∨ e.cause = .pending → ∀ p : Port, hasStatus (.leap e.cause) (t.port p))

/-- SET_LEAP is refused in a leap second and for a leap that fails a check of R67. In LOCKED it is only stored, and compared with the
reference's announcement (R70). In another state it becomes pending, after another leap pending has been withdrawn; the armed instants
move at each change, and each is reported (R67, R68, R69). The order of notices and answer (log entry 13), the fields that Table 4-5
leaves blank and the source REQUEST of a DISAGREE (log entry 24), and that the WITHDRAWN entry has the offset and leap state that stand
between the two changes (log entry 52), are the model's choices. -/
def SetLeapStoresOrMakesPending : Prop :=
  ∀ (p : Port) (tag : Tag) (day : BitVec 32) (s : State) (l : Leap) (c : Instr),
    (c = .setLeapInsert p tag day ∧ l = { kind := .insert, day := day.toNat } ∧ s.canServe .leap p tag (.setLeap day .insert) ∨
      c = .setLeapDelete p tag day ∧ l = { kind := .delete, day := day.toNat } ∧
        s.canServe .leap p tag (.setLeap day .delete)) →
    let inLeap : Prop := s.leapNow = .inLeap
    let q := dayEndInstant l.day s.leap.offset
    (inLeap → Replies c s p (.done tag .badState false) [] fun _ => True) ∧
    (¬ inLeap → ¬ leapInRange l s.leap.offset → Replies c s p (.done tag .limit false) [] fun _ => True) ∧
    (¬ inLeap → leapInRange l s.leap.offset → changeInstant l s.leap.offset ≤ s.now →
      Replies c s p (.done tag .tooLate false) [] fun _ => True) ∧
    (¬ inLeap → leapInRange l s.leap.offset → s.now < changeInstant l s.leap.offset → s.steer.state = .locked →
      Replies c s p (.done tag .ok false) [.leap, .trail] fun t =>
        t.leap = { s.leap with store := some l } ∧
        (s.leap.announced = .unknown ∨ s.leap.announced = .leap l → t.trail = s.trail) ∧
        (s.leap.announced = .nothing → State.wrote (.leap { LeapEntry.blank .disagree with
          leap := some l, source := .request }) s t) ∧
        ∀ other : Leap, s.leap.announced = .leap other → other ≠ l → State.wrote (.leap { LeapEntry.blank .disagree with
          leap := some l, second := some other, source := .request }) s t) ∧
    (¬ inLeap → leapInRange l s.leap.offset → s.now < changeInstant l s.leap.offset → s.steer.state ≠ .locked →
      ((∃ r : PendingLeap, s.leap.pending = some r ∧ r.leap = l) →
        Replies c s p (.done tag .ok false) [.leap] fun t => t.leap = { s.leap with store := some l }) ∧
      (s.leap.pending = none →
        ∃ t : State, exec c s = .next t ∧
          t.leap = { s.leap with store := some l, pending := some (pendingOf l s.leap.offset .request) } ∧
          (∀ i : SegId, t.segs.get i = movedSegment (some q) (leapShift l) (s.segs.get i)) ∧
          State.wrote (.leap (pendingEntry l s.leap.offset .request)) s t ∧
          t.lastCause = some (.leap .pending) ∧
          t.port p = ((s.port p).notifyStatus (t.statusBody 1)).answered (.done tag .ok false) ∧
          (∀ o : Port, o ≠ p → t.port o = (s.port o).notifyStatus (t.statusBody 1)) ∧
          State.differsIn [.leap, .segs, .trail, .ports, .lastCause] s t) ∧
      (∀ r : PendingLeap, s.leap.pending = some r → r.leap ≠ l →
        ∃ t : State, exec c s = .next t ∧
          t.leap = { s.leap with store := some l, pending := some (pendingOf l s.leap.offset .request) } ∧
          (∀ i : SegId, t.segs.get i = movedSegment (some q) (leapShift l) (unmovedSegment r (s.segs.get i))) ∧
          (∃ u : TrailUnit,
            TrailUnit.Wrote s.trail u (.leap (withdrawnEntry r)) ⟨s.now, s.arb.seq, s.leap.offset, .none⟩ ∧
            TrailUnit.Wrote u t.trail (.leap (pendingEntry l s.leap.offset .request)) t.writing) ∧
          t.lastCause = some (.leap .pending) ∧
          (∀ o : Port, hasStatus (.leap .withdrawn) (t.port o) ∧ hasStatus (.leap .pending) (t.port o)) ∧
          ((s.port p).responses.length + 2 < 64 → .done tag .ok false ∈ (t.port p).responses ∧
            (t.port p).requests = (s.port p).requests.tail ∧ (t.port p).service = .untaken) ∧
          State.differsIn [.leap, .segs, .trail, .ports, .lastCause] s t))

/-- SET_LEAP WITHDRAW empties the store. Outside LOCKED a pending leap is withdrawn with it, and the instants that its pending had
moved return (Table 4-4); in LOCKED the record stays (R67, R69). That the notice comes before the answer is log entry 13. -/
def SetLeapWithdrawEmptiesTheStore : Prop :=
  ∀ (p : Port) (tag : Tag) (day : BitVec 32) (s : State), s.canServe .leap p tag (.setLeap day .withdraw) →
    (s.leapNow = .inLeap → Replies (.setLeapWithdraw p tag day) s p (.done tag .badState false) [] fun _ => True) ∧
    (s.leapNow ≠ .inLeap → s.steer.state = .locked ∨ s.leap.pending = none →
      Replies (.setLeapWithdraw p tag day) s p (.done tag .ok false) [.leap] fun t =>
        t.leap = { s.leap with store := none }) ∧
    ∀ r : PendingLeap, s.leapNow ≠ .inLeap → s.steer.state ≠ .locked → s.leap.pending = some r →
      ∃ t : State, exec (.setLeapWithdraw p tag day) s = .next t ∧
        t.leap = { s.leap with store := none, pending := none } ∧
        (∀ i : SegId, t.segs.get i = unmovedSegment r (s.segs.get i)) ∧
        State.wrote (.leap (withdrawnEntry r)) s t ∧
        t.lastCause = some (.leap .withdrawn) ∧
        t.port p = ((s.port p).notifyStatus (t.statusBody 1)).answered (.done tag .ok false) ∧
        State.differsIn [.leap, .segs, .trail, .ports, .lastCause] s t

/-- SET_LEAP with each of its three actions, and the store taken when LOCKED is left (R67 to R71). -/
def Obligations.SetLeapStoresPendsOrWithdraws : Prop :=
  LeavingLockedTakesTheStore ∧ SetLeapStoresOrMakesPending ∧ SetLeapWithdrawEmptiesTheStore

/-- The UTC day of a message: its scale seconds less its offset, by 86,400, truncated (R66; a negative result is taken as day 0, log
entry 30). -/
def messageDay (m : Message) : Nat := (((m.seconds : Int) - m.offset).tdiv 86400).toNat

/-- The announcement that a message derives (R66). -/
def derivedAnnouncement (m : Message) : Announcement :=
  match m.announcement with
  | .none => .nothing
  | .insert => .leap { kind := .insert, day := messageDay m }
  | .delete => .leap { kind := .delete, day := messageDay m }

/-- At a second mark that is LOCKED before and after, with the selected reference's GOOD second and message and no leap second in
progress, the held offset takes the message's when no leap is pending; a derived announcement that differs from the held one, which a
change of selection makes UNKNOWN, becomes the held one; the pending record is made to agree with it, with the shifts of the armed
instants; and it is compared with the store. The LEAP entries and notices follow (R31, R66, R67, R68, R70, R72; the fields that
Table 4-5 leaves blank are log entry 24, the order of entries log entry 13). -/
def Obligations.LockedMarkFollowsTheReference : Prop :=
  ∀ (first : Bool) (s : State) (n : Nat), s.xt.markDue = some n → s.steer.state = .locked → s.leapNow ≠ .inLeap →
    s.trail.Ok → s.trail.wIx - s.trail.k < 3800 →
    ∃ t : State, exec (.secondMark first) s = .next t ∧
      ∀ (r : RefId) (g : Measure) (m : Message), t.steer.selection = some r → selectedGood s t = some g →
        (s.refs.get r).lastMessage = some m →
        let u := s.leap
        let off := if u.pending = none then m.offset else u.offset
        let delta := (off - u.offset) * 1000000000
        let corrected : List LeapEntry := if off = u.offset then [] else
          [{ LeapEntry.blank .offsetCorrected with
            source := .reference, offsetBefore := u.offset, offsetAfter := off, amount := delta }]
        let derived := derivedAnnouncement m
        let target : Option Leap := match derived with
          | .leap l => some l
          | _ => none
        let same : Prop := derived = u.announced ∧ s.steer.selection = some r
        let disagree : List LeapEntry := match u.store with
          | some x => if derived = .leap x then [] else
            [{ LeapEntry.blank .disagree with leap := some x, second := target, source := .request }]
          | none => []
        t.leap.offset = off ∧ t.leap.announced = derived ∧ t.leap.store = u.store ∧
        (same →
          t.leap.pending = u.pending ∧ (∀ i : SegId, t.segs.get i = movedSegment none delta (s.segs.get i)) ∧
          leapEntriesFrom s.trail.wIx t.trail = corrected) ∧
        (¬ same →
          t.leap.pending = agreedRecord u.pending target off s.now .reference ∧
          (∀ i : SegId, t.segs.get i =
            agreedSegment u.pending target off s.now (movedSegment none delta (s.segs.get i))) ∧
          leapEntriesFrom s.trail.wIx t.trail =
            corrected ++ agreedEntries u.pending target off s.now .reference ++ disagree) ∧
        ∀ e ∈ leapEntriesFrom s.trail.wIx t.trail,
          e.cause = .offsetCorrected ∨ e.cause = .withdrawn ∨ e.cause = .pending →
          ∀ p : Port, hasStatus (.leap e.cause) (t.port p)

/-- A written UTC offset is refused in a leap second and where it would move a pending leap's result out of range. Another is recorded
in a CONFIG entry; one that differs from the held offset corrects it, moves every armed instant by the change and a pending leap with
it; and the instants of a pending leap that XT has then reached are acted on at once (R64, R72, R73). The model's choices: the clear
clamped indicator of a refusal (log entry 27), BAD_STATE where both refusals hold (log entry 48), the order of entries, notices and answer (log entries 13 and 33), the fields that
Table 4-5 leaves blank (log entry 24), and that the CONFIG entry has the offset and leap state before the change, the LEAP entries those
after it (log entry 52). -/
def Obligations.UtcOffsetIsCorrected : Prop :=
  ∀ (p : Port) (tag : Tag) (v : BitVec 64) (s : State), s.canServe .timing p tag (timingBody .utcOffset v) →
    let c : Instr := .setTimingUtcOffset p tag v
    let x := clampInt (-128) 127 v.toInt
    let clamped := decide (x ≠ v.toInt)
    let fits (r : PendingLeap) : Prop := if r.leap.kind = .insert then x + 1 ≤ 127 else -128 ≤ x - 1
    let delta := (x - s.leap.offset) * 1000000000
    let moved : LeapUnit := if x = s.leap.offset then s.leap else { s.leap with
      offset := x
      pending := s.leap.pending.map fun r => { r with lOff := x, t := r.t + delta, q := r.q + delta } }
    let leaps : List LeapEntry :=
      (if x = s.leap.offset then [] else
        [{ LeapEntry.blank .offsetCorrected with
          source := .request, offsetBefore := s.leap.offset, offsetAfter := x, amount := delta }]) ++ leapEntriesAt moved s.now
    (s.leapNow = .inLeap → Replies c s p (.done tag .badState false) [] fun _ => True) ∧
    (s.leapNow ≠ .inLeap → (∃ r : PendingLeap, s.leap.pending = some r ∧ ¬ fits r) →
      Replies c s p (.done tag .limit false) [] fun _ => True) ∧
    (s.leapNow ≠ .inLeap → (∀ r : PendingLeap, s.leap.pending = some r → fits r) →
      ∃ t : State, exec c s = .next t ∧ t.leap = leapActed moved s.now ∧
        (∀ i : SegId, t.segs.get i = movedSegment none delta (s.segs.get i)) ∧
        (∃ u : TrailUnit, TrailUnit.Wrote s.trail u (.config (.item p 48 s.leap.offset x clamped)) s.writing ∧
          WroteAll t.writing (leaps.map TrailBody.leap) u t.trail) ∧
        (leaps = [] → t.lastCause = s.lastCause ∧ State.answeredBy p (.done tag .ok clamped) s t) ∧
        (∀ e : LeapEntry, leaps.getLast? = some e → t.lastCause = some (.leap e.cause)) ∧
        (∀ e : LeapEntry, leaps = [e] →
          t.port p = ((s.port p).notifyStatus (t.statusBody 1)).answered (.done tag .ok clamped) ∧
          ∀ q : Port, q ≠ p → t.port q = (s.port q).notifyStatus (t.statusBody 1)) ∧
        (∀ e ∈ leaps, ∀ q : Port, hasStatus (.leap e.cause) (t.port q)) ∧
        ((s.port p).responses.length + 3 < 64 → .done tag .ok clamped ∈ (t.port p).responses ∧
          (t.port p).requests = (s.port p).requests.tail ∧ (t.port p).service = .untaken) ∧
        State.differsIn [.leap, .segs, .trail, .ports, .lastCause] s t)

/-! ## Stamps, captures and readings of the time (chapters 5 and 7) -/

/-- The offset and the leap state read at XT `x` (Table 4-2). -/
def table42 (u : LeapUnit) (x : Ns) : Int × LeapState :=
  match u.pending with
  | none => (u.offset, .none)
  | some p =>
    if p.leap.kind = .insert then
      if x < p.t then (p.lOff, .insertPending)
      else if x < p.t + 1000000000 then (p.lOff, .inLeap)
      else (p.lOff + 1, .none)
    else if x < p.t then (p.lOff, .deletePending)
    else (p.lOff - 1, .none)

/-- The values that a reading of the time carries, with the sequence number `seq` (Tables 5-3, 5-6, 7-3). -/
def readingAt (s : State) (seq : Nat) : TimeReading where
  epoch := s.epoch.epoch
  seq := seq
  xt := s.xt.ns
  offset := (table42 s.leap s.xt.ns).1
  leapState := (table42 s.leap s.xt.ns).2
  state := s.steer.state
  traceable := s.steer.traceable
  bound := s.steer.bound

/-- A trail entry takes from the moment of its writing XT, the sequence counter, and the offset and leap state that Table 4-2 reads
at that XT; it carries IN_LEAP exactly when its XT lies in an inserted leap second (R63, Table 8-1; log entry 52). -/
def EntriesTakeTheReadingsOfTheirXt : Prop :=
  ∀ s : State,
    s.writing = {
      xt := s.xt.ns
      seq := s.arb.seq
      offset := (table42 s.leap s.xt.ns).1
      leapState := (table42 s.leap s.xt.ns).2 } ∧
    (s.writing.leapState = .inLeap ↔ ∃ r : PendingLeap, s.leap.pending = some r ∧ r.leap.kind = .insert ∧ r.t ≤ s.now ∧
      s.now < r.t + 1000000000) ∧
    ∀ t : State, s.writingTo t =
      ⟨s.xt.ns, s.arb.seq, (table42 t.leap s.xt.ns).1, (table42 t.leap s.xt.ns).2⟩

/-- READ_TIME answers the values of Table 5-6 as they stand at the taking, and changes nothing else (R91, R63). -/
def ReadTimeAnswersTheReading : Prop :=
  ∀ (p : Port) (tag : Tag) (s : State), s.canServe .readTime p tag .readTime →
    Replies (.readTime p tag) s p (.time tag (readingAt s s.arb.seq)) [] fun _ => True

/-- A STAMP is answered BAD_INDEX for a segment above 63 and NOT_READY while stamping is closed; otherwise it stays at the head,
presented to the arbiter (R85, Table 5-4). -/
def StampIsCheckedAndPresented : Prop :=
  ∀ (p : Port) (tag : Tag) (seg : Option Byte) (s : State), s.canServe .stamp p tag (.stamp seg) →
    ((∃ b : Byte, seg = some b ∧ 63 < b.toNat) →
      Replies (.stamp p tag seg) s p (.done tag .badIndex false) [] fun _ => True) ∧
    ((∀ b : Byte, seg = some b → b.toNat ≤ 63) → s.steer.stampingOpen = false →
      Replies (.stamp p tag seg) s p (.done tag .notReady false) [] fun _ => True) ∧
    ((∀ b : Byte, seg = some b → b.toNat ≤ 63) → s.steer.stampingOpen = true →
      ∃ (t : State) (g : Option SegId), exec (.stamp p tag seg) s = .next t ∧
        (seg = none → g = none) ∧ (∀ b : Byte, seg = some b → ∃ i : SegId, g = some i ∧ i.val = b.toNat) ∧
        t.port p = { s.port p with service := .stamping tag g } ∧ State.otherPorts p s t ∧ State.differsIn [.ports] s t)

/-- STAMP and READ_TIME at the head of a queue, and the offset and leap state that a trail entry carries (R63, R85, R91). -/
def Obligations.StampIsPresentedAndReadTimeAnswered : Prop :=
  StampIsCheckedAndPresented ∧ ReadTimeAnswersTheReading ∧ EntriesTakeTheReadingsOfTheirXt

/-- A STAMP is granted when no segment event is presented and no capture is eligible, no HIGH port's STAMP stands before a NORMAL one,
and its port is the first of its class from the pointer up. The counter rises by one, the STAMPED record carries what stands at
the grant and enters the response queue, the service is complete, the stamp is counted and the class's pointer passes the port
(R75, R79, R80, R82, R83, R87, R88, Table 5-5). -/
def Obligations.StampGrantFormsTheRecord : Prop :=
  ∀ (p : Port) (tag : Tag) (seg : Option SegId) (s : State), stampTurn s p → (s.port p).service = .stamping tag seg →
    let high := highClass (s.port p).role
    let phase (st : SegState) : PhaseTag := match st with
      | .idle => .outOfCycle
      | .armed => .outOfCycle
      | .opened => .opened
      | .call => .call
      | .random => .random
      | .suspended => .suspended
      | .closed => .closed
    ∃ t : State, exec (.stampGrant p) s = .next t ∧
      t.arb = { s.arb with
        seq := s.arb.seq + 1
        grantedThisTick := true
        highPtr := if high then p + 1 else s.arb.highPtr
        normalPtr := if high then s.arb.normalPtr else p + 1 } ∧
      t.port p = { (s.port p).served with
        responses := (s.port p).responses ++ [.stamped tag
          { time := readingAt s (s.arb.seq + 1)
            evidence := s.trail.evidence
            segPart := seg.map fun i =>
              { seg := i, phase := phase (s.segs.get i).state, cycle := (s.segs.get i).cycle } }] } ∧
      State.otherPorts p s t ∧
      t.trail = { s.trail with counters := { s.trail.counters with
        stamps := s.trail.counters.stamps.set p (min (s.trail.counters.stamps.get p + 1) 4294967295) } } ∧
      State.differsIn [.arb, .trail, .ports] s t

/-- A capture is granted when no segment event is presented and its line is the first eligible one from the pointer up. The counter
rises by one, the CAPTURED notice with the oldest edge enters the mapped port's response queue, the record leaves the FIFO, the
overflow count returns to 0, and the capture is counted (R79, R80, R81, R83, R123, Table 7-3).That an entry of a full response
queue freed at a tick serves a capture at that tick is log entry 54. -/
def Obligations.CaptureGrantFormsTheNotice : Prop :=
  ∀ (l : Line) (e : EdgeRecord) (rest : List EdgeRecord) (s : State), captureTurn s l → (s.capture.get l).fifo = e :: rest →
    ∃ t : State, exec (.captureGrant l) s = .next t ∧
      t.arb = { s.arb with seq := s.arb.seq + 1, grantedThisTick := true, capturePtr := l + 1 } ∧
      t.port (s.capture.get l).port = { s.port (s.capture.get l).port with
        responses := (s.port (s.capture.get l).port).responses ++ [.captured
          { line := l
            edge := e.kind
            edgeXt := e.xt
            time := readingAt s (s.arb.seq + 1)
            overflow := (s.capture.get l).overflow }] } ∧
      State.otherPorts (s.capture.get l).port s t ∧
      t.capture.get l = { s.capture.get l with fifo := rest, overflow := 0 } ∧
      (∀ k : Line, k ≠ l → t.capture.get k = s.capture.get k) ∧
      t.trail = { s.trail with counters := { s.trail.counters with
        captures := min (s.trail.counters.captures + 1) 4294967295 } } ∧
      State.differsIn [.arb, .capture, .trail, .ports] s t

/-- A selected edge is kept at the tail of its line's FIFO while stamping is open, the mapped port is UP and fewer than four records
are held; otherwise it is discarded and counted. An edge that is not selected changes nothing (R121, R122, Table 7-2). -/
def CaptureEdgeIsKeptOrCounted : Prop :=
  ∀ (l : Line) (kind : EdgeKind) (s : State),
    let x := s.capture.get l
    let selected : Prop := x.edgeSel = .both ∨ x.edgeSel = .rising ∧ kind = .rising ∨ x.edgeSel = .falling ∧ kind = .falling
    let kept : Prop := s.steer.stampingOpen = true ∧ (s.port x.port).up = true ∧ x.fifo.length < 4
    (¬ selected → exec (.captureEdge l kind) s = .next s) ∧
    (selected → kept →
      ∃ t : State, exec (.captureEdge l kind) s = .next t ∧
        t.capture.get l = { x with fifo := x.fifo ++ [{ kind := kind, xt := s.now }] } ∧
        (∀ k : Line, k ≠ l → t.capture.get k = s.capture.get k) ∧ State.differsIn [.capture] s t) ∧
    (selected → ¬ kept →
      ∃ t : State, exec (.captureEdge l kind) s = .next t ∧
        t.capture.get l = { x with overflow := min (x.overflow + 1) 255 } ∧
        (∀ k : Line, k ≠ l → t.capture.get k = s.capture.get k) ∧
        t.trail = { s.trail with counters := { s.trail.counters with
          overflows := min (s.trail.counters.overflows + 1) 4294967295 } } ∧
        State.differsIn [.capture, .trail] s t)

/-- CAPTURE_SET makes its checks in order; an accepted one installs the new edge selection and the new mapped port, a new port
emptying the FIFO into the overflow counts, with a CONFIG entry for each field that changes (R125). That the entry of the edge
selection comes before that of the mapped port is the model's choice (log entry 13). -/
def CaptureSetChangesTheLine : Prop :=
  ∀ (p : Port) (tag : Tag) (line edge port : Byte) (s : State), s.headIs p tag (.captureSet line edge port) = true →
    let c : Instr := .captureSet p tag line edge port
    let remap := (s.port p).role.has .remap
    (7 < line.toNat ∨ 7 < port.toNat ∧ port.toNat ≠ 255 → Replies c s p (.done tag .badIndex false) [] fun _ => True) ∧
    (line.toNat ≤ 7 → port.toNat ≤ 7 ∨ port.toNat = 255 → 3 < edge.toNat → edge.toNat ≠ 255 →
      Replies c s p (.done tag .malformed false) [] fun _ => True) ∧
    ∀ (l : Line) (sel : EdgeSel) (q : Port),
      l.val = line.toNat →
      (edge.toNat = 255 ∧ sel = (s.capture.get l).edgeSel ∨ edge.toNat = 0 ∧ sel = .off ∨ edge.toNat = 1 ∧ sel = .rising ∨
        edge.toNat = 2 ∧ sel = .falling ∨ edge.toNat = 3 ∧ sel = .both) →
      (port.toNat = 255 ∧ q = (s.capture.get l).port ∨ port.toNat = q.val) →
      let x := s.capture.get l
      let allowed : Prop := (port.toNat ≠ 255 → remap = true) ∧
        (edge.toNat ≠ 255 → remap = true ∨ (s.port p).role.has .ownCaptures = true ∧ x.port = p)
      (¬ allowed → Replies c s p (.done tag .noRight false) [] fun _ => True) ∧
      (allowed → Replies c s p (.done tag .ok false) [.capture, .trail] fun t =>
        t.capture.get l =
          { edgeSel := sel
            port := q
            fifo := if q = x.port then x.fifo else []
            overflow := if q = x.port then x.overflow else min (x.overflow + x.fifo.length) 255 } ∧
        (∀ k : Line, k ≠ l → t.capture.get k = s.capture.get k) ∧
        (sel = x.edgeSel → q = x.port → t.trail = s.trail) ∧
        (sel ≠ x.edgeSel → q = x.port →
          State.wrote (.config (.item p (256 + l.val) x.edgeSel.code sel.code false)) s t) ∧
        (sel ≠ x.edgeSel → q ≠ x.port →
          ∃ u : TrailUnit,
            TrailUnit.Wrote s.trail u (.config (.item p (256 + l.val) x.edgeSel.code sel.code false)) s.writing ∧
            TrailUnit.Wrote
              { u with counters := { u.counters with overflows := min (u.counters.overflows + x.fifo.length) 4294967295 } }
              t.trail (.config (.item p (264 + l.val) x.port.val q.val false)) s.writing) ∧
        (sel = x.edgeSel → q ≠ x.port →
          TrailUnit.Wrote
            { s.trail with counters := { s.trail.counters with
              overflows := min (s.trail.counters.overflows + x.fifo.length) 4294967295 } }
            t.trail (.config (.item p (264 + l.val) x.port.val q.val false)) s.writing))

/-- Edges on a capture line, and CAPTURE_SET (R121, R122, R125). -/
def Obligations.CaptureLinesKeepEdgesAndAreSet : Prop :=
  CaptureEdgeIsKeptOrCounted ∧ CaptureSetChangesTheLine

/-! ## Event output lines (chapter 7) -/

/-- At its pulse end a line becomes low; at its armed instant a line takes the armed level (R128, R130). -/
def OutputInstantsAreTaken : Prop :=
  (∀ (l : Line) (x : Ns) (s : State), (s.outputs.get l).pulseEnd = some x → x ≤ s.now →
    ∃ t : State, exec (.pulseEnd l) s = .next t ∧
      t.outputs.get l = { s.outputs.get l with high := false, pulseEnd := none } ∧
      (∀ k : Line, k ≠ l → t.outputs.get k = s.outputs.get k) ∧ State.differsIn [.outputs] s t) ∧
  ∀ (l : Line) (a : LevelAt) (s : State), (s.outputs.get l).armed = some a → a.xt ≤ s.now →
    ∃ t : State, exec (.atInstantFire l) s = .next t ∧
      t.outputs.get l = { s.outputs.get l with high := a.high, armed := none } ∧
      (∀ k : Line, k ≠ l → t.outputs.get k = s.outputs.get k) ∧ State.differsIn [.outputs] s t

/-- Some segment raises line `l` in CLOSE_FOLLOW: it is CLOSED, its close record is DRAWN or RELEASED, and its definition's output set
includes the line (R129). -/
def someSegmentRaises (s : State) (l : Line) : Prop :=
  ∃ (i : SegId) (r : CloseRecord) (d : Definition), (s.segs.get i).state = .closed ∧ (s.segs.get i).closeRec = some r ∧
    (r.outcome = .drawn ∨ r.outcome = .released) ∧ (s.segs.get i).defn = some d ∧ d.outputs.getLsbD l.val = true

/-- From `s` to `t`, an OUTPUT_SET of mode `mode` has been served: the width is stored clamped, the line is `new`, a CONFIG entry is
written unless the write equals what the line holds, and the answer carries the clamped indicator (R127; what a line holds outside
AT_INSTANT is its level and no instant, log entries 17 and 18). -/
def OutputServed (c : Instr) (s : State) (p : Port) (tag : Tag) (f : OutputFields) (l : Line) (new : OutputLine) : Prop :=
  let old := s.outputs.get l
  let w := clampNat 1 1000000 f.width.toNat
  let equal : Prop := new.mode = old.mode ∧ w = old.width ∧ new.heldInstant = old.heldInstant
  Replies c s p (.done tag .ok (decide (w ≠ f.width.toNat))) [.outputs, .trail] fun t =>
    t.outputs.get l = new ∧ (∀ k : Line, k ≠ l → t.outputs.get k = s.outputs.get k) ∧ (equal → t.trail = s.trail) ∧
    (¬ equal → State.wrote (.config (.output p l old.mode new.mode old.heldLevel new.heldLevel old.width w old.heldXt
      new.heldXt (decide (w ≠ f.width.toNat)))) s t)

/-- OUTPUT_SET in each of its four modes, its refusals among them (R127, R128, R129, R130). -/
def OutputSetPutsTheLineInItsMode : Prop :=
  ∀ (p : Port) (tag : Tag) (f : OutputFields) (s : State),
    let w := clampNat 1 1000000 f.width.toNat
    let asks (c : Instr) (m : OutputMode) : Prop := Instr.asked c = some (p, tag, .outputSet m f) ∧
      s.canServe .schedule p tag (.outputSet m f)
    (∀ (c : Instr) (m : OutputMode), asks c m → 7 < f.line.toNat →
      Replies c s p (.done tag .badIndex false) [] fun _ => True) ∧
    (asks (.outputSetAtInstant p tag f) .atInstant → f.line.toNat ≤ 7 → 1 < f.level.toNat →
      Replies (.outputSetAtInstant p tag f) s p (.done tag .malformed false) [] fun _ => True) ∧
    ∀ l : Line, l.val = f.line.toNat →
      let o := s.outputs.get l
      (asks (.outputSetOff p tag f) .off → OutputServed (.outputSetOff p tag f) s p tag f l
        { o with mode := .off, high := false, width := w, pulseEnd := none, armed := none, heldInstant := none }) ∧
      (asks (.outputSetSecondPulse p tag f) .secondPulse → o.mode = .secondPulse →
        OutputServed (.outputSetSecondPulse p tag f) s p tag f l { o with width := w }) ∧
      (asks (.outputSetSecondPulse p tag f) .secondPulse → o.mode ≠ .secondPulse →
        OutputServed (.outputSetSecondPulse p tag f) s p tag f l
          { o with mode := .secondPulse, high := false, width := w, pulseEnd := none, armed := none, heldInstant := none }) ∧
      (asks (.outputSetCloseFollow p tag f) .closeFollow →
        ∃ high : Bool, (high = true ↔ someSegmentRaises s l) ∧ OutputServed (.outputSetCloseFollow p tag f) s p tag f l
          { o with mode := .closeFollow, high := high, width := w, pulseEnd := none, armed := none, heldInstant := none }) ∧
      (asks (.outputSetAtInstant p tag f) .atInstant → f.level.toNat ≤ 1 →
        let a : LevelAt := { high := decide (f.level.toNat = 1), xt := (f.instant.toNat : Int) }
        OutputServed (.outputSetAtInstant p tag f) s p tag f l
          { o with
            mode := .atInstant
            high := if a.xt ≤ s.now then a.high else o.high
            width := w
            pulseEnd := none
            armed := if a.xt ≤ s.now then none else some a
            heldInstant := some a })

/-- OUTPUT_SET, and the ends of pulses and armed instants (R127 to R130). -/
def Obligations.OutputLinesTakeTheirModesAndInstants : Prop :=
  OutputSetPutsTheLineInItsMode ∧ OutputInstantsAreTaken

/-! ## Auction segments (chapter 6) -/

/-- From `s` to `t`, segment `i` has the record `g` and one event of it has joined the commit list (R94). -/
def Committed1 (s t : State) (i : SegId) (g : Segment) (kind : SegEventKind) (after : Option SegState) : Prop :=
  t.segs.get i = g ∧ State.otherSegs i s t ∧ t.commits = s.commits ++ [{ seg := i, kind := kind, after := after }]

/-- While stamping is open and no request event of the segment waits, the instant that the committed state waits for is taken once XT
has reached it: it gets its taken mark and its event is committed; the drawn close commits an END, and the committed state is ENDING
(R94, R95, Table 6-5). That the grant of a request event holds its segment's instants to the next tick is log entry 46. -/
def Obligations.DueInstantsAreTakenAndCommitted : Prop :=
  ∀ (i : SegId) (s : State), s.steer.stampingOpen = true → noRequestWaits s i →
    let g := s.segs.get i
    (∀ a : ArmedInstants, g.armed = some a →
      (g.committed = .settled .armed ∨ g.committed = .settled .closed → a.openAt.xt ≤ s.now → a.openAt.taken = false →
        ∃ t : State, exec (.openInstantDue i) s = .next t ∧ State.differsIn [.segs, .commits] s t ∧
          Committed1 s t i
            { g with
              committed := .settled .opened
              armed := some { a with openAt := { a.openAt with taken := true } } } .opening (some .opened)) ∧
      (g.committed = .settled .opened → a.callAt.xt ≤ s.now → a.callAt.taken = false →
        ∃ t : State, exec (.callInstantDue i) s = .next t ∧ State.differsIn [.segs, .commits] s t ∧
          Committed1 s t i
            { g with
              committed := .settled .call
              armed := some { a with callAt := { a.callAt with taken := true } } } .call (some .call)) ∧
      (g.committed = .settled .call → a.closeAt.xt ≤ s.now → a.closeAt.taken = false →
        ∃ t : State, exec (.armedCloseDue i) s = .next t ∧ State.differsIn [.segs, .commits] s t ∧
          Committed1 s t i
            { g with
              committed := .settled .random
              armed := some { a with closeAt := { a.closeAt with taken := true } } } .draw (some .random))) ∧
    ∀ d : Draw, g.drawn = some d → g.committed = .settled .random → d.closeXt ≤ s.now →
      ∃ t : State, exec (.drawnCloseDue i) s = .next t ∧ State.differsIn [.segs, .commits] s t ∧
        Committed1 s t i { g with committed := .ending } .ending none

/-- EXTEND, RELEASE and HALT are judged on the committed state: an accepted one commits its event and is answered OK; BAD_INDEX,
BAD_STATE, TOO_LATE and LIMIT answer the others and change nothing (R106, R108, R109). -/
def Obligations.CycleRequestsAreJudgedOnTheCommittedState : Prop :=
  ∀ (p : Port) (tag : Tag) (seg : Byte) (s : State) (c : Instr),
    Instr.needs c = some .schedule →
    let asks (body : ReqBody) : Prop := Instr.asked c = some (p, tag, body) ∧ s.canServe .schedule p tag body
    let refused (code : ResultCode) : Prop := Replies c s p (.done tag code false) [] fun _ => True
    let accepted (i : SegId) (kind : SegEventKind) (st : SegState) : Prop :=
      Replies c s p (.done tag .ok false) [.segs, .commits] fun t =>
        Committed1 s t i { s.segs.get i with committed := .settled st } kind (some st)
    (asks (.extend seg) ∨ asks (.release seg) ∨ asks (.halt seg) → 63 < seg.toNat → refused .badIndex) ∧
    ∀ i : SegId, i.val = seg.toNat →
      let g := s.segs.get i
      let full : Prop := 64 ≤ s.commits.length
      let used := g.extensions + s.commits.countP fun e => e.seg == i && (match e.kind with
        | .extend _ => true
        | _ => false)
      let inCall : Prop := g.committed = .settled .call ∨ g.committed = .settled .random ∨ g.committed = .settled .suspended
      let spent : Prop := (s.profiles.get g.profile).maxExt ≤ used
      (asks (.extend seg) →
        (g.committed = .settled .idle ∨ g.committed = .settled .armed ∨ g.committed = .settled .opened → refused .badState) ∧
        (g.committed = .settled .closed ∨ g.committed = .ending → refused .tooLate) ∧
        (inCall → spent ∨ full → refused .limit) ∧
        (inCall → ¬ spent → ¬ full → accepted i (.extend p) .call)) ∧
      (asks (.release seg) →
        (g.committed ≠ .settled .suspended → refused .badState) ∧
        (g.committed = .settled .suspended → full → refused .limit) ∧
        (g.committed = .settled .suspended → ¬ full → accepted i (.release p) .closed)) ∧
      (asks (.halt seg) →
        (g.committed = .settled .idle ∨ g.committed = .settled .armed ∨ g.committed = .settled .closed →
          refused .badState) ∧
        (g.committed = .ending → refused .tooLate) ∧
        (g.committed = .settled .opened ∨ inCall → full → refused .limit) ∧
        (g.committed = .settled .opened ∨ inCall → ¬ full → accepted i (.halt p) .closed))

/-- A time of a UTC day converts to XT with the held offset and a pending leap, and is out of range below 0 or from 2^63 ns (R65). -/
def TimesOfDayConvertToXt : Prop :=
  ∀ (u : LeapUnit) (day tod : Nat),
    let utc : Int := ((day * 86400000000000 + tod : Nat) : Int)
    let after (p : PendingLeap) : Prop := (((p.leap.day + 1) * 86400 : Nat) : Int) * 1000000000 ≤ utc
    ∃ x : Ns,
      (u.pending = none → x = utc + u.offset * 1000000000) ∧
      (∀ p : PendingLeap, u.pending = some p →
        (¬ after p → x = utc + u.offset * 1000000000) ∧
        (after p → p.leap.kind = .insert → x = utc + u.offset * 1000000000 + 1000000000) ∧
        (after p → p.leap.kind = .delete → x = utc + u.offset * 1000000000 - 1000000000)) ∧
      (0 ≤ x → x < 9223372036854775808 → u.convert day tod = some x) ∧
      (x < 0 ∨ 9223372036854775808 ≤ x → u.convert day tod = none)

/-- A SEGMENT_WRITE or SEGMENT_SWAP is refused before its definition is looked at for an index that names nothing and in the call, the
end and a waiting RELEASE or HALT; and for a definition out of range, with an instant passed, or with a full commit list (R111). A
revision of an open cycle is refused for another field changed, a time out of range, a call time passed, or a full commit list
(R113); that a close out of range comes before a call time passed is the model's order (log entry 55). -/
def SegmentWriteIsChecked : Prop :=
  ∀ (p : Port) (tag : Tag) (seg profile : Byte) (d : Definition) (s : State) (c : Instr),
    (c = .segmentWrite p tag seg profile d ∧ s.canServe .schedule p tag (.segmentWrite seg profile d) ∨
      c = .segmentSwap p tag seg profile d ∧ s.canServe .schedule p tag (.segmentSwap seg profile d)) →
    let refused (code : ResultCode) : Prop := Replies c s p (.done tag code false) [] fun _ => True
    let empty : Prop := d.openTime = 0 ∧ d.callTime = 0 ∧ d.closeTime = 0
    let inRange : Prop := d.openTime.toNat < 86400000000000 ∧ d.callTime.toNat < 86400000000000 ∧
      d.closeTime.toNat < 86400000000000 ∧ d.openTime.toNat < d.callTime.toNat ∧ d.callTime.toNat < d.closeTime.toNat ∧
      d.repeats.toNat ≤ 127
    (63 < seg.toNat ∨ 3 < profile.toNat → refused .badIndex) ∧
    ∀ (i : SegId) (k : ProfileId), i.val = seg.toNat → k.val = profile.toNat →
      let g := s.segs.get i
      let ends : Prop := ∃ e ∈ s.commits, e.seg = i ∧ ((∃ q, e.kind = .release q) ∨ ∃ q, e.kind = .halt q)
      let closedToWrites : Prop := g.committed = .settled .call ∨ g.committed = .settled .random ∨ g.committed = .ending ∨
        g.committed = .settled .suspended ∨ g.committed = .settled .closed ∧ ends
      let open_ : Prop := g.committed = .settled .opened
      let full : Prop := 64 ≤ s.commits.length
      (closedToWrites → refused .badState) ∧
      (¬ closedToWrites → empty → open_ → refused .badState) ∧
      (empty → g.committed = .settled .armed → full → refused .limit) ∧
      (¬ closedToWrites → ¬ empty → ¬ inRange → refused .limit) ∧
      (¬ closedToWrites → inRange → ¬ open_ → s.leap.arm d.firstDay.toNat d = none → refused .limit) ∧
      (∀ a : ArmedInstants, ¬ closedToWrites → inRange → ¬ open_ → s.leap.arm d.firstDay.toNat d = some a →
        (a.openAt.xt ≤ s.now ∨ a.callAt.xt ≤ s.now ∨ a.closeAt.xt ≤ s.now → refused .tooLate) ∧
        (s.now < a.openAt.xt → s.now < a.callAt.xt → s.now < a.closeAt.xt → full → refused .limit)) ∧
      (∀ (old : Definition) (day : Nat) (a : ArmedInstants), open_ → inRange → g.defn = some old → g.armedDay = some day →
        g.armed = some a → d = { old with callTime := d.callTime, closeTime := d.closeTime } → k = g.profile →
        (s.leap.convert day d.callTime.toNat = none ∨ s.leap.convert day d.closeTime.toNat = none → refused .limit) ∧
        ∀ call close : Ns, s.leap.convert day d.callTime.toNat = some call → s.leap.convert day d.closeTime.toNat = some close →
          (call ≤ s.now → refused .tooLate) ∧ (s.now < call → full → refused .limit)) ∧
      (∀ old : Definition, open_ → inRange → g.defn = some old →
        d.firstDay ≠ old.firstDay ∨ d.openTime ≠ old.openTime ∨ d.hold ≠ old.hold ∨ d.subscribers ≠ old.subscribers ∨
          d.outputs ≠ old.outputs ∨ d.repeats ≠ old.repeats ∨ k ≠ g.profile → refused .badState)

/-- The conversion of a definition's times and the checks on a write of it (R65, R111, R113; log entry 55). -/
def Obligations.SegmentWriteConvertsAndChecks : Prop :=
  TimesOfDayConvertToXt ∧ SegmentWriteIsChecked

/-- Each line in CLOSE_FOLLOW is high exactly when some segment raises it, and the other lines are as before (R129). -/
def LinesFollow (s t : State) : Prop :=
  ∀ l : Line, ∃ high : Bool, (high = true ↔ someSegmentRaises t l) ∧
    t.outputs.get l = if (s.outputs.get l).mode = .closeFollow then { s.outputs.get l with high := high } else s.outputs.get l

/-- The record of segment `i` as a SEGMENT response carries it (R115). -/
def recordRead (s : State) (i : SegId) : SegmentBody where
  seg := i
  defn := (s.segs.get i).defn
  profile := (s.segs.get i).profile
  state := (s.segs.get i).state
  committed := (s.segs.get i).committed
  extensions := (s.segs.get i).extensions
  armedDay := (s.segs.get i).armedDay
  armed := (s.segs.get i).armed
  cycle := (s.segs.get i).cycle
  lastOpen := (s.segs.get i).lastOpen
  lastCall := (s.segs.get i).lastCall
  lastClose := (s.segs.get i).lastClose
  closeRec := (s.segs.get i).closeRec

/-- An accepted SEGMENT_WRITE installs its definition and commits an ARM, a REVISE of the open cycle, or a DISARM, or removes the
definition of an IDLE or CLOSED segment with an entry at once, and is answered OK; SEGMENT_SWAP does the same and is answered the
record as it stood (R111 to R114). The model's choices: the action SWAP of an entry without an event (log entry 37), the profile
number that stays (log entry 38), and an entry that carries nothing more of an empty definition (log entries 42 and 43). -/
def Obligations.SegmentWriteTakesEffectAtTheTaking : Prop :=
  ∀ (p : Port) (tag : Tag) (seg profile : Byte) (d : Definition) (s : State) (c : Instr) (swap : Bool) (i : SegId)
      (k : ProfileId),
    (c = .segmentWrite p tag seg profile d ∧ swap = false ∧ s.canServe .schedule p tag (.segmentWrite seg profile d) ∨
      c = .segmentSwap p tag seg profile d ∧ swap = true ∧ s.canServe .schedule p tag (.segmentSwap seg profile d)) →
    i.val = seg.toNat → k.val = profile.toNat →
    let g := s.segs.get i
    let answer : Record := if swap then .segment tag (recordRead s i) else .done tag .ok false
    let empty : Prop := d.openTime = 0 ∧ d.callTime = 0 ∧ d.closeTime = 0
    let inRange : Prop := d.closeTime.toNat < 86400000000000 ∧ d.openTime.toNat < d.callTime.toNat ∧
      d.callTime.toNat < d.closeTime.toNat ∧ d.repeats.toNat ≤ 127
    let ends : Prop := ∃ e ∈ s.commits, e.seg = i ∧ ((∃ q, e.kind = .release q) ∨ ∃ q, e.kind = .halt q)
    (∀ a : ArmedInstants, inRange → s.commits.length < 64 →
      (g.committed = .settled .idle ∨ g.committed = .settled .armed ∨ g.committed = .settled .closed ∧ ¬ ends) →
      s.leap.arm d.firstDay.toNat d = some a → s.now < a.openAt.xt → s.now < a.callAt.xt → s.now < a.closeAt.xt →
      Replies c s p answer [.segs, .commits, .outputs] fun t =>
        let after : SegState := if g.committed = .settled .closed then .closed else .armed
        Committed1 s t i
          { g with
            committed := .settled after
            profile := k
            defn := some d
            armedDay := some d.firstDay.toNat
            armed := some a
            extensions := 0 }
          (.arm swap p (some d.firstDay.toNat) (some a)) (some after) ∧ LinesFollow s t) ∧
    (∀ (old : Definition) (day : Nat) (a : ArmedInstants) (call close : Ns), g.committed = .settled .opened → inRange →
      s.commits.length < 64 → g.defn = some old → g.armedDay = some day → g.armed = some a → k = g.profile →
      d = { old with callTime := d.callTime, closeTime := d.closeTime } →
      s.leap.convert day d.callTime.toNat = some call → s.leap.convert day d.closeTime.toNat = some close → s.now < call →
      Replies c s p answer [.segs, .commits, .outputs] fun t =>
        Committed1 s t i
          { g with
            committed := .settled .opened
            defn := some d
            armed := some { a with callAt := { xt := call, taken := false }, closeAt := { xt := close, taken := false } } }
          (.revise swap p a.callAt.xt a.closeAt.xt call close) (some .opened) ∧ LinesFollow s t) ∧
    (empty → g.committed = .settled .armed → s.commits.length < 64 →
      Replies c s p answer [.segs, .commits, .outputs] fun t =>
        Committed1 s t i { g with committed := .settled .idle, defn := none, armedDay := none, armed := none }
          (.disarm swap p g.armedDay g.armed) (some .idle) ∧ LinesFollow s t) ∧
    (empty → (g.committed = .settled .idle ∨ g.committed = .settled .closed ∧ ¬ ends) →
      Replies c s p answer [.segs, .trail, .outputs] fun t =>
        t.segs.get i = { g with defn := none, armedDay := none, armed := none } ∧ State.otherSegs i s t ∧
          State.wrote (.segment i.val (.write swap g.profile none none none none) (some p) 0) s t ∧ LinesFollow s t)

/-- SEGMENT_READ answers the record without the draw and changes nothing; an id above 63 is answered BAD_INDEX (R115). -/
def SegmentReadAnswersTheRecord : Prop :=
  ∀ (p : Port) (tag : Tag) (seg : Byte) (s : State), s.canServe .schedule p tag (.segmentRead seg) →
    (63 < seg.toNat → Replies (.segmentRead p tag seg) s p (.done tag .badIndex false) [] fun _ => True) ∧
    ∀ i : SegId, i.val = seg.toNat →
      Replies (.segmentRead p tag seg) s p (.segment tag (recordRead s i)) [] fun _ => True

/-- A draw that stands is disclosed by no request: from two states that differ in their draws and in nothing else, every request
leaves the ports' queues, the lines, the trail and the commit list alike (R100, R115). -/
def Obligations.RequestsDoNotDiscloseTheDraw : Prop :=
  ∀ (c : Instr) (p : Port) (tag : Tag) (body : ReqBody) (s : State) (segs : Bank 64 Segment) (t : State),
    Instr.asked c = some (p, tag, body) →
    (∀ i : SegId, ∃ d : Option Draw, segs.get i = { s.segs.get i with drawn := d }) → exec c s = .next t →
    ∃ t' : State, exec c (s.withSegs segs) = .next t' ∧ t'.ports = t.ports ∧ t'.outputs = t.outputs ∧ t'.trail = t.trail ∧
      t'.commits = t.commits

/-- PROFILE_WRITE clamps and installs the three fields and records them, unless a segment that uses the profile is in its call
(R116, Table 6-4; that R116's test alone decides, beside R99, is log entry 49). -/
def ProfileWriteInstallsClampedFields : Prop :=
  ∀ (p : Port) (tag : Tag) (profile maxExt : Byte) (ext : BitVec 16) (window : BitVec 32) (s : State),
    s.canServe .schedule p tag (.profileWrite profile maxExt ext window) →
    let c : Instr := .profileWrite p tag profile maxExt ext window
    (3 < profile.toNat → Replies c s p (.done tag .badIndex false) [] fun _ => True) ∧
    ∀ k : ProfileId, k.val = profile.toNat →
      let busy : Prop := ∃ i : SegId, (s.segs.get i).profile = k ∧
        ((s.segs.get i).state = .call ∨ (s.segs.get i).state = .random ∨ (s.segs.get i).state = .suspended ∨
          (s.segs.get i).committed = .settled .call ∨ (s.segs.get i).committed = .settled .random ∨
          (s.segs.get i).committed = .settled .suspended ∨ (s.segs.get i).committed = .ending)
      let new : SegProfile :=
        { window := min window.toNat 600000000, extLength := clampNat 1 3600 ext.toNat, maxExt := min maxExt.toNat 15 }
      let clamped := decide (new ≠ { window := window.toNat, extLength := ext.toNat, maxExt := maxExt.toNat })
      (busy → Replies c s p (.done tag .badState false) [] fun _ => True) ∧
      (¬ busy → Replies c s p (.done tag .ok clamped) [.profiles, .trail] fun t =>
        t.profiles.get k = new ∧ (∀ j : ProfileId, j ≠ k → t.profiles.get j = s.profiles.get j) ∧
        State.wrote (.segment k.val (.profile (s.profiles.get k) new clamped) (some p) 0) s t)

/-- SEGMENT_READ and PROFILE_WRITE (R115, R116). -/
def Obligations.SegmentReadAndProfileWriteAreServed : Prop :=
  SegmentReadAnswersTheRecord ∧ ProfileWriteInstallsClampedFields

/-- The segment that the grant of the oldest committed event holds to the next tick: that of a request event (R95, log entry 46). -/
def heldAfter (s : State) : Option SegId :=
  match s.commits.head? with
  | none => none
  | some e => match e.kind with
    | .arm .. => some e.seg
    | .revise .. => some e.seg
    | .disarm .. => some e.seg
    | .missed .. => none
    | .opening => none
    | .call => none
    | .draw => none
    | .ending => none
    | .extend _ => some e.seg
    | .release _ => some e.seg
    | .halt _ => some e.seg

/-- The grant of the oldest committed event, of segment `i`: it takes the next number and leaves the list, the segment has the record
`g`, the entry is written, each subscriber in force has the notice, and the CLOSE_FOLLOW lines are computed anew (R83, R94, R105,
R118). Entry and notice hold the offset and leap state of their XT (R63; log entry 52). -/
def SegmentGranted (s t : State) (i : SegId) (g : Segment) (entry : TrailBody) (event : SegEventCode) (newClose : Option Ns)
    (closed : Option CloseRecord) : Prop :=
  t.arb = { s.arb with seq := s.arb.seq + 1, grantedThisTick := true, heldSeg := heldAfter s } ∧ t.commits = s.commits.tail ∧
    t.segs.get i = g ∧ State.otherSegs i s t ∧ TrailUnit.Wrote s.trail t.trail entry { s.writing with seq := s.arb.seq + 1 } ∧
    (∀ p : Port, t.port p =
      if (match g.defn with
        | some d => d.subscribers.getLsbD p.val
        | none => false) then
        (s.port p).notifySegment
          { epoch := s.epoch.epoch
            seg := i
            event := event
            after := g.state
            fromSet := false
            count := 1
            cycle := g.cycle
            extensions := g.extensions
            seq := s.arb.seq + 1
            xt := s.now
            offset := (table42 s.leap s.now).1
            leapState := (table42 s.leap s.now).2
            newClose := newClose
            lastOpen := g.lastOpen
            lastCall := g.lastCall
            lastClose := g.lastClose
            closeRec := closed }
      else s.port p) ∧
    LinesFollow s t

/-- The grants of ARM, REVISE, DISARM and MISSED give the segment the state recorded at the commit and report what the commit
recorded (R94, R96, R105, R111, R112, R113). That the entries of ARM and REVISE carry the definition and profile as they stand at the
grant is log entry 20, and that of a DISARM its profile number log entry 38. -/
def Obligations.ArmingGrantsTakeTheRecordedState : Prop :=
  ∀ (s : State) (i : SegId) (st : SegState),
    let g := s.segs.get i
    let n := s.arb.seq + 1
    let frame (t : State) : Prop := State.differsIn [.arb, .segs, .commits, .outputs, .trail, .ports] s t
    (∀ swap port day armed, segmentTurn s { seg := i, kind := .arm swap port day armed, after := some st } →
      ∃ t : State, exec .armGrant s = .next t ∧ frame t ∧ SegmentGranted s t i { g with state := st }
        (.segment i.val (.write swap g.profile day g.defn armed none) (some port) n) .arm none none) ∧
    (∀ swap port oldCall oldClose newCall newClose,
      segmentTurn s { seg := i, kind := .revise swap port oldCall oldClose newCall newClose, after := some st } →
      ∃ t : State, exec .reviseGrant s = .next t ∧ frame t ∧ SegmentGranted s t i { g with state := st }
        (.segment i.val
          (.write swap g.profile g.armedDay g.defn
            (g.armed.map fun a => { a with callAt := ⟨newCall, false⟩, closeAt := ⟨newClose, false⟩ })
            (some (oldCall, oldClose))) (some port) n) .revise none none) ∧
    (∀ swap port day armed, segmentTurn s { seg := i, kind := .disarm swap port day armed, after := some st } →
      ∃ t : State, exec .disarmGrant s = .next t ∧ frame t ∧ SegmentGranted s t i { g with state := st }
        (.segment i.val (.write swap g.profile day none armed none) (some port) n) .disarm none none) ∧
    ∀ day openXt, segmentTurn s { seg := i, kind := .missed day openXt, after := some st } →
      ∃ t : State, exec .missedGrant s = .next t ∧ frame t ∧ SegmentGranted s t i { g with state := st }
        (.segment i.val (.missed day openXt) none n) .missed none none

/-- The grants of OPEN, CALL and DRAW carry the cycle on: OPEN counts it and removes the close record; DRAW takes the next value of
the random source and sets the drawn close from the armed close and the window, disclosing none of it (R98, R99, R100, R101). -/
def Obligations.CycleGrantsOpenCallAndDraw : Prop :=
  ∀ (s : State) (i : SegId) (st : SegState),
    let g := s.segs.get i
    let n := s.arb.seq + 1
    (segmentTurn s { seg := i, kind := .opening, after := some st } →
      ∃ t : State, exec .openGrant s = .next t ∧ State.differsIn [.arb, .segs, .commits, .outputs, .trail, .ports] s t ∧
        SegmentGranted s t i
          { g with state := st, cycle := (g.cycle + 1) % 4294967296, closeRec := none, lastOpen := n }
          (.segment i.val (.opened ((g.cycle + 1) % 4294967296) g.armedDay g.armed) none n) .opened none none) ∧
    ∀ a : ArmedInstants, g.armed = some a →
      (segmentTurn s { seg := i, kind := .call, after := some st } →
        ∃ t : State, exec .callGrant s = .next t ∧ State.differsIn [.arb, .segs, .commits, .outputs, .trail, .ports] s t ∧
          SegmentGranted s t i { g with state := st, lastCall := n }
            (.segment i.val (.call g.cycle a.closeAt.xt) none n) .call none none) ∧
      (segmentTurn s { seg := i, kind := .draw, after := some st } →
        let raw := Config.randomDraw s.drawIndex
        let w := (s.profiles.get g.profile).window
        let r := raw.toNat * w / 4294967296
        ∃ t : State, exec .drawGrant s = .next t ∧ t.drawIndex = s.drawIndex + 1 ∧ (w = 0 → r = 0) ∧ (0 < w → r < w) ∧
          State.differsIn [.arb, .segs, .commits, .drawIndex, .outputs, .trail, .ports] s t ∧
          SegmentGranted s t i
            { g with
              state := st
              drawn := some { closeXt := a.closeAt.xt + ((r * 1000 : Nat) : Int), r := r, raw := raw } }
            (.draw i g.cycle w a.closeAt.xt n) .random none none)

/-- What the end of a cycle of day `day` arms next: the first of the following days, as many as repeat gives, whose open instant lies
above XT, each day passed over counting as skipped and spending one repeat; or nothing, with repeat 0 (R103). -/
def NextCycle (s : State) (d : Definition) (day : Nat) (next : Option (Nat × ArmedInstants)) (left skipped : Nat) : Prop :=
  (∀ j : Nat, j < skipped → ∃ a : ArmedInstants, s.leap.arm (day + 1 + j) d = some a ∧ a.openAt.xt ≤ s.now) ∧
    match next with
    | some (day', a) => day' = day + 1 + skipped ∧ s.leap.arm day' d = some a ∧ s.now < a.openAt.xt ∧
        left + skipped + 1 = d.repeats.toNat
    | none => left = 0 ∧ skipped ≤ d.repeats.toNat ∧
        (skipped = d.repeats.toNat ∨ s.leap.arm (day + 1 + skipped) d = none)

/-- The grant of an event that ends the cycle of segment `i`: its close record, the removal of its instants and draw, the next cycle
that repeat arms, and its CLOSE entry and notice (R103, Table 6-3). -/
def CycleEnded (s t : State) (i : SegId) (committed : Committed) (outcome : CloseOutcome) (closeXt : Ns) (r : Option Nat)
    (draw : Option Draw) (voided : Bool) (port : Option Port) (event : SegEventCode) : Prop :=
  let g := s.segs.get i
  let n := s.arb.seq + 1
  ∀ (d : Definition) (day : Nat), g.defn = some d → g.armedDay = some day →
    ∃ (next : Option (Nat × ArmedInstants)) (left skipped : Nat), NextCycle s d day next left skipped ∧
      let record : CloseRecord :=
        { cycle := g.cycle
          outcome := outcome
          closeXt := closeXt
          closeSeq := n
          r := r
          extensions := g.extensions
          traceable := s.steer.traceable
          bound := s.steer.bound }
      SegmentGranted s t i
        { g with
          state := .closed
          committed := committed
          closeRec := some record
          lastClose := n
          extensions := 0
          drawn := none
          armedDay := next.map Prod.fst
          armed := next.map Prod.snd
          defn := some { d with repeats := BitVec.ofNat 8 left } }
        (.close
          { seg := i
            outcome := outcome
            traceable := s.steer.traceable
            draw := draw
            voided := voided
            port := port
            stateBefore := g.state
            skipped := skipped
            cycle := g.cycle
            dayArmed := next.map Prod.fst
            window := (s.profiles.get g.profile).window
            bound := s.steer.bound
            closeXt := closeXt
            grantXt := s.now
            eventSeq := n })
        event none (some record)

/-- The grant of an END closes the segment DRAWN at the drawn close XT when the traceable flag is true or hold-on-untraceable is
clear, and else suspends it, disclosing the draw either way (R102, R103). -/
def Obligations.EndGrantClosesOrSuspends : Prop :=
  ∀ (s : State) (i : SegId) (after : Option SegState) (d : Definition) (draw : Draw),
    let g := s.segs.get i
    segmentTurn s { seg := i, kind := .ending, after := after } → g.defn = some d → g.drawn = some draw →
    (s.steer.traceable = true ∨ d.hold = false →
      ∃ t : State, exec .endGrant s = .next t ∧ State.differsIn [.arb, .segs, .commits, .outputs, .trail, .ports] s t ∧
        CycleEnded s t i (.settled .closed) .drawn draw.closeXt (some draw.r) (some draw) false none .close) ∧
    (s.steer.traceable = false → d.hold = true →
      ∃ t : State, exec .endGrant s = .next t ∧ State.differsIn [.arb, .segs, .commits, .outputs, .trail, .ports] s t ∧
        SegmentGranted s t i
          { g with state := .suspended, committed := .settled .suspended, drawn := none }
          (.segment i.val
            (.suspend g.cycle (s.profiles.get g.profile).window (some draw) false s.steer.bound) none (s.arb.seq + 1))
          .suspend none none)

/-- The grant of an EXTEND returns the segment to CALL with a new close counted from the grant and voids a draw that stood; the grants
of RELEASE and HALT end the cycle at XT now, a HALT voiding and disclosing a draw that stood (R107, R108, R110). -/
def Obligations.ExtendReleaseAndHaltGrants : Prop :=
  ∀ (s : State) (i : SegId) (port : Port) (st : SegState),
    let g := s.segs.get i
    let n := s.arb.seq + 1
    (∀ a : ArmedInstants, g.armed = some a → segmentTurn s { seg := i, kind := .extend port, after := some st } →
      let close : Ns := s.now + (((s.profiles.get g.profile).extLength * 1000000000 : Nat) : Int)
      ∃ t : State, exec .extendGrant s = .next t ∧ State.differsIn [.arb, .segs, .commits, .outputs, .trail, .ports] s t ∧
        SegmentGranted s t i
          { g with
            state := st
            armed := some { a with closeAt := { xt := close, taken := false } }
            extensions := g.extensions + 1
            drawn := if g.state = .random then none else g.drawn }
          (.extend i g.cycle (g.extensions + 1) close n port (if g.state = .random then g.drawn else none))
          .extend (some close) none) ∧
    (∀ after, segmentTurn s { seg := i, kind := .release port, after := after } →
      ∃ t : State, exec .releaseGrant s = .next t ∧ State.differsIn [.arb, .segs, .commits, .outputs, .trail, .ports] s t ∧
        CycleEnded s t i g.committed .released s.now none none false (some port) .close) ∧
    ∀ after, segmentTurn s { seg := i, kind := .halt port, after := after } →
      ∃ t : State, exec .haltGrant s = .next t ∧ State.differsIn [.arb, .segs, .commits, .outputs, .trail, .ports] s t ∧
        CycleEnded s t i g.committed .halted s.now none (if g.state = .random then g.drawn else none) true (some port) .halt

/-! ## Trail Unit (chapter 8) -/

/-- On a port with the trail right a TRAIL_READ with a count of 0 or above 8 is answered LIMIT and a start below K BAD_INDEX;
otherwise the TRAIL response holds K, W_ix and the readable entries from the start index upward, as many as the count at most,
and nothing else changes (R142). -/
def Obligations.TrailReadAnswersTheEntriesFromItsStart : Prop :=
  ∀ (p : Port) (tag : Tag) (start : BitVec 64) (count : Byte) (s : State),
    s.canServe .trail p tag (.trailRead start count) → s.trail.Ok →
    let c : Instr := .trailRead p tag start count
    let n := count.toNat
    (n = 0 ∨ 8 < n → Replies c s p (.done tag .limit false) [] fun _ => True) ∧
    (1 ≤ n → n ≤ 8 → start.toNat < s.trail.k → Replies c s p (.done tag .badIndex false) [] fun _ => True) ∧
    (1 ≤ n → n ≤ 8 → s.trail.k ≤ start.toNat →
      ∃ es : List TrailEntry,
        Replies c s p (.trail tag s.trail.k s.trail.wIx es) [] (fun _ => True) ∧
        es.map TrailEntry.seq = List.range' start.toNat (min n (s.trail.wIx - start.toNat)) ∧
        ∀ e ∈ es, e ∈ s.trail.entries)

/-- TRAIL_ACK needs the trail right; an index from K to W_ix becomes the new K, one above W_ix sets K to W_ix and one below K leaves
it, both with the clamped indicator; the entries below the new K are released, the others stay, and no entry is written (R144). -/
def Obligations.TrailAckReleasesTheEntriesBelowItsIndex : Prop :=
  ∀ (p : Port) (tag : Tag) (index : BitVec 64) (s : State), s.headIs p tag (.trailAck index) = true → s.trail.Ok →
    let c : Instr := .trailAck p tag index
    let n := index.toNat
    let released (k : Nat) (t : State) : Prop :=
      t.trail = { s.trail with k := k, entries := s.trail.entries.filter fun e => decide (k ≤ e.seq) }
    ((s.port p).role.has .trail = false → Replies c s p (.done tag .noRight false) [] fun _ => True) ∧
    ((s.port p).role.has .trail = true →
      (s.trail.k ≤ n → n ≤ s.trail.wIx → Replies c s p (.done tag .ok false) [.trail] (released n)) ∧
      (s.trail.wIx < n → Replies c s p (.done tag .ok true) [.trail] (released s.trail.wIx)) ∧
      (n < s.trail.k → Replies c s p (.done tag .ok true) [] fun t => t.trail = s.trail))

/-- SUMMARY_NOW writes a SUMMARY entry of cause REQUEST from the counters and the seconds covered as they stand, with the number of
the previous SUMMARY; the counters and the seconds are zeroed before the entry is written, so that an overwrite of its own is
counted anew (R139, R140). -/
def SummaryNowWritesASummary : Prop :=
  ∀ (p : Port) (tag : Tag) (s : State), s.canServe .trail p tag .summaryNow →
    Replies (.summaryNow p tag) s p (.done tag .ok false) [.trail] fun t =>
      TrailUnit.Wrote { s.trail with counters := .zero, seconds := 0 } t.trail
          (.summary (some p) s.trail.seconds s.trail.prevSummary s.trail.counters) s.writing ∧
        t.trail.prevSummary = s.trail.wIx

/-- READ_EVIDENCE and SUMMARY_NOW, each of which reads counts and returns them to nothing (R34, R139, R140). -/
def Obligations.EvidenceAndSummaryAreTaken : Prop :=
  ReadEvidenceReturnsAndClearsTheSpans ∧ SummaryNowWritesASummary

/-- The settle period is written as clamped, and a settle in progress gets its deadline counted anew from its beginning, or is complete
at once when XT has reached it (R16). The summary interval and mode take effect when taken, without a summary and with the
seconds covered as they were (R141). -/
def SettlePeriodAndSummaryItemsAreWritten : Prop :=
  ∀ (p : Port) (tag : Tag) (v : BitVec 64) (s : State),
    (let n := (clampInt 1 600 v.toInt).toNat
     let served (effect : State → Prop) : Prop :=
      TimingServed (.setTimingSettlePeriod p tag v) s p tag .settlePeriod v 1 600 s.tick.settlePeriod [.tick] fun _ t => effect t
     (s.tick.returnPhase ≠ .settle → served fun t => t.tick = { s.tick with settlePeriod := n }) ∧
      ∀ began : Ns, s.tick.returnPhase = .settle →
        s.tick.settleDeadline = some (began + ((s.tick.settlePeriod * 1000000000 : Nat) : Int)) →
        let deadline : Ns := began + ((n * 1000000000 : Nat) : Int)
        (s.now < deadline → served fun t =>
          t.tick = { s.tick with settlePeriod := n, settleDeadline := some deadline }) ∧
        (deadline ≤ s.now → served fun t => LockWaitOpened s t ∧
          t.tick = { s.tick with
            settlePeriod := n
            returnPhase := .lockWait
            settleDeadline := none
            pllMonitor := t.tick.pllMonitor
            lockWaitTimer := t.tick.lockWaitTimer })) ∧
    (s.canServe .timing p tag (timingBody .summaryInterval v) →
      let x := clampInt 1 3600 v.toInt
      Replies (.setTimingSummaryInterval p tag v) s p (.done tag .ok (decide (x ≠ v.toInt))) [.trail] fun t =>
        TrailUnit.Wrote { s.trail with interval := x.toNat } t.trail
          (.config (.item p 64 s.trail.interval x (decide (x ≠ v.toInt)))) s.writing) ∧
    (s.canServe .timing p tag (timingBody .summaryMode v) →
      let x := clampInt 0 1 v.toInt
      Replies (.setTimingSummaryMode p tag v) s p (.done tag .ok (decide (x ≠ v.toInt))) [.trail] fun t =>
        TrailUnit.Wrote { s.trail with mode := if x = 0 then .auto else .manual } t.trail
          (.config (.item p 65 (if s.trail.mode = .auto then 0 else 1) x (decide (x ≠ v.toInt)))) s.writing)

/-- The SET_TIMING items of the references, of the return sequence and of the summaries are served (R16, R35, R36, R141, R163). -/
def Obligations.ReferenceSettleAndSummaryItemsAreServed : Prop :=
  ReferenceItemsAreWritten ∧ SettlePeriodAndSummaryItemsAreWritten

/-! ## Client ports (chapter 9) -/

/-- What becomes of the trail when a class-B entry is asked for: it is written while fewer than 3,840 entries are unread, and else
only counted as suppressed (R134). -/
def GateB (t t' : TrailUnit) (b : TrailBody) (w : Writing) : Prop :=
  if t.wIx - t.k < 3840 then TrailUnit.Wrote t t' b w
  else t' = { t with counters := { t.counters with suppressed := min (t.counters.suppressed + 1) 4294967295 } }

/-- A valid frame that is not a reset frame brings a DOWN link UP, which is entered in the trail, and restarts the silence timer; an
idle frame does nothing more; a request frame joins the tail of the request queue, or finds it full and is counted, the first
with a PORT entry, each with a PORT notice (R149, R151, R152, R153, R155, R157; that the notice may stand before a waiting answer is
log entry 51). -/
def ClientFramesJoinTheRequestQueue : Prop :=
  ∀ (p : Port) (f : Frame) (s : State), f.kind.toNat ≠ 1 →
    let pc := s.port p
    let up := { pc with
      up := true
      batchNumber := if pc.up then pc.batchNumber else 0
      silence := some 2500000 }
    let counted := { up with overrun := min (pc.overrun + 1) 65535 }
    let full : Prop := f.kind.toNat ≠ 0 ∧ 32 ≤ pc.requests.length
    let atOnce : Prop := pc.pendStatus = none ∧ pc.pendSegs = [] ∧ pc.pendPort = false ∧
      (pc.responses.length < 63 ∨ pc.responses.length < 64 ∧ ∀ r ofDrain, pc.service ≠ .waiting r ofDrain)
    ∃ t : State, exec (.clientFrame p f.encode) s = .next t ∧ State.otherPorts p s t ∧ State.differsIn [.trail, .ports] s t ∧
      (f.kind.toNat = 0 → t.port p = up) ∧
      (f.kind.toNat ≠ 0 → pc.requests.length < 32 →
        t.port p = { up with
          requests := pc.requests ++ [{ tag := f.tag, body := parseRequest f.kind f.body }]
          holdChanged := pc.holdChanged || decide (pc.requests.length = 27) }) ∧
      (full → atOnce → t.port p = { counted with responses := pc.responses ++ [.port counted.overrun], overrun := 0 }) ∧
      (full → ¬ atOnce → t.port p = { counted with pendPort := true }) ∧
      (pc.up = true → ¬ full ∨ pc.overrun ≠ 0 → t.trail = s.trail) ∧
      (pc.up = false → ¬ full → GateB s.trail t.trail (.port p .linkUp) s.writing) ∧
      (pc.up = true → full → pc.overrun = 0 → GateB s.trail t.trail (.port p .overrun) s.writing)

/-- A frame shorter than its envelope or with another CRC than its bytes give, and a frame abandoned by a start symbol, change the
port's count of CRC discards alone; a reset frame on a DOWN port changes nothing (R149, R151). -/
def DamagedFramesAreOnlyCounted : Prop :=
  ∀ (p : Port) (s : State),
    let counted (c : Instr) : Prop := ∃ t : State, exec c s = .next t ∧ State.differsIn [.trail] s t ∧
      t.trail = { s.trail with counters := { s.trail.counters with
        crcDiscards := s.trail.counters.crcDiscards.set p (min (s.trail.counters.crcDiscards.get p + 1) 4294967295) } }
    (∀ bytes : List Byte, bytes.length < 7 → counted (.clientFrame p bytes)) ∧
    (∀ (covered : List Byte) (sent : BitVec 16), sent ≠ crc16 covered →
      counted (.clientFrame p (covered ++ [sent.extractLsb' 8 8, sent.extractLsb' 0 8]))) ∧
    counted (.frameAbandoned p) ∧
    ∀ f : Frame, f.kind.toNat = 1 → (s.port p).up = false → exec (.clientFrame p f.encode) s = .next s

/-- Frames from a master other than the reset frame of an UP port (R149, R151, R152). -/
def Obligations.ClientFramesAreSorted : Prop :=
  ClientFramesJoinTheRequestQueue ∧ DamagedFramesAreOnlyCounted

/-- A reset frame on an UP port, and the expiry of its silence timer, reset the port: the link is DOWN, both queues and the
pending-notice set are empty, the subscriptions are the role's; a pending step of its SET_TIME stays without an answer; the FIFOs
mapped to it are emptied and counted; and a PORT entry gives the cause, the number of records discarded and the span of their
sequence numbers (R62, R93, R124, R151, R162). That the idle interval counts anew from a frame cut off, and that the port keeps the
frame last sent and the note of a changed hold indication, is the model's choice (log entry 16). -/
def Obligations.PortResetEmptiesThePort : Prop :=
  ∀ (p : Port) (s : State) (c : Instr) (cause : ResetCause),
    ((∃ f : Frame, f.kind.toNat = 1 ∧ c = .clientFrame p f.encode) ∧ cause = .resetFrame ∨
      c = .linkTimeout p ∧ (s.port p).silence = some 0 ∧ cause = .linkTimeout) →
    (s.port p).up = true →
    let pc := s.port p
    let gone : List Record := pc.responses ++ (match pc.service with
      | .waiting r _ => [r]
      | _ => [])
    let lost := ((List.finRange 8).map fun l : Line =>
      if (s.capture.get l).port = p then (s.capture.get l).fifo.length else 0).sum
    ∃ (t : State) (range : Option (Nat × Nat)), exec c s = .next t ∧ State.otherPorts p s t ∧
      t.port p = { pc with
        up := false
        silence := none
        requests := []
        service := .untaken
        overrun := 0
        responses := []
        justFreed := false
        inFlight := 0
        sending := false
        pendStatus := none
        pendSegs := []
        pendPort := false
        statusSub := decide (pc.role = .oversight ∨ pc.role = .full)
        threshold := 1
        batchNumber := 0
        drainDone := none
        holdChanged := pc.holdChanged || decide (28 ≤ pc.requests.length)
        idleTimer := if pc.sending then 250000 else pc.idleTimer } ∧
      t.steer = { s.steer with
        pendingSteps := s.steer.pendingSteps.map fun st =>
          match st.origin with
          | .manual (some q) tag => if q = p then { st with origin := .manual none tag } else st
          | _ => st } ∧
      (∀ l : Line, t.capture.get l =
        if (s.capture.get l).port = p then
          { s.capture.get l with fifo := [], overflow := min ((s.capture.get l).overflow + (s.capture.get l).fifo.length) 255 }
        else s.capture.get l) ∧
      (range = none → ∀ r ∈ gone, r.seqNumber = none) ∧
      (∀ least greatest : Nat, range = some (least, greatest) →
        (∃ r ∈ gone, r.seqNumber = some least) ∧ (∃ r ∈ gone, r.seqNumber = some greatest) ∧
          ∀ r ∈ gone, ∀ n : Nat, r.seqNumber = some n → least ≤ n ∧ n ≤ greatest) ∧
      GateB
        { s.trail with counters := { s.trail.counters with overflows := min (s.trail.counters.overflows + lost) 4294967295 } }
        t.trail (.port p (.portReset cause gone.length range)) s.writing ∧
      State.differsIn [.steer, .capture, .trail, .ports] s t

/-- The transmitter sends a batch when one is due, with every record of the queue in order under the next batch number; it sends an
idle frame with none due, at once when the hold indication has changed since the last frame began and else 1 ms after the last
frame; and when a batch has been sent whole its records leave the queue, a full one's entries being free for a STAMP from the next
tick on (R82, R86, R150, R153, R156, R159, R161, Table 10-2; a frame's bytes are fixed when it begins, log entry 14). -/
def Obligations.TransmitterSendsItsFrames : Prop :=
  ∀ (p : Port) (s : State),
    let pc := s.port p
    let hold := decide (28 ≤ pc.requests.length)
    let free : Byte := BitVec.ofNat 8 (32 - pc.requests.length)
    (pc.sending = false → ¬ batchIsDue pc → pc.idleTimer = 0 ∨ pc.holdChanged = true →
      ∃ t : State, exec (.idleFrame p) s = .next t ∧
        State.onlyPort p { pc with
          lastFrame := withCrc ([128#8, 0#8, 0#8, 0#8, 0#8, if hold then 1#8 else 0#8, free] ++ beBytes 4 pc.batchNumber ++ [0#8])
          holdChanged := false
          idleTimer := 250000 } s t) ∧
    (batchIsDue pc → pc.responses.length ≤ 64 →
      let number := (pc.batchNumber + 1) % 4294967296
      ∃ t : State, exec (.batchFrame p) s = .next t ∧
        State.onlyPort p { pc with
          sending := true
          inFlight := pc.responses.length
          batchNumber := number
          holdChanged := false
          lastFrame := withCrc ([129#8, 0#8, 0#8, 0#8, 0#8, if hold then 1#8 else 0#8, free] ++ beBytes 4 number
            ++ [BitVec.ofNat 8 pc.responses.length] ++ (pc.responses.map Record.encode).flatten) } s t) ∧
    (pc.sending = true →
      ∃ (t : State) (done : Option Nat), exec (.batchFrameSent p) s = .next t ∧
        (∀ k : Nat, pc.drainDone = some k → (k ≤ pc.inFlight → done = none) ∧ (pc.inFlight < k → done = some (k - pc.inFlight))) ∧
        (pc.drainDone = none → done = none) ∧
        State.onlyPort p { pc with
          sending := false
          inFlight := 0
          responses := pc.responses.drop pc.inFlight
          justFreed := pc.justFreed || decide (64 ≤ pc.responses.length)
          service := match pc.service with
            | .draining tag left => .draining tag (left - pc.inFlight)
            | x => x
          drainDone := done
          idleTimer := 250000 } s t)

/-- A notice of a block is discarded on a DOWN port, and a STATUS notice on one not subscribed; it enters the response queue at once when
the pending-notice set is empty and an entry is free beside the one that a waiting answer takes; and else it is recorded in the set: a STATUS notice
in the one STATUS slot and a segment's in the one slot of its segment, coalesced with a count that saturates at 65,535, the segment
slots in the order of segment id, and a PORT notice in the PORT slot. A PORT notice that enters takes the overrun count with it (R152,
R155, R157, R158). That a notice then stands before the waiting answer is the model's choice (log entry 51). -/
def NoticesAreQueuedOrCoalesced : Prop :=
  ∀ (pc : PortCtl),
    let free : Prop := pc.pendStatus = none ∧ pc.pendSegs = [] ∧ pc.pendPort = false ∧
      (pc.responses.length < 63 ∨ pc.responses.length < 64 ∧ ∀ r ofDrain, pc.service ≠ .waiting r ofDrain)
    (∀ body : StatusBody,
      (pc.up = false ∨ pc.statusSub = false → pc.notifyStatus body = pc) ∧
      (pc.up = true → pc.statusSub = true →
        (free → pc.notifyStatus body = { pc with responses := pc.responses ++ [.status body] }) ∧
        (¬ free → pc.notifyStatus body = { pc with pendStatus := some (match pc.pendStatus with
          | some n => min (n + 1) 65535
          | none => 1) }))) ∧
    (∀ n : SegNotice,
      (pc.up = false → pc.notifySegment n = pc) ∧
      (pc.up = true → free → pc.notifySegment n = { pc with responses := pc.responses ++ [.segmentEvent n] }) ∧
      (pc.up = true → ¬ free → pc.SlotsInOrder →
        ∃ slots : List PendingSeg, pc.notifySegment n = { pc with pendSegs := slots } ∧
          ({ pc with pendSegs := slots } : PortCtl).SlotsInOrder ∧
          (∀ x : PendingSeg, x.seg ≠ n.seg → (x ∈ slots ↔ x ∈ pc.pendSegs)) ∧
          (∀ x ∈ pc.pendSegs, x.seg = n.seg →
            { seg := n.seg, count := min (x.count + 1) 65535, event := n.event, seq := n.seq } ∈ slots) ∧
          ((∀ x ∈ pc.pendSegs, x.seg ≠ n.seg) →
            { seg := n.seg, count := 1, event := n.event, seq := n.seq } ∈ slots))) ∧
    (pc.up = false → pc.notifyPort = pc) ∧
    (pc.up = true → free → pc.notifyPort = { pc with responses := pc.responses ++ [.port pc.overrun], overrun := 0 }) ∧
    (pc.up = true → ¬ free → pc.notifyPort = { pc with pendPort := true })

/-- An answer that waits at the head enters a free entry first, and its request leaves (R154); with none waiting, the pending-notice
set is drained into the free entries, the STATUS slot, the segment slots in their order, the PORT slot, each built from the state
as it stands (R157, R158). -/
def WaitingAnswersAndSlotsEnterFreeEntries : Prop :=
  ∀ (p : Port) (s : State),
    let pc := s.port p
    (∀ (r : Record) (ofDrain : Bool), pc.service = .waiting r ofDrain → pc.responses.length < 64 →
      ∃ t : State, exec (.waitingAnswer p) s = .next t ∧
        State.onlyPort p { pc.served with
          responses := pc.responses ++ [r]
          drainDone := if ofDrain then some (pc.responses.length + 1) else pc.drainDone } s t) ∧
    (pc.up = true → (∀ r ofDrain, pc.service ≠ .waiting r ofDrain) → pc.responses.length < 64 →
      pc.pendStatus ≠ none ∨ pc.pendSegs ≠ [] ∨ pc.pendPort = true →
      let status : List Record := match pc.pendStatus with
        | some n => [.status
            { time := readingAt s s.arb.seq
              selection := s.steer.selection
              refStates := ⟨s.refs.a.state, s.refs.b.state, s.refs.c.state⟩
              cause := s.lastCause
              count := n }]
        | none => []
      let segments : List Record := pc.pendSegs.map fun x => .segmentEvent
        { epoch := s.epoch.epoch
          seg := x.seg
          event := x.event
          after := (s.segs.get x.seg).state
          fromSet := true
          count := x.count
          cycle := (s.segs.get x.seg).cycle
          extensions := (s.segs.get x.seg).extensions
          seq := x.seq
          xt := s.now
          offset := (table42 s.leap s.now).1
          leapState := (table42 s.leap s.now).2
          newClose := none
          lastOpen := (s.segs.get x.seg).lastOpen
          lastCall := (s.segs.get x.seg).lastCall
          lastClose := (s.segs.get x.seg).lastClose
          closeRec := (s.segs.get x.seg).closeRec }
      let port : List Record := if pc.pendPort then [.port pc.overrun] else []
      let room := 64 - pc.responses.length
      let portEnters : Prop := pc.pendPort = true ∧ status.length + segments.length < room
      ∃ (t : State) (overrun : Nat) (left : Bool), exec (.pendingNoticeDrain p) s = .next t ∧
        (portEnters → overrun = 0 ∧ left = false) ∧ (¬ portEnters → overrun = pc.overrun ∧ left = pc.pendPort) ∧
        State.onlyPort p { pc with
          responses := pc.responses ++ (status ++ segments ++ port).take room
          pendStatus := none
          pendSegs := pc.pendSegs.drop (room - status.length)
          pendPort := left
          overrun := overrun } s t)

/-- Notices are queued at once or coalesced in the pending-notice set, and waiting answers and the set's slots enter the free entries (R154, R155, R157, R158). -/
def Obligations.WaitingAnswersAndNoticesEnterFreeEntries : Prop :=
  NoticesAreQueuedOrCoalesced ∧ WaitingAnswersAndSlotsEnterFreeEntries

/-- SUBSCRIBE installs the STATUS subscription and the threshold clamped to 1 to 64, and turning STATUS off removes its slot; a code
that names neither ON, OFF nor keep is answered MALFORMED (R160). -/
def SubscribeChangesThePort : Prop :=
  ∀ (p : Port) (tag : Tag) (status : Byte) (threshold : BitVec 16) (s : State),
    s.canServe .subscribe p tag (.subscribe status threshold) →
    let pc := s.port p
    let known : Prop := status.toNat = 0 ∨ status.toNat = 1 ∨ status.toNat = 255
    let keep : Prop := threshold.toNat = 65535
    let n := clampNat 1 64 threshold.toNat
    (¬ known → Replies (.subscribe p tag status threshold) s p (.done tag .malformed false) [] fun _ => True) ∧
    (known →
      ∃ (t : State) (limit : Nat) (clamped : Bool), exec (.subscribe p tag status threshold) s = .next t ∧
        (keep → limit = pc.threshold ∧ clamped = false) ∧
        (¬ keep → limit = n ∧ (clamped = true ↔ n ≠ threshold.toNat)) ∧
        State.onlyPort p
          (({ pc with
              statusSub := if status.toNat = 255 then pc.statusSub else decide (status.toNat = 1)
              threshold := limit
              pendStatus := if status.toNat = 0 then none else pc.pendStatus } : PortCtl).answered (.done tag .ok clamped)) s t)

/-- DRAIN on an empty response queue is answered at once; otherwise it stays at the head until the records present at its taking have
left, and its DONE then enters the response queue as any answer does. Until that DONE has left, the threshold is disregarded
(R154, R161). -/
def DrainWaitsForTheRecordsPresent : Prop :=
  (∀ (p : Port) (tag : Tag) (s : State), s.headIs p tag .drain = true →
    let pc := s.port p
    (pc.responses = [] →
      ∃ t : State, exec (.drain p tag) s = .next t ∧
        State.onlyPort p { pc.served with
          responses := [.done tag .ok false]
          drainDone := some 1 } s t) ∧
    (pc.responses ≠ [] →
      ∃ t : State, exec (.drain p tag) s = .next t ∧
        State.onlyPort p { pc with service := .draining tag pc.responses.length } s t)) ∧
  ∀ (p : Port) (tag : Tag) (s : State), (s.port p).service = .draining tag 0 →
    let pc := s.port p
    (pc.responses.length < 64 →
      ∃ t : State, exec (.drainComplete p) s = .next t ∧
        State.onlyPort p { pc.served with
          responses := pc.responses ++ [.done tag .ok false]
          drainDone := some (pc.responses.length + 1) } s t) ∧
    (64 ≤ pc.responses.length →
      ∃ t : State, exec (.drainComplete p) s = .next t ∧
        State.onlyPort p { pc with service := .waiting (.done tag .ok false) true } s t)

/-- SUBSCRIBE and DRAIN (R160, R161). -/
def Obligations.SubscribeAndDrainAreServed : Prop :=
  SubscribeChangesThePort ∧ DrainWaitsForTheRecordsPresent

/-- A request whose frame names no known kind or length is answered MALFORMED; an unknown action of SET_LEAP and an unknown mode of
OUTPUT_SET after the checks their rules make first; a SET_TIMING whose number names no item BAD_INDEX (R69, R127, R149, R163,
R166; the order of the right and the code is log entry 19). -/
def Obligations.RequestsThatNameNothingAreAnswered : Prop :=
  (∀ (p : Port) (tag : Tag) (kind : Byte) (body : List Byte) (s : State), isMalformed kind body = true →
    s.headIs p tag (.malformed kind body) = true →
    let answered (code : ResultCode) : Prop :=
      Replies (.malformedRequest p tag kind body) s p (.done tag code false) [] fun _ => True
    let action : Prop := kind.toNat = 21 ∧ body.length = 5
    let mode : Prop := kind.toNat = 49 ∧ body.length = 15
    (¬ action → ¬ mode → answered .malformed) ∧
    (action → (s.port p).role.has .leap = true → answered .malformed) ∧
    (action → (s.port p).role.has .leap = false → answered .noRight) ∧
    (mode → (s.port p).role.has .schedule = false → answered .noRight) ∧
    (mode → (s.port p).role.has .schedule = true → 7 < (byteAt body 0).toNat → answered .badIndex) ∧
    (mode → (s.port p).role.has .schedule = true → (byteAt body 0).toNat ≤ 7 → answered .malformed)) ∧
  ∀ (p : Port) (tag : Tag) (item : BitVec 16) (v : BitVec 64) (s : State), timingItem item.toNat = none →
    s.canServe .timing p tag (.setTiming item v) →
    Replies (.setTimingUnknownItem p tag item v) s p (.done tag .badIndex false) [] fun _ => True

/-! ## Invariants that every step keeps -/

/-- The command at the front of the queue is a device reset. -/
def resetsNext (s : State) : Prop :=
  ∃ (straps : Bank 8 Straps) (storeLost writeLost : Bool) (rest : List Instr),
    s.pending = .deviceReset straps storeLost writeLost :: rest

/-- Right after reset the state meets every invariant: the trail's numbers, the places of the queues, the agreement of stamping, bound
and slew with the timescale state, the ring increment, and the tick source. -/
def ResetMeetsTheInvariants : Prop :=
  let s := State.reset
  s.trail.Ok ∧ s.QueuesOk ∧ s.steer.StampingOk ∧ s.steer.BoundOk ∧ s.steer.SlewOk ∧ s.tick.RingOk ∧ s.SourceOk

/-- State.reset holds the values of the tables and meets the invariants. -/
def Obligations.ResetGivesTheTablesValues : Prop :=
  ResetHoldsTheTablesValues ∧ ResetMeetsTheInvariants

/-- Every step keeps the trail in order: the readable entries are those of trail sequence K to W_ix - 1, at most 4,096 (R133, R135,
R144). -/
def EveryStepKeepsTheTrailInOrder : Prop :=
  ∀ s t : State, s.trail.Ok → step s = .next t → t.trail.Ok

/-- Every step keeps the queues within their places: 32 requests and 64 records a port, one slot a segment in the order of segment id, 4
edges a line (R121, R152, R155, R158). -/
def Obligations.EveryStepKeepsTheQueuesWithinTheirPlaces : Prop :=
  ∀ s t : State, s.QueuesOk → step s = .next t → t.QueuesOk

/-- Every step keeps stamping open exactly in LOCKED, HOLDOVER and FALLBACK with no step pending then (R46, R47, R78), the tick on the
PLL in LOCKED and HOLDOVER, never in COLD, and in FALLBACK only at the edge that completes a return (R1, R5, R15), a return phase in
FALLBACK alone (R14), and a ring increment in range (R11). -/
def Obligations.EveryStepKeepsStampingAndTheSourceWithTheState : Prop :=
  ∀ s t : State, s.steer.StampingOk → s.SourceOk → s.tick.RingOk → step s = .next t →
    t.steer.StampingOk ∧ t.SourceOk ∧ t.tick.RingOk

/-- Every step keeps the traceable flag in agreement with B and M, B at its greatest value in COLD and ACQUIRE (R40, R56, R57), and A
and I within the slew limit in force (R53). -/
def Obligations.EveryStepKeepsTheBoundAndTheSlewLimit : Prop :=
  ∀ s t : State, s.steer.BoundOk → s.steer.SlewOk → step s = .next t → t.steer.BoundOk ∧ t.steer.SlewOk

/-- While stamping is open nothing but a device reset closes it, and XT never goes back (R10, R46, R78; XT is taken not to reach the
end of its 64 bits, log entry 9). -/
def Obligations.XtNeverGoesBackWhileStampingIsOpen : Prop :=
  ∀ s t : State, s.steer.stampingOpen = true → ¬ resetsNext s →
    s.xt.ns + (s.xt.frac + s.increment) / 4294967296 < 18446744073709551616 → step s = .next t →
    t.steer.stampingOpen = true ∧ s.xt.ns ≤ t.xt.ns

/-- The order sequence has no gap and no repeat: but for a device reset, a step leaves the counter or raises it by one, by the first
grant of a tick while stamping is open; and a numbered record that enters a response queue then, and was not waiting at its head
before, carries that new number (R75, R77, R79, R83). -/
def Obligations.EveryGrantTakesTheNextNumber : Prop :=
  ∀ s t : State, ¬ resetsNext s → step s = .next t →
    (t.arb.seq = s.arb.seq ∨ t.arb.seq = s.arb.seq + 1 ∧ s.steer.stampingOpen = true ∧ s.arb.grantedThisTick = false ∧
      t.arb.grantedThisTick = true) ∧
    ∀ (p : Port) (r : Record) (n : Nat), r ∈ (t.port p).responses → r ∉ (s.port p).responses →
      (∀ ofDrain : Bool, (s.port p).service ≠ .waiting r ofDrain) → r.seqNumber = some n →
      t.arb.seq = s.arb.seq + 1 ∧ n = t.arb.seq

/-- But for a device reset K and W_ix never go back, an entry that stays readable is never changed, and no number is used again
(R133, R135, R144). -/
def WrittenEntriesAreNeverChanged : Prop :=
  ∀ s t : State, s.trail.Ok → ¬ resetsNext s → step s = .next t →
    s.trail.k ≤ t.trail.k ∧ s.trail.wIx ≤ t.trail.wIx ∧
      (∀ e ∈ t.trail.entries, e.seq < s.trail.wIx → e ∈ s.trail.entries) ∧
      ∀ e ∈ s.trail.entries, t.trail.k ≤ e.seq → e ∈ t.trail.entries

/-- Every step keeps the trail in order, and no written entry is ever changed (R133, R135, R144). -/
def Obligations.EveryStepKeepsTheTrail : Prop :=
  EveryStepKeepsTheTrailInOrder ∧ WrittenEntriesAreNeverChanged

/-! ## Frames and requests (chapter 10) -/

/-- A frame read back from its bytes is the frame that was sent, and a request of a known kind read back from its frame is the request
that was sent, with every operand at every value (R149, R165, R166, Tables 10-2, 10-3 and 10-7). -/
def Obligations.RequestsReadBackAsTheyWereSent : Prop :=
  (∀ f : Frame, parseFrame f.encode = some f) ∧
    ∀ (tag : Tag) (body : ReqBody), (∀ kind bytes, body ≠ .malformed kind bytes) →
      (parseFrame (Frame.encode { kind := body.encode.1, tag := tag, body := body.encode.2 })).map
        (fun f => (f.tag, parseRequest f.kind f.body)) = some (tag, body)

/-- The CRC of the digits 123456789 is 29B1 (section 9.2), the numbers of Table 10-6 name the items they stand beside, and two whole
frames written out from Tables 10-2 and 10-3 with their CRC read as the requests they stand for: READ_TIME with tag 7, and TRAIL_ACK
of index 1234 (hexadecimal) with tag DEADBEEF. -/
def Obligations.KnownFramesAndItemNumbers : Prop :=
  crc16 [0x31#8, 0x32#8, 0x33#8, 0x34#8, 0x35#8, 0x36#8, 0x37#8, 0x38#8, 0x39#8] = 0x29B1#16 ∧
    timingItem 1 = some .settlePeriod ∧
    timingItem 16 = some (.refProfile .refA) ∧ timingItem 17 = some (.refProfile .refB) ∧
    timingItem 18 = some (.refProfile .refC) ∧ timingItem 19 = some (.refPriority .refA) ∧
    timingItem 20 = some (.refPriority .refB) ∧ timingItem 21 = some (.refPriority .refC) ∧
    timingItem 22 = some (.cableDelay .refA) ∧ timingItem 23 = some (.cableDelay .refB) ∧
    timingItem 24 = some (.cableDelay .refC) ∧ timingItem 25 = some .pWin ∧ timingItem 26 = some .minimumQuality ∧
    timingItem 27 = some .limitD ∧ timingItem 28 = some .revertiveMode ∧
    timingItem 32 = some .kp ∧ timingItem 33 = some .ki ∧ timingItem 34 = some .slewL ∧ timingItem 35 = some .growthH ∧
    timingItem 36 = some .growthHRing ∧ timingItem 37 = some .wLock ∧ timingItem 38 = some .acquisitionTimeout ∧
    timingItem 39 = some .limitM ∧ timingItem 40 = some .uFixed ∧ timingItem 41 = some .uManual ∧
    timingItem 48 = some .utcOffset ∧ timingItem 64 = some .summaryInterval ∧ timingItem 65 = some .summaryMode ∧
    (∀ it : TimingItem, timingItem it.number = some it) ∧
    (parseFrame [0x11#8, 0#8, 0#8, 0#8, 7#8, 0xCF#8, 0xE0#8]).map (fun f => (f.tag, parseRequest f.kind f.body)) =
      some (7#32, .readTime) ∧
    (parseFrame [0x41#8, 0xDE#8, 0xAD#8, 0xBE#8, 0xEF#8, 0#8, 0#8, 0#8, 0#8, 0#8, 0#8, 0x12#8, 0x34#8, 0xD3#8, 0x96#8]).map
        (fun f => (f.tag, parseRequest f.kind f.body)) =
      some (0xDEADBEEF#32, .trailAck 0x1234#64) ∧
    ∀ a : Byte, parseRequest 0x13#8 [0#8, 0x19#8, 0#8, 0#8, 0#8, 0#8, 0#8, 0#8, 0x01#8, a] =
      .setTiming 25#16 (BitVec.ofNat 64 (256 + a.toNat))
end

