-- ==== Sys2Proof/Laws/Word.lean ====
section
/-! SUPPORT. The small lemmas of banks, of the references' triples and of the clamps. -/

namespace Sys2Proof

namespace Bank

variable {n : Nat} {α β : Type}

theorem ext_get {a b : Bank n α} (h : ∀ i, a.get i = b.get i) : a = b := by
  obtain ⟨xs, hx⟩ := a
  obtain ⟨ys, hy⟩ := b
  have : xs = ys := by
    apply List.ext_getElem (by omega)
    intro i h1 h2
    exact h ⟨i, by omega⟩
  subst this
  rfl

@[simp] theorem get_set_self (b : Bank n α) (i : Fin n) (x : α) : (b.set i x).get i = x := by
  simp [get, set]

theorem get_set_ne (b : Bank n α) {i j : Fin n} (x : α) (h : j ≠ i) : (b.set i x).get j = b.get j := by
  have h' : i.val ≠ j.val := fun e => h (Fin.ext e.symm)
  simp [get, set, h']

theorem get_set (b : Bank n α) (i j : Fin n) (x : α) : (b.set i x).get j = if j = i then x else b.get j := by
  by_cases h : j = i
  · subst h; simp
  · simp [h, get_set_ne b x h]

@[simp] theorem get_ofFn (f : Fin n → α) (i : Fin n) : (ofFn f).get i = f i := by simp [get, ofFn]

@[simp] theorem get_map (f : α → β) (b : Bank n α) (i : Fin n) : (b.map f).get i = f (b.get i) := by simp [get, map]

@[simp] theorem get_mapFin (f : Fin n → α → β) (b : Bank n α) (i : Fin n) : (b.mapFin f).get i = f i (b.get i) := by
  simp [mapFin]

@[simp] theorem set_get_self (b : Bank n α) (i : Fin n) : b.set i (b.get i) = b :=
  ext_get fun j => by rw [get_set]; split <;> simp_all

@[simp] theorem set_set (b : Bank n α) (i : Fin n) (x y : α) : (b.set i x).set i y = b.set i y :=
  ext_get fun j => by rw [get_set, get_set, get_set]; split <;> rfl

end Bank

namespace PerRef

variable {α β : Type}

@[simp] theorem get_set_self (p : PerRef α) (r : RefId) (x : α) : (p.set r x).get r = x := by cases r <;> rfl

theorem get_set_ne (p : PerRef α) {r q : RefId} (x : α) (h : q ≠ r) : (p.set r x).get q = p.get q := by
  cases r <;> cases q <;> first | rfl | exact absurd rfl h

@[simp] theorem get_map (f : α → β) (p : PerRef α) (r : RefId) : (p.map f).get r = f (p.get r) := by cases r <;> rfl

@[simp] theorem get_mapRef (f : RefId → α → β) (p : PerRef α) (r : RefId) : (p.mapRef f).get r = f r (p.get r) := by
  cases r <;> rfl

@[simp] theorem get_same (x : α) (r : RefId) : (PerRef.same x).get r = x := by cases r <;> rfl

@[simp] theorem set_get_self (p : PerRef α) (r : RefId) : p.set r (p.get r) = p := by cases r <;> rfl

@[simp] theorem set_set (p : PerRef α) (r : RefId) (x y : α) : (p.set r x).set r y = p.set r y := by cases r <;> rfl

end PerRef

theorem clampInt_mem {lo hi : Int} (h : lo ≤ hi) (v : Int) : lo ≤ clampInt lo hi v ∧ clampInt lo hi v ≤ hi := by
  unfold clampInt
  split
  · omega
  · split <;> omega

theorem clampInt_of_mem {lo hi v : Int} (h1 : lo ≤ v) (h2 : v ≤ hi) : clampInt lo hi v = v := by
  unfold clampInt
  rw [if_neg (by omega), if_neg (by omega)]

/-- A value clamped to a symmetric range is no larger than its limit. -/
theorem clampInt_natAbs (l : Nat) (v : Int) : (clampInt (-(l : Int)) l v).natAbs ≤ l := by
  have := clampInt_mem (lo := -(l : Int)) (hi := l) (by omega) v
  omega

theorem satAdd_le (limit n k : Nat) : satAdd limit n k ≤ limit := by
  unfold satAdd
  split <;> omega

end Sys2Proof
end

