-- ==== Sys2Proof/Laws/State.lean ====
section
/-! SUPPORT. One lemma for each field under each block's replacement, and the reading of XT and what an entry
takes from the moment of its writing under each. -/

namespace Sys2Proof.Machine.State

variable (s : State)

@[simp] theorem withTick_tick (x : TickUnit) : (s.withTick x).tick = x := rfl
@[simp] theorem withTick_xt (x : TickUnit) : (s.withTick x).xt = s.xt := rfl
@[simp] theorem withTick_refs (x : TickUnit) : (s.withTick x).refs = s.refs := rfl
@[simp] theorem withTick_refCfg (x : TickUnit) : (s.withTick x).refCfg = s.refCfg := rfl
@[simp] theorem withTick_steer (x : TickUnit) : (s.withTick x).steer = s.steer := rfl
@[simp] theorem withTick_leap (x : TickUnit) : (s.withTick x).leap = s.leap := rfl
@[simp] theorem withTick_arb (x : TickUnit) : (s.withTick x).arb = s.arb := rfl
@[simp] theorem withTick_epoch (x : TickUnit) : (s.withTick x).epoch = s.epoch := rfl
@[simp] theorem withTick_segs (x : TickUnit) : (s.withTick x).segs = s.segs := rfl
@[simp] theorem withTick_profiles (x : TickUnit) : (s.withTick x).profiles = s.profiles := rfl
@[simp] theorem withTick_commits (x : TickUnit) : (s.withTick x).commits = s.commits := rfl
@[simp] theorem withTick_drawIndex (x : TickUnit) : (s.withTick x).drawIndex = s.drawIndex := rfl
@[simp] theorem withTick_capture (x : TickUnit) : (s.withTick x).capture = s.capture := rfl
@[simp] theorem withTick_outputs (x : TickUnit) : (s.withTick x).outputs = s.outputs := rfl
@[simp] theorem withTick_trail (x : TickUnit) : (s.withTick x).trail = s.trail := rfl
@[simp] theorem withTick_ports (x : TickUnit) : (s.withTick x).ports = s.ports := rfl
@[simp] theorem withTick_lastCause (x : TickUnit) : (s.withTick x).lastCause = s.lastCause := rfl
@[simp] theorem withTick_freeIndex (x : TickUnit) : (s.withTick x).freeIndex = s.freeIndex := rfl
@[simp] theorem withTick_pending (x : TickUnit) : (s.withTick x).pending = s.pending := rfl
@[simp] theorem withTick_now (x : TickUnit) : (s.withTick x).now = s.now := rfl
@[simp] theorem withTick_writing (x : TickUnit) : (s.withTick x).writing = s.writing := rfl

@[simp] theorem withXt_tick (x : XtCounter) : (s.withXt x).tick = s.tick := rfl
@[simp] theorem withXt_xt (x : XtCounter) : (s.withXt x).xt = x := rfl
@[simp] theorem withXt_refs (x : XtCounter) : (s.withXt x).refs = s.refs := rfl
@[simp] theorem withXt_refCfg (x : XtCounter) : (s.withXt x).refCfg = s.refCfg := rfl
@[simp] theorem withXt_steer (x : XtCounter) : (s.withXt x).steer = s.steer := rfl
@[simp] theorem withXt_leap (x : XtCounter) : (s.withXt x).leap = s.leap := rfl
@[simp] theorem withXt_arb (x : XtCounter) : (s.withXt x).arb = s.arb := rfl
@[simp] theorem withXt_epoch (x : XtCounter) : (s.withXt x).epoch = s.epoch := rfl
@[simp] theorem withXt_segs (x : XtCounter) : (s.withXt x).segs = s.segs := rfl
@[simp] theorem withXt_profiles (x : XtCounter) : (s.withXt x).profiles = s.profiles := rfl
@[simp] theorem withXt_commits (x : XtCounter) : (s.withXt x).commits = s.commits := rfl
@[simp] theorem withXt_drawIndex (x : XtCounter) : (s.withXt x).drawIndex = s.drawIndex := rfl
@[simp] theorem withXt_capture (x : XtCounter) : (s.withXt x).capture = s.capture := rfl
@[simp] theorem withXt_outputs (x : XtCounter) : (s.withXt x).outputs = s.outputs := rfl
@[simp] theorem withXt_trail (x : XtCounter) : (s.withXt x).trail = s.trail := rfl
@[simp] theorem withXt_ports (x : XtCounter) : (s.withXt x).ports = s.ports := rfl
@[simp] theorem withXt_lastCause (x : XtCounter) : (s.withXt x).lastCause = s.lastCause := rfl
@[simp] theorem withXt_freeIndex (x : XtCounter) : (s.withXt x).freeIndex = s.freeIndex := rfl
@[simp] theorem withXt_pending (x : XtCounter) : (s.withXt x).pending = s.pending := rfl

@[simp] theorem withRefs_tick (x : PerRef RefRecord) : (s.withRefs x).tick = s.tick := rfl
@[simp] theorem withRefs_xt (x : PerRef RefRecord) : (s.withRefs x).xt = s.xt := rfl
@[simp] theorem withRefs_refs (x : PerRef RefRecord) : (s.withRefs x).refs = x := rfl
@[simp] theorem withRefs_refCfg (x : PerRef RefRecord) : (s.withRefs x).refCfg = s.refCfg := rfl
@[simp] theorem withRefs_steer (x : PerRef RefRecord) : (s.withRefs x).steer = s.steer := rfl
@[simp] theorem withRefs_leap (x : PerRef RefRecord) : (s.withRefs x).leap = s.leap := rfl
@[simp] theorem withRefs_arb (x : PerRef RefRecord) : (s.withRefs x).arb = s.arb := rfl
@[simp] theorem withRefs_epoch (x : PerRef RefRecord) : (s.withRefs x).epoch = s.epoch := rfl
@[simp] theorem withRefs_segs (x : PerRef RefRecord) : (s.withRefs x).segs = s.segs := rfl
@[simp] theorem withRefs_profiles (x : PerRef RefRecord) : (s.withRefs x).profiles = s.profiles := rfl
@[simp] theorem withRefs_commits (x : PerRef RefRecord) : (s.withRefs x).commits = s.commits := rfl
@[simp] theorem withRefs_drawIndex (x : PerRef RefRecord) : (s.withRefs x).drawIndex = s.drawIndex := rfl
@[simp] theorem withRefs_capture (x : PerRef RefRecord) : (s.withRefs x).capture = s.capture := rfl
@[simp] theorem withRefs_outputs (x : PerRef RefRecord) : (s.withRefs x).outputs = s.outputs := rfl
@[simp] theorem withRefs_trail (x : PerRef RefRecord) : (s.withRefs x).trail = s.trail := rfl
@[simp] theorem withRefs_ports (x : PerRef RefRecord) : (s.withRefs x).ports = s.ports := rfl
@[simp] theorem withRefs_lastCause (x : PerRef RefRecord) : (s.withRefs x).lastCause = s.lastCause := rfl
@[simp] theorem withRefs_freeIndex (x : PerRef RefRecord) : (s.withRefs x).freeIndex = s.freeIndex := rfl
@[simp] theorem withRefs_pending (x : PerRef RefRecord) : (s.withRefs x).pending = s.pending := rfl
@[simp] theorem withRefs_now (x : PerRef RefRecord) : (s.withRefs x).now = s.now := rfl
@[simp] theorem withRefs_writing (x : PerRef RefRecord) : (s.withRefs x).writing = s.writing := rfl

@[simp] theorem withRefCfg_tick (x : RefConfig) : (s.withRefCfg x).tick = s.tick := rfl
@[simp] theorem withRefCfg_xt (x : RefConfig) : (s.withRefCfg x).xt = s.xt := rfl
@[simp] theorem withRefCfg_refs (x : RefConfig) : (s.withRefCfg x).refs = s.refs := rfl
@[simp] theorem withRefCfg_refCfg (x : RefConfig) : (s.withRefCfg x).refCfg = x := rfl
@[simp] theorem withRefCfg_steer (x : RefConfig) : (s.withRefCfg x).steer = s.steer := rfl
@[simp] theorem withRefCfg_leap (x : RefConfig) : (s.withRefCfg x).leap = s.leap := rfl
@[simp] theorem withRefCfg_arb (x : RefConfig) : (s.withRefCfg x).arb = s.arb := rfl
@[simp] theorem withRefCfg_epoch (x : RefConfig) : (s.withRefCfg x).epoch = s.epoch := rfl
@[simp] theorem withRefCfg_segs (x : RefConfig) : (s.withRefCfg x).segs = s.segs := rfl
@[simp] theorem withRefCfg_profiles (x : RefConfig) : (s.withRefCfg x).profiles = s.profiles := rfl
@[simp] theorem withRefCfg_commits (x : RefConfig) : (s.withRefCfg x).commits = s.commits := rfl
@[simp] theorem withRefCfg_drawIndex (x : RefConfig) : (s.withRefCfg x).drawIndex = s.drawIndex := rfl
@[simp] theorem withRefCfg_capture (x : RefConfig) : (s.withRefCfg x).capture = s.capture := rfl
@[simp] theorem withRefCfg_outputs (x : RefConfig) : (s.withRefCfg x).outputs = s.outputs := rfl
@[simp] theorem withRefCfg_trail (x : RefConfig) : (s.withRefCfg x).trail = s.trail := rfl
@[simp] theorem withRefCfg_ports (x : RefConfig) : (s.withRefCfg x).ports = s.ports := rfl
@[simp] theorem withRefCfg_lastCause (x : RefConfig) : (s.withRefCfg x).lastCause = s.lastCause := rfl
@[simp] theorem withRefCfg_freeIndex (x : RefConfig) : (s.withRefCfg x).freeIndex = s.freeIndex := rfl
@[simp] theorem withRefCfg_pending (x : RefConfig) : (s.withRefCfg x).pending = s.pending := rfl
@[simp] theorem withRefCfg_now (x : RefConfig) : (s.withRefCfg x).now = s.now := rfl
@[simp] theorem withRefCfg_writing (x : RefConfig) : (s.withRefCfg x).writing = s.writing := rfl

@[simp] theorem withSteer_tick (x : SteeringUnit) : (s.withSteer x).tick = s.tick := rfl
@[simp] theorem withSteer_xt (x : SteeringUnit) : (s.withSteer x).xt = s.xt := rfl
@[simp] theorem withSteer_refs (x : SteeringUnit) : (s.withSteer x).refs = s.refs := rfl
@[simp] theorem withSteer_refCfg (x : SteeringUnit) : (s.withSteer x).refCfg = s.refCfg := rfl
@[simp] theorem withSteer_steer (x : SteeringUnit) : (s.withSteer x).steer = x := rfl
@[simp] theorem withSteer_leap (x : SteeringUnit) : (s.withSteer x).leap = s.leap := rfl
@[simp] theorem withSteer_arb (x : SteeringUnit) : (s.withSteer x).arb = s.arb := rfl
@[simp] theorem withSteer_epoch (x : SteeringUnit) : (s.withSteer x).epoch = s.epoch := rfl
@[simp] theorem withSteer_segs (x : SteeringUnit) : (s.withSteer x).segs = s.segs := rfl
@[simp] theorem withSteer_profiles (x : SteeringUnit) : (s.withSteer x).profiles = s.profiles := rfl
@[simp] theorem withSteer_commits (x : SteeringUnit) : (s.withSteer x).commits = s.commits := rfl
@[simp] theorem withSteer_drawIndex (x : SteeringUnit) : (s.withSteer x).drawIndex = s.drawIndex := rfl
@[simp] theorem withSteer_capture (x : SteeringUnit) : (s.withSteer x).capture = s.capture := rfl
@[simp] theorem withSteer_outputs (x : SteeringUnit) : (s.withSteer x).outputs = s.outputs := rfl
@[simp] theorem withSteer_trail (x : SteeringUnit) : (s.withSteer x).trail = s.trail := rfl
@[simp] theorem withSteer_ports (x : SteeringUnit) : (s.withSteer x).ports = s.ports := rfl
@[simp] theorem withSteer_lastCause (x : SteeringUnit) : (s.withSteer x).lastCause = s.lastCause := rfl
@[simp] theorem withSteer_freeIndex (x : SteeringUnit) : (s.withSteer x).freeIndex = s.freeIndex := rfl
@[simp] theorem withSteer_pending (x : SteeringUnit) : (s.withSteer x).pending = s.pending := rfl
@[simp] theorem withSteer_now (x : SteeringUnit) : (s.withSteer x).now = s.now := rfl
@[simp] theorem withSteer_writing (x : SteeringUnit) : (s.withSteer x).writing = s.writing := rfl

@[simp] theorem withLeap_tick (x : LeapUnit) : (s.withLeap x).tick = s.tick := rfl
@[simp] theorem withLeap_xt (x : LeapUnit) : (s.withLeap x).xt = s.xt := rfl
@[simp] theorem withLeap_refs (x : LeapUnit) : (s.withLeap x).refs = s.refs := rfl
@[simp] theorem withLeap_refCfg (x : LeapUnit) : (s.withLeap x).refCfg = s.refCfg := rfl
@[simp] theorem withLeap_steer (x : LeapUnit) : (s.withLeap x).steer = s.steer := rfl
@[simp] theorem withLeap_leap (x : LeapUnit) : (s.withLeap x).leap = x := rfl
@[simp] theorem withLeap_arb (x : LeapUnit) : (s.withLeap x).arb = s.arb := rfl
@[simp] theorem withLeap_epoch (x : LeapUnit) : (s.withLeap x).epoch = s.epoch := rfl
@[simp] theorem withLeap_segs (x : LeapUnit) : (s.withLeap x).segs = s.segs := rfl
@[simp] theorem withLeap_profiles (x : LeapUnit) : (s.withLeap x).profiles = s.profiles := rfl
@[simp] theorem withLeap_commits (x : LeapUnit) : (s.withLeap x).commits = s.commits := rfl
@[simp] theorem withLeap_drawIndex (x : LeapUnit) : (s.withLeap x).drawIndex = s.drawIndex := rfl
@[simp] theorem withLeap_capture (x : LeapUnit) : (s.withLeap x).capture = s.capture := rfl
@[simp] theorem withLeap_outputs (x : LeapUnit) : (s.withLeap x).outputs = s.outputs := rfl
@[simp] theorem withLeap_trail (x : LeapUnit) : (s.withLeap x).trail = s.trail := rfl
@[simp] theorem withLeap_ports (x : LeapUnit) : (s.withLeap x).ports = s.ports := rfl
@[simp] theorem withLeap_lastCause (x : LeapUnit) : (s.withLeap x).lastCause = s.lastCause := rfl
@[simp] theorem withLeap_freeIndex (x : LeapUnit) : (s.withLeap x).freeIndex = s.freeIndex := rfl
@[simp] theorem withLeap_pending (x : LeapUnit) : (s.withLeap x).pending = s.pending := rfl
@[simp] theorem withLeap_now (x : LeapUnit) : (s.withLeap x).now = s.now := rfl

@[simp] theorem withArb_tick (x : Arbiter) : (s.withArb x).tick = s.tick := rfl
@[simp] theorem withArb_xt (x : Arbiter) : (s.withArb x).xt = s.xt := rfl
@[simp] theorem withArb_refs (x : Arbiter) : (s.withArb x).refs = s.refs := rfl
@[simp] theorem withArb_refCfg (x : Arbiter) : (s.withArb x).refCfg = s.refCfg := rfl
@[simp] theorem withArb_steer (x : Arbiter) : (s.withArb x).steer = s.steer := rfl
@[simp] theorem withArb_leap (x : Arbiter) : (s.withArb x).leap = s.leap := rfl
@[simp] theorem withArb_arb (x : Arbiter) : (s.withArb x).arb = x := rfl
@[simp] theorem withArb_epoch (x : Arbiter) : (s.withArb x).epoch = s.epoch := rfl
@[simp] theorem withArb_segs (x : Arbiter) : (s.withArb x).segs = s.segs := rfl
@[simp] theorem withArb_profiles (x : Arbiter) : (s.withArb x).profiles = s.profiles := rfl
@[simp] theorem withArb_commits (x : Arbiter) : (s.withArb x).commits = s.commits := rfl
@[simp] theorem withArb_drawIndex (x : Arbiter) : (s.withArb x).drawIndex = s.drawIndex := rfl
@[simp] theorem withArb_capture (x : Arbiter) : (s.withArb x).capture = s.capture := rfl
@[simp] theorem withArb_outputs (x : Arbiter) : (s.withArb x).outputs = s.outputs := rfl
@[simp] theorem withArb_trail (x : Arbiter) : (s.withArb x).trail = s.trail := rfl
@[simp] theorem withArb_ports (x : Arbiter) : (s.withArb x).ports = s.ports := rfl
@[simp] theorem withArb_lastCause (x : Arbiter) : (s.withArb x).lastCause = s.lastCause := rfl
@[simp] theorem withArb_freeIndex (x : Arbiter) : (s.withArb x).freeIndex = s.freeIndex := rfl
@[simp] theorem withArb_pending (x : Arbiter) : (s.withArb x).pending = s.pending := rfl
@[simp] theorem withArb_now (x : Arbiter) : (s.withArb x).now = s.now := rfl

@[simp] theorem withEpoch_tick (x : EpochStore) : (s.withEpoch x).tick = s.tick := rfl
@[simp] theorem withEpoch_xt (x : EpochStore) : (s.withEpoch x).xt = s.xt := rfl
@[simp] theorem withEpoch_refs (x : EpochStore) : (s.withEpoch x).refs = s.refs := rfl
@[simp] theorem withEpoch_refCfg (x : EpochStore) : (s.withEpoch x).refCfg = s.refCfg := rfl
@[simp] theorem withEpoch_steer (x : EpochStore) : (s.withEpoch x).steer = s.steer := rfl
@[simp] theorem withEpoch_leap (x : EpochStore) : (s.withEpoch x).leap = s.leap := rfl
@[simp] theorem withEpoch_arb (x : EpochStore) : (s.withEpoch x).arb = s.arb := rfl
@[simp] theorem withEpoch_epoch (x : EpochStore) : (s.withEpoch x).epoch = x := rfl
@[simp] theorem withEpoch_segs (x : EpochStore) : (s.withEpoch x).segs = s.segs := rfl
@[simp] theorem withEpoch_profiles (x : EpochStore) : (s.withEpoch x).profiles = s.profiles := rfl
@[simp] theorem withEpoch_commits (x : EpochStore) : (s.withEpoch x).commits = s.commits := rfl
@[simp] theorem withEpoch_drawIndex (x : EpochStore) : (s.withEpoch x).drawIndex = s.drawIndex := rfl
@[simp] theorem withEpoch_capture (x : EpochStore) : (s.withEpoch x).capture = s.capture := rfl
@[simp] theorem withEpoch_outputs (x : EpochStore) : (s.withEpoch x).outputs = s.outputs := rfl
@[simp] theorem withEpoch_trail (x : EpochStore) : (s.withEpoch x).trail = s.trail := rfl
@[simp] theorem withEpoch_ports (x : EpochStore) : (s.withEpoch x).ports = s.ports := rfl
@[simp] theorem withEpoch_lastCause (x : EpochStore) : (s.withEpoch x).lastCause = s.lastCause := rfl
@[simp] theorem withEpoch_freeIndex (x : EpochStore) : (s.withEpoch x).freeIndex = s.freeIndex := rfl
@[simp] theorem withEpoch_pending (x : EpochStore) : (s.withEpoch x).pending = s.pending := rfl
@[simp] theorem withEpoch_now (x : EpochStore) : (s.withEpoch x).now = s.now := rfl
@[simp] theorem withEpoch_writing (x : EpochStore) : (s.withEpoch x).writing = s.writing := rfl

@[simp] theorem withSegs_tick (x : Bank 64 Segment) : (s.withSegs x).tick = s.tick := rfl
@[simp] theorem withSegs_xt (x : Bank 64 Segment) : (s.withSegs x).xt = s.xt := rfl
@[simp] theorem withSegs_refs (x : Bank 64 Segment) : (s.withSegs x).refs = s.refs := rfl
@[simp] theorem withSegs_refCfg (x : Bank 64 Segment) : (s.withSegs x).refCfg = s.refCfg := rfl
@[simp] theorem withSegs_steer (x : Bank 64 Segment) : (s.withSegs x).steer = s.steer := rfl
@[simp] theorem withSegs_leap (x : Bank 64 Segment) : (s.withSegs x).leap = s.leap := rfl
@[simp] theorem withSegs_arb (x : Bank 64 Segment) : (s.withSegs x).arb = s.arb := rfl
@[simp] theorem withSegs_epoch (x : Bank 64 Segment) : (s.withSegs x).epoch = s.epoch := rfl
@[simp] theorem withSegs_segs (x : Bank 64 Segment) : (s.withSegs x).segs = x := rfl
@[simp] theorem withSegs_profiles (x : Bank 64 Segment) : (s.withSegs x).profiles = s.profiles := rfl
@[simp] theorem withSegs_commits (x : Bank 64 Segment) : (s.withSegs x).commits = s.commits := rfl
@[simp] theorem withSegs_drawIndex (x : Bank 64 Segment) : (s.withSegs x).drawIndex = s.drawIndex := rfl
@[simp] theorem withSegs_capture (x : Bank 64 Segment) : (s.withSegs x).capture = s.capture := rfl
@[simp] theorem withSegs_outputs (x : Bank 64 Segment) : (s.withSegs x).outputs = s.outputs := rfl
@[simp] theorem withSegs_trail (x : Bank 64 Segment) : (s.withSegs x).trail = s.trail := rfl
@[simp] theorem withSegs_ports (x : Bank 64 Segment) : (s.withSegs x).ports = s.ports := rfl
@[simp] theorem withSegs_lastCause (x : Bank 64 Segment) : (s.withSegs x).lastCause = s.lastCause := rfl
@[simp] theorem withSegs_freeIndex (x : Bank 64 Segment) : (s.withSegs x).freeIndex = s.freeIndex := rfl
@[simp] theorem withSegs_pending (x : Bank 64 Segment) : (s.withSegs x).pending = s.pending := rfl
@[simp] theorem withSegs_now (x : Bank 64 Segment) : (s.withSegs x).now = s.now := rfl
@[simp] theorem withSegs_writing (x : Bank 64 Segment) : (s.withSegs x).writing = s.writing := rfl

@[simp] theorem withProfiles_tick (x : Bank 4 SegProfile) : (s.withProfiles x).tick = s.tick := rfl
@[simp] theorem withProfiles_xt (x : Bank 4 SegProfile) : (s.withProfiles x).xt = s.xt := rfl
@[simp] theorem withProfiles_refs (x : Bank 4 SegProfile) : (s.withProfiles x).refs = s.refs := rfl
@[simp] theorem withProfiles_refCfg (x : Bank 4 SegProfile) : (s.withProfiles x).refCfg = s.refCfg := rfl
@[simp] theorem withProfiles_steer (x : Bank 4 SegProfile) : (s.withProfiles x).steer = s.steer := rfl
@[simp] theorem withProfiles_leap (x : Bank 4 SegProfile) : (s.withProfiles x).leap = s.leap := rfl
@[simp] theorem withProfiles_arb (x : Bank 4 SegProfile) : (s.withProfiles x).arb = s.arb := rfl
@[simp] theorem withProfiles_epoch (x : Bank 4 SegProfile) : (s.withProfiles x).epoch = s.epoch := rfl
@[simp] theorem withProfiles_segs (x : Bank 4 SegProfile) : (s.withProfiles x).segs = s.segs := rfl
@[simp] theorem withProfiles_profiles (x : Bank 4 SegProfile) : (s.withProfiles x).profiles = x := rfl
@[simp] theorem withProfiles_commits (x : Bank 4 SegProfile) : (s.withProfiles x).commits = s.commits := rfl
@[simp] theorem withProfiles_drawIndex (x : Bank 4 SegProfile) : (s.withProfiles x).drawIndex = s.drawIndex := rfl
@[simp] theorem withProfiles_capture (x : Bank 4 SegProfile) : (s.withProfiles x).capture = s.capture := rfl
@[simp] theorem withProfiles_outputs (x : Bank 4 SegProfile) : (s.withProfiles x).outputs = s.outputs := rfl
@[simp] theorem withProfiles_trail (x : Bank 4 SegProfile) : (s.withProfiles x).trail = s.trail := rfl
@[simp] theorem withProfiles_ports (x : Bank 4 SegProfile) : (s.withProfiles x).ports = s.ports := rfl
@[simp] theorem withProfiles_lastCause (x : Bank 4 SegProfile) : (s.withProfiles x).lastCause = s.lastCause := rfl
@[simp] theorem withProfiles_freeIndex (x : Bank 4 SegProfile) : (s.withProfiles x).freeIndex = s.freeIndex := rfl
@[simp] theorem withProfiles_pending (x : Bank 4 SegProfile) : (s.withProfiles x).pending = s.pending := rfl
@[simp] theorem withProfiles_now (x : Bank 4 SegProfile) : (s.withProfiles x).now = s.now := rfl
@[simp] theorem withProfiles_writing (x : Bank 4 SegProfile) : (s.withProfiles x).writing = s.writing := rfl

@[simp] theorem withCommits_tick (x : List SegEvent) : (s.withCommits x).tick = s.tick := rfl
@[simp] theorem withCommits_xt (x : List SegEvent) : (s.withCommits x).xt = s.xt := rfl
@[simp] theorem withCommits_refs (x : List SegEvent) : (s.withCommits x).refs = s.refs := rfl
@[simp] theorem withCommits_refCfg (x : List SegEvent) : (s.withCommits x).refCfg = s.refCfg := rfl
@[simp] theorem withCommits_steer (x : List SegEvent) : (s.withCommits x).steer = s.steer := rfl
@[simp] theorem withCommits_leap (x : List SegEvent) : (s.withCommits x).leap = s.leap := rfl
@[simp] theorem withCommits_arb (x : List SegEvent) : (s.withCommits x).arb = s.arb := rfl
@[simp] theorem withCommits_epoch (x : List SegEvent) : (s.withCommits x).epoch = s.epoch := rfl
@[simp] theorem withCommits_segs (x : List SegEvent) : (s.withCommits x).segs = s.segs := rfl
@[simp] theorem withCommits_profiles (x : List SegEvent) : (s.withCommits x).profiles = s.profiles := rfl
@[simp] theorem withCommits_commits (x : List SegEvent) : (s.withCommits x).commits = x := rfl
@[simp] theorem withCommits_drawIndex (x : List SegEvent) : (s.withCommits x).drawIndex = s.drawIndex := rfl
@[simp] theorem withCommits_capture (x : List SegEvent) : (s.withCommits x).capture = s.capture := rfl
@[simp] theorem withCommits_outputs (x : List SegEvent) : (s.withCommits x).outputs = s.outputs := rfl
@[simp] theorem withCommits_trail (x : List SegEvent) : (s.withCommits x).trail = s.trail := rfl
@[simp] theorem withCommits_ports (x : List SegEvent) : (s.withCommits x).ports = s.ports := rfl
@[simp] theorem withCommits_lastCause (x : List SegEvent) : (s.withCommits x).lastCause = s.lastCause := rfl
@[simp] theorem withCommits_freeIndex (x : List SegEvent) : (s.withCommits x).freeIndex = s.freeIndex := rfl
@[simp] theorem withCommits_pending (x : List SegEvent) : (s.withCommits x).pending = s.pending := rfl
@[simp] theorem withCommits_now (x : List SegEvent) : (s.withCommits x).now = s.now := rfl
@[simp] theorem withCommits_writing (x : List SegEvent) : (s.withCommits x).writing = s.writing := rfl

@[simp] theorem withDrawIndex_tick (x : Nat) : (s.withDrawIndex x).tick = s.tick := rfl
@[simp] theorem withDrawIndex_xt (x : Nat) : (s.withDrawIndex x).xt = s.xt := rfl
@[simp] theorem withDrawIndex_refs (x : Nat) : (s.withDrawIndex x).refs = s.refs := rfl
@[simp] theorem withDrawIndex_refCfg (x : Nat) : (s.withDrawIndex x).refCfg = s.refCfg := rfl
@[simp] theorem withDrawIndex_steer (x : Nat) : (s.withDrawIndex x).steer = s.steer := rfl
@[simp] theorem withDrawIndex_leap (x : Nat) : (s.withDrawIndex x).leap = s.leap := rfl
@[simp] theorem withDrawIndex_arb (x : Nat) : (s.withDrawIndex x).arb = s.arb := rfl
@[simp] theorem withDrawIndex_epoch (x : Nat) : (s.withDrawIndex x).epoch = s.epoch := rfl
@[simp] theorem withDrawIndex_segs (x : Nat) : (s.withDrawIndex x).segs = s.segs := rfl
@[simp] theorem withDrawIndex_profiles (x : Nat) : (s.withDrawIndex x).profiles = s.profiles := rfl
@[simp] theorem withDrawIndex_commits (x : Nat) : (s.withDrawIndex x).commits = s.commits := rfl
@[simp] theorem withDrawIndex_drawIndex (x : Nat) : (s.withDrawIndex x).drawIndex = x := rfl
@[simp] theorem withDrawIndex_capture (x : Nat) : (s.withDrawIndex x).capture = s.capture := rfl
@[simp] theorem withDrawIndex_outputs (x : Nat) : (s.withDrawIndex x).outputs = s.outputs := rfl
@[simp] theorem withDrawIndex_trail (x : Nat) : (s.withDrawIndex x).trail = s.trail := rfl
@[simp] theorem withDrawIndex_ports (x : Nat) : (s.withDrawIndex x).ports = s.ports := rfl
@[simp] theorem withDrawIndex_lastCause (x : Nat) : (s.withDrawIndex x).lastCause = s.lastCause := rfl
@[simp] theorem withDrawIndex_freeIndex (x : Nat) : (s.withDrawIndex x).freeIndex = s.freeIndex := rfl
@[simp] theorem withDrawIndex_pending (x : Nat) : (s.withDrawIndex x).pending = s.pending := rfl
@[simp] theorem withDrawIndex_now (x : Nat) : (s.withDrawIndex x).now = s.now := rfl
@[simp] theorem withDrawIndex_writing (x : Nat) : (s.withDrawIndex x).writing = s.writing := rfl

@[simp] theorem withCapture_tick (x : Bank 8 CaptureLine) : (s.withCapture x).tick = s.tick := rfl
@[simp] theorem withCapture_xt (x : Bank 8 CaptureLine) : (s.withCapture x).xt = s.xt := rfl
@[simp] theorem withCapture_refs (x : Bank 8 CaptureLine) : (s.withCapture x).refs = s.refs := rfl
@[simp] theorem withCapture_refCfg (x : Bank 8 CaptureLine) : (s.withCapture x).refCfg = s.refCfg := rfl
@[simp] theorem withCapture_steer (x : Bank 8 CaptureLine) : (s.withCapture x).steer = s.steer := rfl
@[simp] theorem withCapture_leap (x : Bank 8 CaptureLine) : (s.withCapture x).leap = s.leap := rfl
@[simp] theorem withCapture_arb (x : Bank 8 CaptureLine) : (s.withCapture x).arb = s.arb := rfl
@[simp] theorem withCapture_epoch (x : Bank 8 CaptureLine) : (s.withCapture x).epoch = s.epoch := rfl
@[simp] theorem withCapture_segs (x : Bank 8 CaptureLine) : (s.withCapture x).segs = s.segs := rfl
@[simp] theorem withCapture_profiles (x : Bank 8 CaptureLine) : (s.withCapture x).profiles = s.profiles := rfl
@[simp] theorem withCapture_commits (x : Bank 8 CaptureLine) : (s.withCapture x).commits = s.commits := rfl
@[simp] theorem withCapture_drawIndex (x : Bank 8 CaptureLine) : (s.withCapture x).drawIndex = s.drawIndex := rfl
@[simp] theorem withCapture_capture (x : Bank 8 CaptureLine) : (s.withCapture x).capture = x := rfl
@[simp] theorem withCapture_outputs (x : Bank 8 CaptureLine) : (s.withCapture x).outputs = s.outputs := rfl
@[simp] theorem withCapture_trail (x : Bank 8 CaptureLine) : (s.withCapture x).trail = s.trail := rfl
@[simp] theorem withCapture_ports (x : Bank 8 CaptureLine) : (s.withCapture x).ports = s.ports := rfl
@[simp] theorem withCapture_lastCause (x : Bank 8 CaptureLine) : (s.withCapture x).lastCause = s.lastCause := rfl
@[simp] theorem withCapture_freeIndex (x : Bank 8 CaptureLine) : (s.withCapture x).freeIndex = s.freeIndex := rfl
@[simp] theorem withCapture_pending (x : Bank 8 CaptureLine) : (s.withCapture x).pending = s.pending := rfl
@[simp] theorem withCapture_now (x : Bank 8 CaptureLine) : (s.withCapture x).now = s.now := rfl
@[simp] theorem withCapture_writing (x : Bank 8 CaptureLine) : (s.withCapture x).writing = s.writing := rfl

@[simp] theorem withOutputs_tick (x : Bank 8 OutputLine) : (s.withOutputs x).tick = s.tick := rfl
@[simp] theorem withOutputs_xt (x : Bank 8 OutputLine) : (s.withOutputs x).xt = s.xt := rfl
@[simp] theorem withOutputs_refs (x : Bank 8 OutputLine) : (s.withOutputs x).refs = s.refs := rfl
@[simp] theorem withOutputs_refCfg (x : Bank 8 OutputLine) : (s.withOutputs x).refCfg = s.refCfg := rfl
@[simp] theorem withOutputs_steer (x : Bank 8 OutputLine) : (s.withOutputs x).steer = s.steer := rfl
@[simp] theorem withOutputs_leap (x : Bank 8 OutputLine) : (s.withOutputs x).leap = s.leap := rfl
@[simp] theorem withOutputs_arb (x : Bank 8 OutputLine) : (s.withOutputs x).arb = s.arb := rfl
@[simp] theorem withOutputs_epoch (x : Bank 8 OutputLine) : (s.withOutputs x).epoch = s.epoch := rfl
@[simp] theorem withOutputs_segs (x : Bank 8 OutputLine) : (s.withOutputs x).segs = s.segs := rfl
@[simp] theorem withOutputs_profiles (x : Bank 8 OutputLine) : (s.withOutputs x).profiles = s.profiles := rfl
@[simp] theorem withOutputs_commits (x : Bank 8 OutputLine) : (s.withOutputs x).commits = s.commits := rfl
@[simp] theorem withOutputs_drawIndex (x : Bank 8 OutputLine) : (s.withOutputs x).drawIndex = s.drawIndex := rfl
@[simp] theorem withOutputs_capture (x : Bank 8 OutputLine) : (s.withOutputs x).capture = s.capture := rfl
@[simp] theorem withOutputs_outputs (x : Bank 8 OutputLine) : (s.withOutputs x).outputs = x := rfl
@[simp] theorem withOutputs_trail (x : Bank 8 OutputLine) : (s.withOutputs x).trail = s.trail := rfl
@[simp] theorem withOutputs_ports (x : Bank 8 OutputLine) : (s.withOutputs x).ports = s.ports := rfl
@[simp] theorem withOutputs_lastCause (x : Bank 8 OutputLine) : (s.withOutputs x).lastCause = s.lastCause := rfl
@[simp] theorem withOutputs_freeIndex (x : Bank 8 OutputLine) : (s.withOutputs x).freeIndex = s.freeIndex := rfl
@[simp] theorem withOutputs_pending (x : Bank 8 OutputLine) : (s.withOutputs x).pending = s.pending := rfl
@[simp] theorem withOutputs_now (x : Bank 8 OutputLine) : (s.withOutputs x).now = s.now := rfl
@[simp] theorem withOutputs_writing (x : Bank 8 OutputLine) : (s.withOutputs x).writing = s.writing := rfl

@[simp] theorem withTrail_tick (x : TrailUnit) : (s.withTrail x).tick = s.tick := rfl
@[simp] theorem withTrail_xt (x : TrailUnit) : (s.withTrail x).xt = s.xt := rfl
@[simp] theorem withTrail_refs (x : TrailUnit) : (s.withTrail x).refs = s.refs := rfl
@[simp] theorem withTrail_refCfg (x : TrailUnit) : (s.withTrail x).refCfg = s.refCfg := rfl
@[simp] theorem withTrail_steer (x : TrailUnit) : (s.withTrail x).steer = s.steer := rfl
@[simp] theorem withTrail_leap (x : TrailUnit) : (s.withTrail x).leap = s.leap := rfl
@[simp] theorem withTrail_arb (x : TrailUnit) : (s.withTrail x).arb = s.arb := rfl
@[simp] theorem withTrail_epoch (x : TrailUnit) : (s.withTrail x).epoch = s.epoch := rfl
@[simp] theorem withTrail_segs (x : TrailUnit) : (s.withTrail x).segs = s.segs := rfl
@[simp] theorem withTrail_profiles (x : TrailUnit) : (s.withTrail x).profiles = s.profiles := rfl
@[simp] theorem withTrail_commits (x : TrailUnit) : (s.withTrail x).commits = s.commits := rfl
@[simp] theorem withTrail_drawIndex (x : TrailUnit) : (s.withTrail x).drawIndex = s.drawIndex := rfl
@[simp] theorem withTrail_capture (x : TrailUnit) : (s.withTrail x).capture = s.capture := rfl
@[simp] theorem withTrail_outputs (x : TrailUnit) : (s.withTrail x).outputs = s.outputs := rfl
@[simp] theorem withTrail_trail (x : TrailUnit) : (s.withTrail x).trail = x := rfl
@[simp] theorem withTrail_ports (x : TrailUnit) : (s.withTrail x).ports = s.ports := rfl
@[simp] theorem withTrail_lastCause (x : TrailUnit) : (s.withTrail x).lastCause = s.lastCause := rfl
@[simp] theorem withTrail_freeIndex (x : TrailUnit) : (s.withTrail x).freeIndex = s.freeIndex := rfl
@[simp] theorem withTrail_pending (x : TrailUnit) : (s.withTrail x).pending = s.pending := rfl
@[simp] theorem withTrail_now (x : TrailUnit) : (s.withTrail x).now = s.now := rfl
@[simp] theorem withTrail_writing (x : TrailUnit) : (s.withTrail x).writing = s.writing := rfl

@[simp] theorem withPorts_tick (x : Bank 8 PortCtl) : (s.withPorts x).tick = s.tick := rfl
@[simp] theorem withPorts_xt (x : Bank 8 PortCtl) : (s.withPorts x).xt = s.xt := rfl
@[simp] theorem withPorts_refs (x : Bank 8 PortCtl) : (s.withPorts x).refs = s.refs := rfl
@[simp] theorem withPorts_refCfg (x : Bank 8 PortCtl) : (s.withPorts x).refCfg = s.refCfg := rfl
@[simp] theorem withPorts_steer (x : Bank 8 PortCtl) : (s.withPorts x).steer = s.steer := rfl
@[simp] theorem withPorts_leap (x : Bank 8 PortCtl) : (s.withPorts x).leap = s.leap := rfl
@[simp] theorem withPorts_arb (x : Bank 8 PortCtl) : (s.withPorts x).arb = s.arb := rfl
@[simp] theorem withPorts_epoch (x : Bank 8 PortCtl) : (s.withPorts x).epoch = s.epoch := rfl
@[simp] theorem withPorts_segs (x : Bank 8 PortCtl) : (s.withPorts x).segs = s.segs := rfl
@[simp] theorem withPorts_profiles (x : Bank 8 PortCtl) : (s.withPorts x).profiles = s.profiles := rfl
@[simp] theorem withPorts_commits (x : Bank 8 PortCtl) : (s.withPorts x).commits = s.commits := rfl
@[simp] theorem withPorts_drawIndex (x : Bank 8 PortCtl) : (s.withPorts x).drawIndex = s.drawIndex := rfl
@[simp] theorem withPorts_capture (x : Bank 8 PortCtl) : (s.withPorts x).capture = s.capture := rfl
@[simp] theorem withPorts_outputs (x : Bank 8 PortCtl) : (s.withPorts x).outputs = s.outputs := rfl
@[simp] theorem withPorts_trail (x : Bank 8 PortCtl) : (s.withPorts x).trail = s.trail := rfl
@[simp] theorem withPorts_ports (x : Bank 8 PortCtl) : (s.withPorts x).ports = x := rfl
@[simp] theorem withPorts_lastCause (x : Bank 8 PortCtl) : (s.withPorts x).lastCause = s.lastCause := rfl
@[simp] theorem withPorts_freeIndex (x : Bank 8 PortCtl) : (s.withPorts x).freeIndex = s.freeIndex := rfl
@[simp] theorem withPorts_pending (x : Bank 8 PortCtl) : (s.withPorts x).pending = s.pending := rfl
@[simp] theorem withPorts_now (x : Bank 8 PortCtl) : (s.withPorts x).now = s.now := rfl
@[simp] theorem withPorts_writing (x : Bank 8 PortCtl) : (s.withPorts x).writing = s.writing := rfl

@[simp] theorem withLastCause_tick (x : Option StatusCause) : (s.withLastCause x).tick = s.tick := rfl
@[simp] theorem withLastCause_xt (x : Option StatusCause) : (s.withLastCause x).xt = s.xt := rfl
@[simp] theorem withLastCause_refs (x : Option StatusCause) : (s.withLastCause x).refs = s.refs := rfl
@[simp] theorem withLastCause_refCfg (x : Option StatusCause) : (s.withLastCause x).refCfg = s.refCfg := rfl
@[simp] theorem withLastCause_steer (x : Option StatusCause) : (s.withLastCause x).steer = s.steer := rfl
@[simp] theorem withLastCause_leap (x : Option StatusCause) : (s.withLastCause x).leap = s.leap := rfl
@[simp] theorem withLastCause_arb (x : Option StatusCause) : (s.withLastCause x).arb = s.arb := rfl
@[simp] theorem withLastCause_epoch (x : Option StatusCause) : (s.withLastCause x).epoch = s.epoch := rfl
@[simp] theorem withLastCause_segs (x : Option StatusCause) : (s.withLastCause x).segs = s.segs := rfl
@[simp] theorem withLastCause_profiles (x : Option StatusCause) : (s.withLastCause x).profiles = s.profiles := rfl
@[simp] theorem withLastCause_commits (x : Option StatusCause) : (s.withLastCause x).commits = s.commits := rfl
@[simp] theorem withLastCause_drawIndex (x : Option StatusCause) : (s.withLastCause x).drawIndex = s.drawIndex := rfl
@[simp] theorem withLastCause_capture (x : Option StatusCause) : (s.withLastCause x).capture = s.capture := rfl
@[simp] theorem withLastCause_outputs (x : Option StatusCause) : (s.withLastCause x).outputs = s.outputs := rfl
@[simp] theorem withLastCause_trail (x : Option StatusCause) : (s.withLastCause x).trail = s.trail := rfl
@[simp] theorem withLastCause_ports (x : Option StatusCause) : (s.withLastCause x).ports = s.ports := rfl
@[simp] theorem withLastCause_lastCause (x : Option StatusCause) : (s.withLastCause x).lastCause = x := rfl
@[simp] theorem withLastCause_freeIndex (x : Option StatusCause) : (s.withLastCause x).freeIndex = s.freeIndex := rfl
@[simp] theorem withLastCause_pending (x : Option StatusCause) : (s.withLastCause x).pending = s.pending := rfl
@[simp] theorem withLastCause_now (x : Option StatusCause) : (s.withLastCause x).now = s.now := rfl
@[simp] theorem withLastCause_writing (x : Option StatusCause) : (s.withLastCause x).writing = s.writing := rfl

@[simp] theorem withFreeIndex_tick (x : Nat) : (s.withFreeIndex x).tick = s.tick := rfl
@[simp] theorem withFreeIndex_xt (x : Nat) : (s.withFreeIndex x).xt = s.xt := rfl
@[simp] theorem withFreeIndex_refs (x : Nat) : (s.withFreeIndex x).refs = s.refs := rfl
@[simp] theorem withFreeIndex_refCfg (x : Nat) : (s.withFreeIndex x).refCfg = s.refCfg := rfl
@[simp] theorem withFreeIndex_steer (x : Nat) : (s.withFreeIndex x).steer = s.steer := rfl
@[simp] theorem withFreeIndex_leap (x : Nat) : (s.withFreeIndex x).leap = s.leap := rfl
@[simp] theorem withFreeIndex_arb (x : Nat) : (s.withFreeIndex x).arb = s.arb := rfl
@[simp] theorem withFreeIndex_epoch (x : Nat) : (s.withFreeIndex x).epoch = s.epoch := rfl
@[simp] theorem withFreeIndex_segs (x : Nat) : (s.withFreeIndex x).segs = s.segs := rfl
@[simp] theorem withFreeIndex_profiles (x : Nat) : (s.withFreeIndex x).profiles = s.profiles := rfl
@[simp] theorem withFreeIndex_commits (x : Nat) : (s.withFreeIndex x).commits = s.commits := rfl
@[simp] theorem withFreeIndex_drawIndex (x : Nat) : (s.withFreeIndex x).drawIndex = s.drawIndex := rfl
@[simp] theorem withFreeIndex_capture (x : Nat) : (s.withFreeIndex x).capture = s.capture := rfl
@[simp] theorem withFreeIndex_outputs (x : Nat) : (s.withFreeIndex x).outputs = s.outputs := rfl
@[simp] theorem withFreeIndex_trail (x : Nat) : (s.withFreeIndex x).trail = s.trail := rfl
@[simp] theorem withFreeIndex_ports (x : Nat) : (s.withFreeIndex x).ports = s.ports := rfl
@[simp] theorem withFreeIndex_lastCause (x : Nat) : (s.withFreeIndex x).lastCause = s.lastCause := rfl
@[simp] theorem withFreeIndex_freeIndex (x : Nat) : (s.withFreeIndex x).freeIndex = x := rfl
@[simp] theorem withFreeIndex_pending (x : Nat) : (s.withFreeIndex x).pending = s.pending := rfl
@[simp] theorem withFreeIndex_now (x : Nat) : (s.withFreeIndex x).now = s.now := rfl
@[simp] theorem withFreeIndex_writing (x : Nat) : (s.withFreeIndex x).writing = s.writing := rfl

@[simp] theorem withPending_tick (x : List Instr) : (s.withPending x).tick = s.tick := rfl
@[simp] theorem withPending_xt (x : List Instr) : (s.withPending x).xt = s.xt := rfl
@[simp] theorem withPending_refs (x : List Instr) : (s.withPending x).refs = s.refs := rfl
@[simp] theorem withPending_refCfg (x : List Instr) : (s.withPending x).refCfg = s.refCfg := rfl
@[simp] theorem withPending_steer (x : List Instr) : (s.withPending x).steer = s.steer := rfl
@[simp] theorem withPending_leap (x : List Instr) : (s.withPending x).leap = s.leap := rfl
@[simp] theorem withPending_arb (x : List Instr) : (s.withPending x).arb = s.arb := rfl
@[simp] theorem withPending_epoch (x : List Instr) : (s.withPending x).epoch = s.epoch := rfl
@[simp] theorem withPending_segs (x : List Instr) : (s.withPending x).segs = s.segs := rfl
@[simp] theorem withPending_profiles (x : List Instr) : (s.withPending x).profiles = s.profiles := rfl
@[simp] theorem withPending_commits (x : List Instr) : (s.withPending x).commits = s.commits := rfl
@[simp] theorem withPending_drawIndex (x : List Instr) : (s.withPending x).drawIndex = s.drawIndex := rfl
@[simp] theorem withPending_capture (x : List Instr) : (s.withPending x).capture = s.capture := rfl
@[simp] theorem withPending_outputs (x : List Instr) : (s.withPending x).outputs = s.outputs := rfl
@[simp] theorem withPending_trail (x : List Instr) : (s.withPending x).trail = s.trail := rfl
@[simp] theorem withPending_ports (x : List Instr) : (s.withPending x).ports = s.ports := rfl
@[simp] theorem withPending_lastCause (x : List Instr) : (s.withPending x).lastCause = s.lastCause := rfl
@[simp] theorem withPending_freeIndex (x : List Instr) : (s.withPending x).freeIndex = s.freeIndex := rfl
@[simp] theorem withPending_pending (x : List Instr) : (s.withPending x).pending = x := rfl
@[simp] theorem withPending_now (x : List Instr) : (s.withPending x).now = s.now := rfl
@[simp] theorem withPending_writing (x : List Instr) : (s.withPending x).writing = s.writing := rfl

end Sys2Proof.Machine.State
end

