-- ==== Sys2Proof/Laws/Frames.lean ====
section
/-! SUPPORT. One frame lemma for each shared operation: the blocks outside which it leaves the state as it was. -/

namespace Sys2Proof.Machine

/-! ## Agreement outside some blocks -/

namespace State.differsIn

variable {cs ds : List Block} {s t u : State}

theorem rfl' : State.differsIn cs s s := fun b _ => by cases b <;> rfl

theorem mono (h : State.differsIn cs s t) (sub : ∀ b ∈ cs, b ∈ ds) : State.differsIn ds s t :=
  fun b hb => h b fun hc => hb (sub b hc)

theorem trans (h1 : State.differsIn cs s t) (h2 : State.differsIn cs t u) : State.differsIn cs s u := fun b hb => by
  have e1 := h1 b hb
  have e2 := h2 b hb
  cases b <;> exact Eq.trans e2 e1

/-- Two operations in turn, each within blocks of `ds`. -/
theorem next {as bs : List Block} (h1 : State.differsIn as s t) (h2 : State.differsIn bs t u)
    (sa : ∀ b ∈ as, b ∈ ds) (sb : ∀ b ∈ bs, b ∈ ds) : State.differsIn ds s u :=
  (h1.mono sa).trans (h2.mono sb)

theorem ofIte {c : Prop} [Decidable c] (h1 : c → State.differsIn cs s t) (h2 : ¬c → State.differsIn cs s u) :
    State.differsIn cs s (if c then t else u) := by
  split
  · exact h1 ‹_›
  · exact h2 ‹_›

theorem ofFoldl {α : Type} {f : State → α → State} (h : ∀ s x, State.differsIn cs s (f s x)) :
    ∀ (l : List α) (s : State), State.differsIn cs s (l.foldl f s)
  | [], _ => rfl'
  | x :: l, s => (h s x).trans (ofFoldl h l (f s x))

end State.differsIn

open State.differsIn

namespace State

variable (s : State)

theorem withTick_frame (x) : differsIn [.tick] s (s.withTick x) := by intro b hb; cases b <;> first | rfl | simp at hb
theorem withXt_frame (x) : differsIn [.xt] s (s.withXt x) := by intro b hb; cases b <;> first | rfl | simp at hb
theorem withRefs_frame (x) : differsIn [.refs] s (s.withRefs x) := by intro b hb; cases b <;> first | rfl | simp at hb
theorem withRefCfg_frame (x) : differsIn [.refCfg] s (s.withRefCfg x) := by intro b hb; cases b <;> first | rfl | simp at hb
theorem withSteer_frame (x) : differsIn [.steer] s (s.withSteer x) := by intro b hb; cases b <;> first | rfl | simp at hb
theorem withLeap_frame (x) : differsIn [.leap] s (s.withLeap x) := by intro b hb; cases b <;> first | rfl | simp at hb
theorem withArb_frame (x) : differsIn [.arb] s (s.withArb x) := by intro b hb; cases b <;> first | rfl | simp at hb
theorem withSegs_frame (x) : differsIn [.segs] s (s.withSegs x) := by intro b hb; cases b <;> first | rfl | simp at hb
theorem withProfiles_frame (x) : differsIn [.profiles] s (s.withProfiles x) := by
  intro b hb; cases b <;> first | rfl | simp at hb
theorem withCommits_frame (x) : differsIn [.commits] s (s.withCommits x) := by
  intro b hb; cases b <;> first | rfl | simp at hb
theorem withDrawIndex_frame (x) : differsIn [.drawIndex] s (s.withDrawIndex x) := by
  intro b hb; cases b <;> first | rfl | simp at hb
theorem withCapture_frame (x) : differsIn [.capture] s (s.withCapture x) := by
  intro b hb; cases b <;> first | rfl | simp at hb
theorem withOutputs_frame (x) : differsIn [.outputs] s (s.withOutputs x) := by
  intro b hb; cases b <;> first | rfl | simp at hb
theorem withTrail_frame (x) : differsIn [.trail] s (s.withTrail x) := by intro b hb; cases b <;> first | rfl | simp at hb
theorem withPorts_frame (x) : differsIn [.ports] s (s.withPorts x) := by intro b hb; cases b <;> first | rfl | simp at hb
theorem withLastCause_frame (x) : differsIn [.lastCause] s (s.withLastCause x) := by
  intro b hb; cases b <;> first | rfl | simp at hb

/-! ## The trail, the ports, the requests -/

theorem ask_frame (b) : differsIn [.trail] s (s.ask b) := s.withTrail_frame _
theorem count_frame (f) : differsIn [.trail] s (s.count f) := s.withTrail_frame _
theorem withPort_frame (p pc) : differsIn [.ports] s (s.withPort p pc) := s.withPorts_frame _
theorem answer_frame (p r) : differsIn [.ports] s (s.answer p r) := s.withPort_frame _ _
theorem done_frame (p tag code b) : differsIn [.ports] s (s.done p tag code b) := s.answer_frame _ _

variable {s}

theorem take_frame {cs p tag body serve} (h : differsIn cs s (serve s)) : differsIn cs s (s.take p tag body serve) :=
  ofIte (fun _ => h) fun _ => rfl'

theorem takeWith_frame {cs right p tag body serve} (hp : Block.ports ∈ cs) (h : differsIn cs s (serve s)) :
    differsIn cs s (s.takeWith right p tag body serve) :=
  take_frame (ofIte (fun _ => h) fun _ => (s.done_frame _ _ _ _).mono (by simpa using hp))

variable (s)

theorem raiseStatus_frame (c) : differsIn [.ports, .lastCause] s (s.raiseStatus c) :=
  next (s.withLastCause_frame _) (withPorts_frame _ _) (by decide) (by decide)

/-! ## Segments and the commit list -/

theorem withSeg_frame (i g) : differsIn [.segs] s (s.withSeg i g) := s.withSegs_frame _
theorem commit_frame (e c) : differsIn [.segs, .commits] s (s.commit e c) :=
  next (s.withSeg_frame _ _) (withCommits_frame _ _) (by decide) (by decide)
theorem followCloses_frame : differsIn [.outputs] s s.followCloses := s.withOutputs_frame _
theorem shiftSegments_frame (t a) : differsIn [.segs] s (s.shiftSegments t a) := s.withSegs_frame _

/-! ## The pending leap record -/

theorem reportLeap_frame (e) : differsIn [.trail, .ports, .lastCause] s (s.reportLeap e) :=
  next (s.ask_frame _) (raiseStatus_frame _ _) (by decide) (by decide)

theorem withdrawLeap_frame (p) : differsIn [.leap, .segs, .trail, .ports, .lastCause] s (s.withdrawLeap p) :=
  next (next (ds := [.leap, .segs]) (s.withLeap_frame _) (shiftSegments_frame _ _ _) (by decide) (by decide))
    (reportLeap_frame _ _) (by decide) (by decide)

theorem makePending_frame (l src) : differsIn [.leap, .segs, .trail, .ports, .lastCause] s (s.makePending l src) := by
  unfold makePending
  split
  · exact (s.ask_frame _).mono (by decide)
  · exact (s.ask_frame _).mono (by decide)
  · exact next (next (ds := [.leap, .segs]) (s.withLeap_frame _) (shiftSegments_frame _ _ _) (by decide) (by decide))
      (reportLeap_frame _ _) (by decide) (by decide)

theorem agreeLeap_frame (l src) : differsIn [.leap, .segs, .trail, .ports, .lastCause] s (s.agreeLeap l src) := by
  unfold agreeLeap
  refine ofIte (fun _ => rfl') fun _ => ?_
  have h : differsIn [.leap, .segs, .trail, .ports, .lastCause] s
      (match s.leap.pending with | some p => s.withdrawLeap p | none => s) := by
    split
    · exact s.withdrawLeap_frame _
    · exact rfl'
  cases l with
  | none => exact h
  | some l => exact h.trans (makePending_frame _ _ _)

theorem compareLeap_frame : differsIn [.trail] s s.compareLeap := ofIte (fun _ => s.ask_frame _) fun _ => rfl'

theorem correctOffset_frame (n src) : differsIn [.leap, .segs, .trail, .ports, .lastCause] s (s.correctOffset n src) :=
  ofIte (fun _ => rfl') fun _ =>
    next (next (ds := [.leap, .segs]) (s.withLeap_frame _) (shiftSegments_frame _ _ _) (by decide) (by decide))
      (reportLeap_frame _ _) (by decide) (by decide)

theorem beginLeap_frame : differsIn [.leap, .trail, .ports, .lastCause] s s.beginLeap := by
  unfold beginLeap
  split
  · exact next (s.withLeap_frame _) (reportLeap_frame _ _) (by decide) (by decide)
  · exact rfl'

theorem executeLeap_frame : differsIn [.leap, .trail, .ports, .lastCause] s s.executeLeap := by
  unfold executeLeap
  split
  · exact next (s.withLeap_frame _) (reportLeap_frame _ _) (by decide) (by decide)
  · exact rfl'

theorem actOnLeap_frame : differsIn [.leap, .trail, .ports, .lastCause] s s.actOnLeap := by
  unfold actOnLeap
  have h : differsIn [.leap, .trail, .ports, .lastCause] s (if s.leap.beginDue s.now then s.beginLeap else s) :=
    ofIte (fun _ => s.beginLeap_frame) fun _ => rfl'
  exact h.trans (ofIte (fun _ => executeLeap_frame _) fun _ => rfl')

/-! ## Changes of the timescale state -/

theorem tellLeap_frame (old) : differsIn [.leap, .segs, .trail, .ports, .lastCause] s (s.tellLeap old) := by
  unfold tellLeap
  split
  · exact (s.withLeap_frame _).mono (by decide)
  · split
    · exact ofIte (fun _ => rfl') fun _ => s.agreeLeap_frame _ _
    · exact rfl'
  · split
    · exact ofIte (fun _ => rfl') fun _ => s.agreeLeap_frame _ _
    · exact rfl'
  · exact rfl'

theorem enterState_frame (st) : differsIn [.steer, .leap, .segs, .trail, .ports, .lastCause] s (s.enterState st) :=
  next (s.withSteer_frame _) (tellLeap_frame _ _) (by decide) (by decide)

theorem reportTimescale_frame (old c) : differsIn [.trail, .ports, .lastCause] s (s.reportTimescale old c) :=
  next (s.ask_frame _) (raiseStatus_frame _ _) (by decide) (by decide)

theorem tryLockWait_frame : differsIn [.tick] s s.tryLockWait := ofIte (fun _ => s.withTick_frame _) fun _ => rfl'

theorem completeSettle_frame : differsIn [.tick] s s.completeSettle :=
  (s.withTick_frame _).trans (tryLockWait_frame _)

theorem mainLoss_frame : differsIn [.tick, .steer, .leap, .segs, .trail, .ports, .lastCause] s s.mainLoss := by
  unfold mainLoss
  dsimp only
  split
  · exact next (next (ds := [.tick, .steer, .leap, .segs, .trail, .ports, .lastCause])
      (next (ds := [.tick, .steer]) (s.withTick_frame _) (withSteer_frame _ _) (by decide) (by decide))
      (enterState_frame _ _) (by decide) (by decide)) (reportTimescale_frame _ _ _) (by decide) (by decide)
  · exact next (next (ds := [.tick, .steer, .leap, .segs, .trail, .ports, .lastCause]) (s.withTick_frame _)
      (enterState_frame _ _) (by decide) (by decide)) (reportTimescale_frame _ _ _) (by decide) (by decide)
  · exact next (next (ds := [.tick, .steer, .leap, .segs, .trail, .ports, .lastCause]) (s.withTick_frame _)
      (enterState_frame _ _) (by decide) (by decide)) (reportTimescale_frame _ _ _) (by decide) (by decide)
  · exact rfl'

theorem finishReturn_frame : differsIn [.tick, .steer, .leap, .segs, .trail, .ports, .lastCause] s s.finishReturn := by
  refine ofIte (fun _ => ?_) fun _ => rfl'
  exact next (next (ds := [.tick, .steer, .leap, .segs, .trail, .ports, .lastCause])
    (next (ds := [.tick, .steer]) (s.withTick_frame _) (withSteer_frame _ _) (by decide) (by decide))
    (enterState_frame _ _) (by decide) (by decide)) (reportTimescale_frame _ _ _) (by decide) (by decide)

/-! ## The opening of stamping -/

theorem withdrawSteps_frame : differsIn [.ports, .steer] s s.withdrawSteps := by
  refine next (ofFoldl (cs := [.ports]) (fun s st => ?_) s.steer.pendingSteps s) (withSteer_frame _ _) (by decide) (by decide)
  split
  · exact s.done_frame _ _ _ _
  · exact rfl'

theorem missSegment_frame (i) : differsIn [.segs, .commits] s (s.missSegment i) := by
  unfold missSegment
  dsimp only
  split
  · exact ofIte (fun _ => next (s.withSeg_frame _ _) (commit_frame _ _ _) (by decide) (by decide)) fun _ => rfl'
  · exact rfl'

theorem openStamping_frame : differsIn [.ports, .steer, .segs, .commits] s s.openStamping :=
  ofIte (fun _ => rfl') fun _ =>
    next (next (ds := [.ports, .steer]) s.withdrawSteps_frame (withSteer_frame _ _) (by decide) (by decide))
      (ofFoldl (fun s i => missSegment_frame s i) _ _) (by decide) (by decide)

theorem expireAcquisition_frame :
    differsIn [.steer, .leap, .segs, .trail, .ports, .lastCause, .commits] s s.expireAcquisition := by
  refine ofIte (fun _ => ?_) fun _ => (s.withSteer_frame _).mono (by decide)
  exact next (next (ds := [.steer, .leap, .segs, .trail, .ports, .lastCause, .commits])
    (next (ds := [.steer, .leap, .segs, .trail, .ports, .lastCause])
      ((s.withSteer_frame _).trans (withSteer_frame _ _)) (enterState_frame _ _) (by decide) (by decide))
    (openStamping_frame _) (by decide) (by decide)) (reportTimescale_frame _ _ _) (by decide) (by decide)

/-! ## The port reset -/

theorem emptyFifos_frame (p) : differsIn [.capture, .trail] s (s.emptyFifos p) :=
  next (s.withCapture_frame _) (count_frame _ _) (by decide) (by decide)

theorem resetPort_frame (p c) : differsIn [.ports, .steer, .capture, .trail] s (s.resetPort p c) :=
  next (next (ds := [.ports, .steer, .capture, .trail])
    (next (ds := [.ports, .steer]) (s.withPort_frame _ _) (withSteer_frame _ _) (by decide) (by decide))
    (emptyFifos_frame _ _) (by decide) (by decide)) (ask_frame _ _) (by decide) (by decide)

/-! ## Reference Monitors -/

theorem withRef_frame (r x) : differsIn [.refs] s (s.withRef r x) := s.withRefs_frame _

theorem changeRef_frame (r n) : differsIn [.refs, .trail, .ports, .lastCause] s (s.changeRef r n) :=
  next (next (ds := [.refs, .trail]) (s.withRef_frame _ _) (ask_frame _ _) (by decide) (by decide)) (raiseStatus_frame _ _)
    (by decide) (by decide)

theorem recordVerdict_frame (r v m) : differsIn [.refs, .trail, .ports, .lastCause] s (s.recordVerdict r v m) := by
  unfold recordVerdict
  dsimp only
  have h : differsIn [.refs, .trail] s ((s.withRef r ((s.refs.get r).record v m s.now)).count fun c => c.verdict r v) :=
    next (s.withRef_frame _ _) (count_frame _ _) (by decide) (by decide)
  split
  · exact h.mono (by decide)
  · exact next h (changeRef_frame _ _ _) (by decide) (by decide)

/-! ## The second mark -/

theorem handOver_frame : differsIn [.refs] s s.handOver := s.withRefs_frame _

theorem select_frame : differsIn [.steer, .leap, .refs, .trail, .ports, .lastCause] s s.select := by
  refine ofIte (fun _ => rfl') fun _ => ?_
  exact next (next (ds := [.steer, .leap, .trail, .ports, .lastCause])
    (next (ds := [.steer, .leap, .trail])
      (next (ds := [.steer, .leap]) (s.withSteer_frame _) (withLeap_frame _ _) (by decide) (by decide))
      (ask_frame _ _) (by decide) (by decide)) (raiseStatus_frame _ _) (by decide) (by decide)) (withRefs_frame _ _)
    (by decide) (by decide)

theorem crossCheck_frame (v) : differsIn [.refs] s (s.crossCheck v) := by
  unfold crossCheck
  split
  · exact rfl'
  · exact s.withRefs_frame _

theorem markReferences_frame : differsIn [.steer, .leap, .refs, .trail, .ports, .lastCause] s s.markReferences :=
  next (next (ds := [.steer, .leap, .refs, .trail, .ports, .lastCause]) s.handOver_frame (select_frame _) (by decide)
    (by decide)) (crossCheck_frame _ _) (by decide) (by decide)

theorem decideState_frame (ch g) :
    differsIn [.steer, .leap, .segs, .trail, .ports, .lastCause, .commits] s (s.decideState ch g) := by
  unfold decideState
  split
  · unfold decideAcquire
    split
    · exact (s.withSteer_frame _).mono (by decide)
    · refine ofIte (fun _ => (s.withSteer_frame _).mono (by decide)) fun _ =>
        ofIte (fun _ => (s.withSteer_frame _).mono (by decide)) fun _ => ?_
      exact next (next (ds := [.steer, .leap, .segs, .trail, .ports, .lastCause]) (s.withSteer_frame _)
        (enterState_frame _ _) (by decide) (by decide)) (openStamping_frame _) (by decide) (by decide)
  · unfold decideLocked
    split
    · exact next (s.withSteer_frame _) (enterState_frame _ _) (by decide) (by decide)
    · split
      · exact (s.withSteer_frame _).mono (by decide)
      · exact rfl'
  · unfold decideHoldover
    split
    · exact next (s.withSteer_frame _) (enterState_frame _ _) (by decide) (by decide)
    · exact rfl'
  · exact rfl'

theorem markSteer_frame (ch g) :
    differsIn [.steer, .leap, .segs, .trail, .ports, .lastCause, .commits] s (s.markSteer ch g) := by
  unfold markSteer
  dsimp only
  have h0 : differsIn [.steer] s (s.withSteer s.steer.takeItems) := s.withSteer_frame _
  have h1 := decideState_frame (s.withSteer s.steer.takeItems) ch g
  have h := next (ds := [.steer, .leap, .segs, .trail, .ports, .lastCause, .commits]) h0 h1 (by decide) (by decide)
  exact next h (((withSteer_frame _ _).trans (withSteer_frame _ _)).trans (withSteer_frame _ _)) (by decide) (by decide)

theorem reportMark_frame (o t) : differsIn [.trail, .ports, .lastCause] s (s.reportMark o t) :=
  ofIte (fun _ => s.reportTimescale_frame _ _) fun _ => ofIte (fun _ => s.reportTimescale_frame _ _) fun _ => rfl'

theorem evidenceStage_frame (e) : differsIn [.trail] s (s.evidenceStage e) := (s.ask_frame _).trans (count_frame _ _)

theorem readMessage_frame (m) : differsIn [.leap, .segs, .trail, .ports, .lastCause] s (s.readMessage m) := by
  unfold readMessage
  dsimp only
  have h : differsIn [.leap, .segs, .trail, .ports, .lastCause] s
      (if s.leapNow = .none ∧ s.leap.pending = none then s.correctOffset m.offset .reference else s) :=
    ofIte (fun _ => s.correctOffset_frame _ _) fun _ => rfl'
  refine h.trans (ofIte (fun _ => rfl') fun _ => ?_)
  exact next (next (ds := [.leap, .segs, .trail, .ports, .lastCause]) (withLeap_frame _ _) (agreeLeap_frame _ _ _)
    (by decide) (by decide)) (compareLeap_frame _) (by decide) (by decide)

theorem leapHandOver_frame (g) : differsIn [.leap, .segs, .trail, .ports, .lastCause] s (s.leapHandOver g) := by
  unfold leapHandOver
  split
  · split
    · exact ofIte (fun _ => s.readMessage_frame _) fun _ => rfl'
    · exact rfl'
  · exact rfl'

theorem trailMark_frame : differsIn [.trail] s s.trailMark := s.withTrail_frame _

theorem steerMark_frame :
    differsIn [.refs, .steer, .leap, .segs, .trail, .ports, .lastCause, .commits] s s.steerMark :=
  next (next (ds := [.refs, .steer, .leap, .segs, .trail, .ports, .lastCause, .commits])
    (next (ds := [.refs, .steer, .leap, .segs, .trail, .ports, .lastCause, .commits])
      (next (ds := [.refs, .steer, .leap, .segs, .trail, .ports, .lastCause, .commits]) s.markReferences_frame
        (markSteer_frame _ _ _) (by decide) (by decide)) (reportMark_frame _ _ _) (by decide) (by decide))
    (evidenceStage_frame _ _) (by decide) (by decide)) (leapHandOver_frame _ _) (by decide) (by decide)

/-! ## Arbitration, captures, segment grants and writes -/

theorem grant_frame : differsIn [.arb] s s.grant := s.withArb_frame _

theorem grantHead_frame : differsIn [.arb, .commits] s s.grantHead :=
  next (s.grant_frame.trans (withArb_frame _ _)) (withCommits_frame _ _) (by decide) (by decide)

theorem remap_frame (l q) : differsIn [.capture, .trail] s (s.remap l q) :=
  ofIte (fun _ => rfl') fun _ => next (s.withCapture_frame _) (count_frame _ _) (by decide) (by decide)

theorem setEdges_frame (p l e) : differsIn [.capture, .trail] s (s.setEdges p l e) :=
  ofIte (fun _ => rfl') fun _ => next (s.withCapture_frame _) (ask_frame _ _) (by decide) (by decide)

theorem setMapping_frame (p l q) : differsIn [.capture, .trail] s (s.setMapping p l q) :=
  ofIte (fun _ => rfl') fun _ => next (s.remap_frame _ _) (ask_frame _ _) (by decide) (by decide)

theorem applyCapture_frame (p l e q) : differsIn [.capture, .trail] s (s.applyCapture p l e q) := by
  cases e <;> cases q <;>
    first
    | exact rfl'
    | exact s.setEdges_frame _ _ _
    | exact s.setMapping_frame _ _ _
    | exact (s.setEdges_frame _ _ _).trans (setMapping_frame _ _ _ _)

theorem notifySubscribers_frame (n) : differsIn [.ports] s (s.notifySubscribers n) := by
  unfold notifySubscribers
  split
  · exact s.withPorts_frame _
  · exact rfl'

theorem report_frame (i e c r n) : differsIn [.trail, .ports, .outputs] s (s.report i e c r n) :=
  next (next (ds := [.trail, .ports]) (s.ask_frame _) (notifySubscribers_frame _ _) (by decide) (by decide))
    (followCloses_frame _) (by decide) (by decide)

theorem endCycle_frame (i o x d v p c) : differsIn [.segs, .trail, .ports, .outputs] s (s.endCycle i o x d v p c) :=
  next (s.withSeg_frame _ _) (report_frame _ _ _ _ _ _) (by decide) (by decide)

theorem applyWrite_frame (i swap p d e) : differsIn [.segs, .commits, .trail, .outputs] s (s.applyWrite i swap p d e) := by
  cases e
  case refused => exact rfl'
  case remove =>
    exact next (next (ds := [.segs, .trail]) (s.withSeg_frame _ _) (ask_frame _ _) (by decide) (by decide))
      (followCloses_frame _) (by decide) (by decide)
  all_goals
    exact next (next (ds := [.segs, .commits]) (s.withSeg_frame _ _) (commit_frame _ _ _) (by decide) (by decide))
      (followCloses_frame _) (by decide) (by decide)

/-! ## Outputs, frames received, SET_TIMING, SET_LEAP -/

theorem setOutput_frame (p tag l o c) : differsIn [.outputs, .trail, .ports] s (s.setOutput p tag l o c) := by
  refine next (next (ds := [.outputs, .trail]) (s.withOutputs_frame _) (ofIte (cs := [.trail]) (fun _ => rfl') fun _ => ?_)
    (by decide) (by decide)) (done_frame _ _ _ _ _) (by decide) (by decide)
  exact ask_frame _ _

theorem serveOutput_frame (p tag m f new) : differsIn [.outputs, .trail, .ports] s (s.serveOutput p tag m f new) := by
  refine takeWith_frame (by decide) ?_
  split
  · exact (s.done_frame _ _ _ _).mono (by decide)
  · exact s.setOutput_frame _ _ _ _ _

theorem overrun_frame (p) : differsIn [.ports, .trail] s (s.overrun p) :=
  next (next (ds := [.ports, .trail]) (s.withPort_frame _ _)
    (ofIte (cs := [.trail]) (fun _ => ask_frame _ _) fun _ => rfl') (by decide) (by decide)) (withPort_frame _ _ _)
    (by decide) (by decide)

theorem offer_frame (p q) : differsIn [.ports, .trail] s (s.offer p q) :=
  ofIte (fun _ => (s.withPort_frame _ _).mono (by decide)) fun _ => s.overrun_frame _

theorem linkUp_frame (p) : differsIn [.ports, .trail] s (s.linkUp p) :=
  ofIte (fun _ => rfl') fun _ => next (s.withPort_frame _ _) (ask_frame _ _) (by decide) (by decide)

theorem receive_frame (p f) : differsIn [.ports, .trail] s (s.receive p f) := by
  refine next (ds := [.ports, .trail]) (next (ds := [.ports, .trail]) (s.linkUp_frame p) (withPort_frame _ _ _) (by decide)
    (by decide)) (ofIte (fun _ => rfl') fun _ => offer_frame _ _ _) (by decide) (by decide)

/-- A SET_TIMING whose effect stays within `cs`: the request changes no other block but the trail and the ports. -/
theorem acceptItem_frame {cs : List Block} {p tag item v old write} (h : ∀ x t, differsIn cs t (write x t)) :
    differsIn (.trail :: .ports :: cs) s (s.acceptItem p tag item v old write) :=
  next (next (ds := .trail :: .ports :: cs) (s.ask_frame _) (h _ _) (by simp) (by simp +contextual)) (done_frame _ _ _ _ _)
    (by simp) (by simp)

theorem serveItem_frame {cs : List Block} {p tag item v old write} (h : ∀ x t, differsIn cs t (write x t)) :
    differsIn (.trail :: .ports :: cs) s (s.serveItem p tag item v old write) :=
  takeWith_frame (by simp) (s.acceptItem_frame h)

theorem writeSettle_frame (n) : differsIn [.tick] s (s.writeSettle n) := by
  unfold writeSettle
  dsimp only
  split
  · exact ((s.withTick_frame _).trans (withTick_frame _ _)).trans (ofIte (fun _ => completeSettle_frame _) fun _ => rfl')
  · exact s.withTick_frame _

theorem writeLoop_frame (f) : differsIn [.steer] s (s.writeLoop f) := s.withSteer_frame _

theorem writeAcqTimeout_frame (n) :
    differsIn [.steer, .leap, .segs, .trail, .ports, .lastCause, .commits] s (s.writeAcqTimeout n) :=
  next (s.withSteer_frame _) (ofIte (fun _ => expireAcquisition_frame _) fun _ => rfl') (by decide) (by decide)

theorem writeM_frame (n) : differsIn [.steer, .trail, .ports, .lastCause] s (s.writeM n) :=
  next (s.withSteer_frame _) (ofIte (cs := [.trail, .ports, .lastCause]) (fun _ => rfl') fun _ => reportTimescale_frame _ _ _)
    (by decide) (by decide)

theorem storeLeap_frame (l) : differsIn [.leap, .segs, .trail, .ports, .lastCause] s (s.storeLeap l) := by
  refine next (ds := [.leap, .segs, .trail, .ports, .lastCause]) (s.withLeap_frame _)
    (ofIte (cs := [.leap, .segs, .trail, .ports, .lastCause]) (fun _ => ?_) fun _ => agreeLeap_frame _ _ _) (by decide)
    (by decide)
  exact (compareLeap_frame _).mono (by decide)

theorem setLeap_frame (p tag l) : differsIn [.leap, .segs, .trail, .ports, .lastCause] s (s.setLeap p tag l) := by
  refine ofIte (fun _ => (s.done_frame _ _ _ _).mono (by decide)) fun _ => ?_
  split
  · exact (s.done_frame _ _ _ _).mono (by decide)
  · exact next (s.storeLeap_frame _) (done_frame _ _ _ _ _) (by decide) (by decide)

/-! ## The tick -/

theorem elapse_frame : differsIn [.tick, .steer, .ports, .arb, .freeIndex] s s.elapse := by
  intro b hb; cases b <;> first | rfl | simp at hb

theorem advance_frame : differsIn [.tick, .steer, .ports, .arb, .freeIndex, .xt] s s.advance :=
  next s.elapse_frame (withXt_frame _ _) (by decide) (by decide)

theorem stepTo_frame (v) : differsIn [.tick, .steer, .ports, .arb, .freeIndex, .xt, .refs, .outputs] s (s.stepTo v) := by
  intro b hb; cases b <;> first | rfl | simp at hb

theorem answerStep_frame (o) : differsIn [.ports] s (s.answerStep o) := by
  unfold answerStep
  split
  · exact s.done_frame _ _ _ _
  · exact rfl'

end State

end Sys2Proof.Machine
end

