-- ==== Sys2Proof/Laws/Ops.lean ====
section
/-! SUPPORT. What the shared operations do, said once: the port controllers under each replacement, taking and answering a request,
the serial receiver, the notices, the writing of the trail, and the segment records. -/

namespace Sys2Proof.Machine

theorem satAdd_eq_min (limit n k : Nat) : satAdd limit n k = min (n + k) limit := by
  unfold satAdd
  split <;> omega

theorem bump_eq_min (n : Nat) : bump n = min (n + 1) 4294967295 := satAdd_eq_min _ _ _

/-- A free entry of the response queue (R155). -/
theorem PortCtl.hasRoom_iff (pc : PortCtl) : pc.hasRoom = true ↔ pc.responses.length < 64 := by
  unfold PortCtl.hasRoom; exact decide_eq_true_iff

/-- An empty pending-notice set (R158). -/
theorem PortCtl.noSlots_iff (pc : PortCtl) :
    pc.noSlots = true ↔ pc.pendStatus = none ∧ pc.pendSegs = [] ∧ pc.pendPort = false := by
  simp [PortCtl.noSlots, and_assoc]

/-- The line is idle for 500 us before a byte when it was high for all of them, after the last stop bit (R18). -/
theorem RefRecord.idleBefore_iff (x : RefRecord) (b : LineByte) (stop : Ns) :
    x.idleBefore b stop = true ↔ 500000 ≤ b.high ∧ x.busyUntil + 500000 ≤ stop - 82465 := by
  unfold RefRecord.idleBefore
  rw [Bool.and_eq_true]
  exact and_congr decide_eq_true_iff decide_eq_true_iff

/-- A receiver that waits takes no byte before which the line was not idle (R18). -/
theorem RefRecord.hearByte_of_busy {x : RefRecord} {now : Ns} {b : LineByte} (hw : x.assembly = none)
    (hb : x.idleBefore b (now - (b.ago : Int)) = false) :
    x.hearByte now b = { x with assembly := none, busyUntil := now - (b.ago : Int) } := by
  simp [RefRecord.hearByte, RefRecord.underAssembly, hb, hw]

/-! ## Port controllers under the replacements -/

namespace State

variable (s : State) (p : Port)

@[simp] theorem port_withTick (x) : (s.withTick x).port p = s.port p := rfl
@[simp] theorem port_withXt (x) : (s.withXt x).port p = s.port p := rfl
@[simp] theorem port_withRefs (x) : (s.withRefs x).port p = s.port p := rfl
@[simp] theorem port_withRefCfg (x) : (s.withRefCfg x).port p = s.port p := rfl
@[simp] theorem port_withSteer (x) : (s.withSteer x).port p = s.port p := rfl
@[simp] theorem port_withLeap (x) : (s.withLeap x).port p = s.port p := rfl
@[simp] theorem port_withArb (x) : (s.withArb x).port p = s.port p := rfl
@[simp] theorem port_withEpoch (x) : (s.withEpoch x).port p = s.port p := rfl
@[simp] theorem port_withSegs (x) : (s.withSegs x).port p = s.port p := rfl
@[simp] theorem port_withProfiles (x) : (s.withProfiles x).port p = s.port p := rfl
@[simp] theorem port_withCommits (x) : (s.withCommits x).port p = s.port p := rfl
@[simp] theorem port_withDrawIndex (x) : (s.withDrawIndex x).port p = s.port p := rfl
@[simp] theorem port_withCapture (x) : (s.withCapture x).port p = s.port p := rfl
@[simp] theorem port_withOutputs (x) : (s.withOutputs x).port p = s.port p := rfl
@[simp] theorem port_withTrail (x) : (s.withTrail x).port p = s.port p := rfl
@[simp] theorem port_withLastCause (x) : (s.withLastCause x).port p = s.port p := rfl
@[simp] theorem port_withFreeIndex (x) : (s.withFreeIndex x).port p = s.port p := rfl
@[simp] theorem port_withPending (x) : (s.withPending x).port p = s.port p := rfl
@[simp] theorem port_ask (b) : (s.ask b).port p = s.port p := rfl
@[simp] theorem port_count (f) : (s.count f).port p = s.port p := rfl

@[simp] theorem port_withPorts (x : Bank 8 PortCtl) : (s.withPorts x).port p = x.get p := rfl

@[simp] theorem port_withPort_same (pc) : (s.withPort p pc).port p = pc := by simp [withPort]

theorem port_withPort_ne {q : Port} (pc) (h : q ≠ p) : (s.withPort p pc).port q = s.port q := by
  simp [withPort, State.port, Bank.get_set_ne _ _ h]

/-- Replacing one controller changes that controller alone. -/
theorem withPort_only (pc) : State.onlyPort p pc s (s.withPort p pc) :=
  ⟨s.withPort_frame p pc, s.port_withPort_same p pc, fun _ h => s.port_withPort_ne p pc h⟩

/-! ## Answers -/

theorem answer_port_same (r) : (s.answer p r).port p = (s.port p).answer r := s.port_withPort_same p _

end State

/-- Two occupancies of a request queue, on both sides of the hold limit exactly when the first is `k` (R153). -/
theorem hold_changes {n m k : Nat} (h : (28 ≤ n ↔ 28 ≤ m) ↔ n ≠ k) :
    (decide (holdFrom ≤ n) != decide (holdFrom ≤ m)) = decide (n = k) := by
  change (holdFrom ≤ n ↔ holdFrom ≤ m) ↔ n ≠ k at h
  rw [Bool.eq_iff_iff]
  simp only [bne_iff_ne, ne_eq, decide_eq_decide, decide_eq_true_eq]
  tauto

/-- The head request leaves at the end of its service (R153, R154). -/
theorem PortCtl.complete_eq_served (pc : PortCtl) : pc.complete = pc.served := by
  have h := hold_changes (n := pc.requests.length) (m := pc.requests.tail.length) (k := 28) (by rw [List.length_tail]; omega)
  simp only [PortCtl.complete, PortCtl.served, PortCtl.withRequests, PortCtl.hold, h]

/-- A request joins the queue: the hold indication changes when 27 requests become 28 (R153). -/
theorem PortCtl.withRequests_join (pc : PortCtl) (q : Request) :
    pc.withRequests (pc.requests ++ [q]) =
      { pc with requests := pc.requests ++ [q], holdChanged := pc.holdChanged || decide (pc.requests.length = 27) } := by
  have h := hold_changes (n := pc.requests.length) (m := (pc.requests ++ [q]).length) (k := 27) (by
    rw [List.length_append, List.length_singleton]; omega)
  simp only [PortCtl.withRequests, PortCtl.hold, h]

/-- A notice enters at once when no slot waits and an entry is free beside the one that a waiting answer takes (R155, R157). -/
theorem PortCtl.takesNotice_iff (pc : PortCtl) :
    pc.takesNotice = true ↔
      pc.noSlots = true ∧ pc.responses.length + (if pc.answerWaits then 1 else 0) < 64 := by
  rw [PortCtl.takesNotice, Bool.and_eq_true, decide_eq_true_iff, PortCtl.freeForNotices, PortCtl.freeResponses, responsePlaces]
  exact and_congr_right fun _ => by omega

/-- An answer takes the request from the queue and a free entry of the response queue, or waits (R154). -/
theorem PortCtl.answer_eq_answered (pc : PortCtl) (r : Record) : pc.answer r = pc.answered r := by
  unfold PortCtl.answer PortCtl.answered
  by_cases h : pc.responses.length < 64
  · rw [if_pos (pc.hasRoom_iff.mpr h), if_pos h, PortCtl.complete_eq_served]; rfl
  · rw [if_neg (mt pc.hasRoom_iff.mp h), if_neg h]

namespace State

variable (s : State) (p : Port)

theorem answer_answeredBy (r) : State.answeredBy p r s (s.answer p r) :=
  ⟨by rw [s.answer_port_same, PortCtl.answer_eq_answered], fun _ h => s.port_withPort_ne p _ h⟩

theorem done_answeredBy (tag code b) : State.answeredBy p (.done tag code b) s (s.done p tag code b) :=
  s.answer_answeredBy p _

/-- Answering after changes that leave the ports alone. -/
theorem answeredBy_of_ports {t u : State} {p : Port} {r : Record} (h : t.ports = s.ports) (a : State.answeredBy p r t u) :
    State.answeredBy p r s u := by
  have e : ∀ q, t.port q = s.port q := fun q => by unfold State.port; rw [h]
  exact ⟨by rw [a.1, e], fun q hq => by rw [a.2 q hq, e]⟩

/-! ## Taking a request -/

theorem take_of_head {tag body} {serve : State → State} (h : s.headIs p tag body = true) :
    s.take p tag body serve = serve s := by
  simp [take, h]

theorem take_of_not_head {tag body} {serve : State → State} (h : s.headIs p tag body = false) :
    s.take p tag body serve = s := by
  simp [take, h]

theorem takeWith_of_not_head {right tag body} {serve : State → State} (h : s.headIs p tag body = false) :
    s.takeWith right p tag body serve = s := s.take_of_not_head p h

/-- A request whose right the port has is served. -/
theorem takeWith_of_canServe {right tag body} {serve : State → State} (h : s.canServe right p tag body) :
    s.takeWith right p tag body serve = serve s := by
  simp [takeWith, take, h.1, h.2]

/-- A request whose right the port lacks is answered NO_RIGHT (R148). -/
theorem takeWith_noRight {right tag body} {serve : State → State} (h : s.headIs p tag body = true)
    (hr : (s.port p).role.has right = false) : s.takeWith right p tag body serve = s.done p tag .noRight false := by
  simp [takeWith, take, h, hr]

/-! ## STATUS notices -/

theorem statusBody_withPorts (x : Bank 8 PortCtl) (n : Nat) : (s.withPorts x).statusBody n = s.statusBody n := rfl

/-- A STATUS notice raised reaches every port (R157). -/
theorem raiseStatus_toldStatus (c : StatusCause) : State.toldStatus c s (s.raiseStatus c) :=
  ⟨rfl, fun p => by simp [raiseStatus, statusBody_withPorts, State.port]⟩

@[simp] theorem raiseStatus_trail (c) : (s.raiseStatus c).trail = s.trail := rfl
@[simp] theorem raiseStatus_tick (c) : (s.raiseStatus c).tick = s.tick := rfl
@[simp] theorem raiseStatus_steer (c) : (s.raiseStatus c).steer = s.steer := rfl
@[simp] theorem raiseStatus_leap (c) : (s.raiseStatus c).leap = s.leap := rfl
@[simp] theorem raiseStatus_segs (c) : (s.raiseStatus c).segs = s.segs := rfl
@[simp] theorem raiseStatus_refs (c) : (s.raiseStatus c).refs = s.refs := rfl
@[simp] theorem raiseStatus_lastCause (c) : (s.raiseStatus c).lastCause = some c := rfl
@[simp] theorem raiseStatus_xt (c) : (s.raiseStatus c).xt = s.xt := rfl
@[simp] theorem raiseStatus_arb (c) : (s.raiseStatus c).arb = s.arb := rfl
@[simp] theorem raiseStatus_now (c) : (s.raiseStatus c).now = s.now := rfl
@[simp] theorem raiseStatus_writing (c) : (s.raiseStatus c).writing = s.writing := rfl

/-! ## What an entry takes from the moment of its writing (R63) -/

@[simp] theorem writing_xt : s.writing.xt = s.now := rfl
@[simp] theorem writing_seq : s.writing.seq = s.arb.seq := rfl
@[simp] theorem writing_offset : s.writing.offset = (s.leap.reading s.now).1 := rfl
@[simp] theorem writing_leapState : s.writing.leapState = (s.leap.reading s.now).2 := rfl

/-- Where XT, the sequence counter and the leap record's reading stand, an entry takes the same. -/
theorem writing_congr {t : State} (hx : t.now = s.now) (hs : t.arb.seq = s.arb.seq)
    (hl : t.leap.reading s.now = s.leap.reading s.now) : t.writing = s.writing := by
  simp [writing, offsetNow, leapNow, hx, hs, hl]

/-- A command that keeps XT and the sequence counter and writes its entry last writes it with `writingTo`. -/
theorem writingTo_eq_writing {t : State} (hx : t.now = s.now) (hs : t.arb.seq = s.arb.seq) : s.writingTo t = t.writing := by
  simp [writingTo, writing, offsetNow, leapNow, hx, hs]

theorem writingTo_self : s.writingTo s = s.writing := rfl

/-- LEAP_BEGIN does not change what Table 4-2 reads. -/
theorem beginLeap_reading (x : Ns) : s.beginLeap.leap.reading x = s.leap.reading x := by
  unfold beginLeap
  cases h : s.leap.pending with
  | none => rfl
  | some p => simp [reportLeap, ask, LeapUnit.reading, h]

/-- Nor does the carrying out of a leap, at and after its instant. -/
theorem executeLeap_reading (x : Ns) (p : PendingLeap) (h : s.leap.pending = some p)
    (hx : match p.leap.kind with
      | .insert => p.t + secondNs ≤ x
      | .delete => p.t ≤ x) :
    s.executeLeap.leap.reading x = s.leap.reading x := by
  unfold executeLeap
  cases hk : p.leap.kind with
  | insert =>
    have hx : p.t + secondNs ≤ x := by simpa only [hk] using hx
    have h1 : ¬ x < p.t := Int.not_lt.mpr (Int.le_trans (Int.le_add_of_nonneg_right (by decide)) hx)
    have h2 : ¬ x < p.t + secondNs := Int.not_lt.mpr hx
    simp [reportLeap, ask, LeapUnit.reading, PendingLeap.result, h, hk, h1, h2]
  | delete =>
    have hx : p.t ≤ x := by simpa only [hk] using hx
    have h1 : ¬ x < p.t := Int.not_lt.mpr hx
    simp [reportLeap, ask, LeapUnit.reading, PendingLeap.result, h, hk, h1]

/-! ## The trail -/

@[simp] theorem ask_trail (b) : (s.ask b).trail = s.trail.request b s.writing := rfl
@[simp] theorem ask_tick (b) : (s.ask b).tick = s.tick := rfl
@[simp] theorem ask_xt (b) : (s.ask b).xt = s.xt := rfl
@[simp] theorem ask_refs (b) : (s.ask b).refs = s.refs := rfl
@[simp] theorem ask_steer (b) : (s.ask b).steer = s.steer := rfl
@[simp] theorem ask_leap (b) : (s.ask b).leap = s.leap := rfl
@[simp] theorem ask_arb (b) : (s.ask b).arb = s.arb := rfl
@[simp] theorem ask_segs (b) : (s.ask b).segs = s.segs := rfl
@[simp] theorem ask_ports (b) : (s.ask b).ports = s.ports := rfl
@[simp] theorem ask_now (b) : (s.ask b).now = s.now := rfl
@[simp] theorem ask_writing (b) : (s.ask b).writing = s.writing := rfl
@[simp] theorem ask_lastCause (b) : (s.ask b).lastCause = s.lastCause := rfl
@[simp] theorem ask_commits (b) : (s.ask b).commits = s.commits := rfl
@[simp] theorem ask_outputs (b) : (s.ask b).outputs = s.outputs := rfl
@[simp] theorem ask_capture (b) : (s.ask b).capture = s.capture := rfl
@[simp] theorem count_trail (f) : (s.count f).trail = { s.trail with counters := f s.trail.counters } := rfl

end State

namespace TrailUnit

variable (t : TrailUnit) (b : TrailBody) (w : Writing)

/-- The writing of an entry, all of it (R133). -/
theorem write_wrote : TrailUnit.Wrote t (t.write b w) b w := by
  unfold Wrote write makePlace unread append trailPlaces
  by_cases h : t.wIx - t.k < 4096 <;> simp [h, bump_eq_min]

/-- A class-A request is written (R134). -/
theorem request_classA (h : b.classB = false) : t.request b w = t.write b w := by simp [request, h]

theorem request_wrote (h : b.classB = false) : TrailUnit.Wrote t (t.request b w) b w := by
  rw [t.request_classA b w h]; exact t.write_wrote b w

/-- A class-B request is written below 3,840 unread entries and else counted (R134). -/
theorem request_classB (h : b.classB = true) :
    t.request b w =
      if t.wIx - t.k < 3840 then t.write b w
      else { t with counters := { t.counters with suppressed := min (t.counters.suppressed + 1) 4294967295 } } := by
  by_cases hu : t.wIx - t.k < 3840
  · have : ¬ classBLimit ≤ t.unread := by simp only [classBLimit, unread]; omega
    simp [request, h, this, hu]
  · have : classBLimit ≤ t.unread := by simp only [classBLimit, unread]; omega
    simp [request, h, this, hu, bump_eq_min]

variable {t} {b} {w}

theorem write_ok (h : t.Ok) : (t.write b w).Ok := by
  obtain ⟨h1, h2, h3, h4, h5⟩ := h
  simp only [trailPlaces] at h3
  have e : ∀ a n : Nat, List.range' a (n + 1) = List.range' a n ++ [a + n] := fun a n => by
    rw [← List.range'_append_1]; simp
  by_cases hf : t.wIx - t.k < 4096
  · refine ⟨?_, ?_, ?_, ?_, ?_⟩ <;> simp only [write, makePlace, unread, trailPlaces, hf, if_true, append]
    · have : t.wIx + 1 - t.k = (t.wIx - t.k) + 1 := by omega
      rw [List.map_append, h1, this, e]
      simp; omega
    · omega
    · omega
    · split <;> omega
    · split <;> omega
  · obtain ⟨m, hm⟩ : ∃ m, m = 4095 := ⟨_, rfl⟩
    have hk : t.wIx - t.k = m + 1 := by omega
    refine ⟨?_, ?_, ?_, ?_, ?_⟩ <;> simp only [write, makePlace, unread, trailPlaces, hf, if_false, append]
    · have : t.wIx + 1 - (t.k + 1) = m + 1 := by omega
      rw [List.map_append, List.map_tail, h1, this, hk, e (t.k + 1), List.range'_succ]
      simp only [List.tail_cons, List.map_cons, List.map_nil]
      congr 2; omega
    · omega
    · omega
    · split <;> omega
    · split <;> omega

/-- A request for an entry keeps the trail in order (R133, R134). -/
theorem request_ok (h : t.Ok) : (t.request b w).Ok := by
  unfold request
  split
  · exact h
  · exact write_ok h

theorem summarise_ok {port} (h : t.Ok) : (t.summarise port w).Ok := request_ok (t := { t with counters := _, seconds := _ }) h

/-- Releasing the entries below an index between K and W_ix keeps the trail in order (R144). -/
theorem release_ok {n : Nat} (h : t.Ok) (h1 : t.k ≤ n) (h2 : n ≤ t.wIx) : (t.release n).Ok := by
  obtain ⟨e1, e2, e3, e4, e5⟩ := h
  refine ⟨?_, h2, ?_, e4, e5⟩
  · simp only [release, List.map_drop, e1]
    rw [List.drop_range']
    congr 1 <;> omega
  · simp only [release, trailPlaces] at *; omega

end TrailUnit

/-! ## Queues within their places -/

namespace PortCtl

variable {pc : PortCtl}

/-- Recording a segment event adds no segment to the slots but its own (R158). -/
theorem recordSlot_lower {seg : SegId} {event seq} {lo : Nat} (h : lo < seg.val) :
    ∀ {l : List PendingSeg}, (∀ x ∈ l, lo < x.seg.val) → ∀ x ∈ recordSlot seg event seq l, lo < x.seg.val
  | [], _, x, hx => by
    obtain rfl : x = _ := by simpa [recordSlot] using hx
    exact h
  | y :: ys, hl, x, hx => by
    have hy := hl y List.mem_cons_self
    have hys : ∀ z ∈ ys, lo < z.seg.val := fun z hz => hl z (List.mem_cons_of_mem _ hz)
    unfold recordSlot at hx
    split at hx
    · rcases List.mem_cons.1 hx with rfl | hx
      · exact hy
      · exact hys x hx
    · split at hx
      · rcases List.mem_cons.1 hx with rfl | hx
        · exact h
        · exact hl x hx
      · rcases List.mem_cons.1 hx with rfl | hx
        · exact hy
        · exact recordSlot_lower h hys x hx

/-- Recording a segment event keeps the slots in the order of segment id, one a segment (R158). -/
theorem recordSlot_ordered {seg : SegId} {event seq} :
    ∀ {l : List PendingSeg}, List.Pairwise (· < ·) (l.map fun x => x.seg.val) →
      List.Pairwise (· < ·) ((recordSlot seg event seq l).map fun x => x.seg.val)
  | [], _ => by simp [recordSlot]
  | y :: ys, hl => by
    simp only [List.map_cons, List.pairwise_cons, List.mem_map, forall_exists_index, and_imp,
      forall_apply_eq_imp_iff₂] at hl
    unfold recordSlot
    split
    · simpa only [List.map_cons, List.pairwise_cons, List.mem_map, forall_exists_index, and_imp,
        forall_apply_eq_imp_iff₂] using hl
    · rename_i hne
      split
      · rename_i hlt
        simp only [List.map_cons, List.pairwise_cons, List.mem_cons, List.mem_map, forall_eq_or_imp, forall_exists_index,
          and_imp, forall_apply_eq_imp_iff₂]
        exact ⟨⟨hlt, fun z hz => Nat.lt_trans hlt (hl.1 z hz)⟩, hl⟩
      · rename_i hge
        have hlt : y.seg.val < seg.val :=
          Nat.lt_of_le_of_ne (Nat.not_lt.1 hge) fun h => hne (Fin.ext h)
        simp only [List.map_cons, List.pairwise_cons, List.mem_map, forall_exists_index, and_imp, forall_apply_eq_imp_iff₂]
        exact ⟨recordSlot_lower hlt hl.1, recordSlot_ordered hl.2⟩

/-- A controller with other queues is within its places when they are. -/
theorem InBounds.of_lengths {pc' : PortCtl} (h : pc.InBounds) (h1 : pc'.requests.length ≤ pc.requests.length)
    (h2 : pc'.responses.length ≤ responsePlaces) (h3 : pc'.pendSegs = pc.pendSegs) : pc'.InBounds :=
  ⟨Nat.le_trans h1 h.1, h2, by unfold SlotsInOrder; rw [h3]; exact h.2.2⟩

theorem enqueue_length_le (h : pc.hasRoom = true) (r : Record) : (pc.enqueue r).responses.length ≤ responsePlaces := by
  simp only [hasRoom, decide_eq_true_eq] at h
  simp only [enqueue, List.length_append, List.length_singleton]
  omega

theorem takesNotice_hasRoom (h : pc.takesNotice = true) : pc.hasRoom = true := by
  exact pc.hasRoom_iff.mpr (Nat.lt_of_le_of_lt (Nat.le_add_right _ _) (pc.takesNotice_iff.mp h).2)

theorem answer_inBounds (h : pc.InBounds) (r : Record) : (pc.answer r).InBounds := by
  unfold answer
  split
  · rename_i hr
    exact h.of_lengths (by simp [complete, withRequests, enqueue]) (enqueue_length_le hr r) rfl
  · exact h

theorem answerDrain_inBounds (h : pc.InBounds) (tag : Tag) : (pc.answerDrain tag).InBounds := by
  unfold answerDrain
  split
  · rename_i hr
    exact h.of_lengths (by simp [complete, withRequests, enqueue]) (enqueue_length_le hr _) rfl
  · exact h

theorem notifyStatus_inBounds (h : pc.InBounds) (b : StatusBody) : (pc.notifyStatus b).InBounds := by
  unfold notifyStatus
  repeat' split
  · exact h
  · rename_i hr
    exact h.of_lengths Nat.le.refl (enqueue_length_le (takesNotice_hasRoom hr) _) rfl
  · exact h

theorem notifySegment_inBounds (h : pc.InBounds) (n : SegNotice) : (pc.notifySegment n).InBounds := by
  unfold notifySegment
  repeat' split
  · exact h
  · rename_i hr
    exact h.of_lengths Nat.le.refl (enqueue_length_le (takesNotice_hasRoom hr) _) rfl
  · exact ⟨h.1, h.2.1, recordSlot_ordered h.2.2⟩

theorem notifyPort_inBounds (h : pc.InBounds) : pc.notifyPort.InBounds := by
  unfold notifyPort
  repeat' split
  · exact h
  · rename_i hr
    exact h.of_lengths Nat.le.refl (enqueue_length_le (takesNotice_hasRoom hr) _) rfl
  · exact h

end PortCtl

/-! ## Segments and lines -/

namespace State

variable (s : State)

@[simp] theorem withSeg_get_same (i g) : (s.withSeg i g).segs.get i = g := by simp [withSeg]

theorem withSeg_get_ne {i j : SegId} (g) (h : j ≠ i) : (s.withSeg i g).segs.get j = s.segs.get j := by
  simp [withSeg, Bank.get_set_ne _ _ h]

@[simp] theorem shiftSegments_get (threshold amount i) :
    (s.shiftSegments threshold amount).segs.get i = (s.segs.get i).shift threshold amount := by
  simp [shiftSegments]

/-- Committing an event sets the committed state of its segment and puts the event at the end of the list (R94). -/
theorem commit_spec (e : SegEvent) (c : Committed) :
    (s.commit e c).commits = s.commits ++ [e] ∧
      (s.commit e c).segs.get e.seg = { s.segs.get e.seg with committed := c } ∧
      ∀ j : SegId, j ≠ e.seg → (s.commit e c).segs.get j = s.segs.get j :=
  ⟨rfl, by simp [commit], fun j h => by simp [commit, withSeg, Bank.get_set_ne _ _ h]⟩

/-- Every line in CLOSE_FOLLOW takes the level that its segments give, and no other line changes (R129). -/
theorem followCloses_get (l : Line) :
    s.followCloses.outputs.get l =
      if (s.outputs.get l).mode = .closeFollow then { s.outputs.get l with high := closeLevel s.segs l }
      else s.outputs.get l := by
  simp [followCloses]

end State

end Sys2Proof.Machine
end

