-- ==== Sys2Proof/Laws/PerInstr.lean ====
section
/-! SUPPORT. A statement about each command as syntax: the request that a well-formed command takes is read
back as that command. -/

namespace Sys2Proof.Laws.Operands

open Sys2Proof.Machine

/-- A well-formed command that takes a request is the command by which its port takes that request, with every operand as it was
(R154, 10 Table 10-3, Table 10-6). -/
def Statement (i : Instr) : Prop :=
  i.wellFormed = true → ∀ (p : Port) (tag : Tag) (body : ReqBody), Instr.asked i = some (p, tag, body) →
    requestCommand p { tag := tag, body := body } = i

theorem deviceReset (straps : Bank 8 Straps) (storeLost writeLost : Bool) :
    Statement (.deviceReset straps storeLost writeLost) := by intro _ _ _ _ e; cases e
theorem mainPresent : Statement (.mainPresent) := by intro _ _ _ _ e; cases e
theorem mainAbsent : Statement (.mainAbsent) := by intro _ _ _ _ e; cases e
theorem pllLockRaised : Statement (.pllLockRaised) := by intro _ _ _ _ e; cases e
theorem pllLockFallen : Statement (.pllLockFallen) := by intro _ _ _ _ e; cases e
theorem lockWaitExpiry : Statement (.lockWaitExpiry) := by intro _ _ _ _ e; cases e
theorem settleComplete : Statement (.settleComplete) := by intro _ _ _ _ e; cases e
theorem mainReturn : Statement (.mainReturn) := by intro _ _ _ _ e; cases e
theorem secondMark (trailFirst : Bool) : Statement (.secondMark trailFirst) := by intro _ _ _ _ e; cases e
theorem stepApplied : Statement (.stepApplied) := by intro _ _ _ _ e; cases e
theorem acqTimeout : Statement (.acqTimeout) := by intro _ _ _ _ e; cases e
theorem timeOfDayMessage (r : RefId) (run : LineRun) : Statement (.timeOfDayMessage r run) := by intro _ _ _ _ e; cases e
theorem referencePulse (r : RefId) : Statement (.referencePulse r) := by intro _ _ _ _ e; cases e
theorem missingVerdict (r : RefId) : Statement (.missingVerdict r) := by intro _ _ _ _ e; cases e
theorem absenceDeadline (r : RefId) : Statement (.absenceDeadline r) := by intro _ _ _ _ e; cases e
theorem leapBegin : Statement (.leapBegin) := by intro _ _ _ _ e; cases e
theorem leapExecuted : Statement (.leapExecuted) := by intro _ _ _ _ e; cases e
theorem captureEdge (line : Line) (kind : EdgeKind) : Statement (.captureEdge line kind) := by intro _ _ _ _ e; cases e
theorem stampGrant (p : Port) : Statement (.stampGrant p) := by intro _ _ _ _ e; cases e
theorem captureGrant (line : Line) : Statement (.captureGrant line) := by intro _ _ _ _ e; cases e
theorem openInstantDue (seg : SegId) : Statement (.openInstantDue seg) := by intro _ _ _ _ e; cases e
theorem callInstantDue (seg : SegId) : Statement (.callInstantDue seg) := by intro _ _ _ _ e; cases e
theorem armedCloseDue (seg : SegId) : Statement (.armedCloseDue seg) := by intro _ _ _ _ e; cases e
theorem drawnCloseDue (seg : SegId) : Statement (.drawnCloseDue seg) := by intro _ _ _ _ e; cases e
theorem armGrant : Statement (.armGrant) := by intro _ _ _ _ e; cases e
theorem reviseGrant : Statement (.reviseGrant) := by intro _ _ _ _ e; cases e
theorem disarmGrant : Statement (.disarmGrant) := by intro _ _ _ _ e; cases e
theorem missedGrant : Statement (.missedGrant) := by intro _ _ _ _ e; cases e
theorem openGrant : Statement (.openGrant) := by intro _ _ _ _ e; cases e
theorem callGrant : Statement (.callGrant) := by intro _ _ _ _ e; cases e
theorem drawGrant : Statement (.drawGrant) := by intro _ _ _ _ e; cases e
theorem endGrant : Statement (.endGrant) := by intro _ _ _ _ e; cases e
theorem extendGrant : Statement (.extendGrant) := by intro _ _ _ _ e; cases e
theorem releaseGrant : Statement (.releaseGrant) := by intro _ _ _ _ e; cases e
theorem haltGrant : Statement (.haltGrant) := by intro _ _ _ _ e; cases e
theorem pulseEnd (line : Line) : Statement (.pulseEnd line) := by intro _ _ _ _ e; cases e
theorem atInstantFire (line : Line) : Statement (.atInstantFire line) := by intro _ _ _ _ e; cases e
theorem clientFrame (p : Port) (bytes : List Byte) : Statement (.clientFrame p bytes) := by intro _ _ _ _ e; cases e
theorem frameAbandoned (p : Port) : Statement (.frameAbandoned p) := by intro _ _ _ _ e; cases e
theorem linkTimeout (p : Port) : Statement (.linkTimeout p) := by intro _ _ _ _ e; cases e
theorem idleFrame (p : Port) : Statement (.idleFrame p) := by intro _ _ _ _ e; cases e
theorem batchFrame (p : Port) : Statement (.batchFrame p) := by intro _ _ _ _ e; cases e
theorem batchFrameSent (p : Port) : Statement (.batchFrameSent p) := by intro _ _ _ _ e; cases e
theorem waitingAnswer (p : Port) : Statement (.waitingAnswer p) := by intro _ _ _ _ e; cases e
theorem pendingNoticeDrain (p : Port) : Statement (.pendingNoticeDrain p) := by intro _ _ _ _ e; cases e
theorem drainComplete (p : Port) : Statement (.drainComplete p) := by intro _ _ _ _ e; cases e
theorem stamp (p : Port) (tag : Tag) (seg : Option Byte) : Statement (.stamp p tag seg) := by intro _ _ _ _ e; cases e; rfl
theorem readTime (p : Port) (tag : Tag) : Statement (.readTime p tag) := by intro _ _ _ _ e; cases e; rfl
theorem readEvidence (p : Port) (tag : Tag) : Statement (.readEvidence p tag) := by intro _ _ _ _ e; cases e; rfl
theorem setTime (p : Port) (tag : Tag) (seconds : BitVec 64) :
    Statement (.setTime p tag seconds) := by intro _ _ _ _ e; cases e; rfl
theorem setLeapInsert (p : Port) (tag : Tag) (day : BitVec 32) :
    Statement (.setLeapInsert p tag day) := by intro _ _ _ _ e; cases e; rfl
theorem setLeapDelete (p : Port) (tag : Tag) (day : BitVec 32) :
    Statement (.setLeapDelete p tag day) := by intro _ _ _ _ e; cases e; rfl
theorem setLeapWithdraw (p : Port) (tag : Tag) (day : BitVec 32) :
    Statement (.setLeapWithdraw p tag day) := by intro _ _ _ _ e; cases e; rfl
theorem profileWrite (p : Port) (tag : Tag) (profile maxExt : Byte) (extLength : BitVec 16) (window : BitVec 32) :
    Statement (.profileWrite p tag profile maxExt extLength window) := by intro _ _ _ _ e; cases e; rfl
theorem segmentWrite (p : Port) (tag : Tag) (seg profile : Byte) (d : Definition) :
    Statement (.segmentWrite p tag seg profile d) := by intro _ _ _ _ e; cases e; rfl
theorem segmentSwap (p : Port) (tag : Tag) (seg profile : Byte) (d : Definition) :
    Statement (.segmentSwap p tag seg profile d) := by intro _ _ _ _ e; cases e; rfl
theorem segmentRead (p : Port) (tag : Tag) (seg : Byte) : Statement (.segmentRead p tag seg) := by intro _ _ _ _ e; cases e; rfl
theorem extend (p : Port) (tag : Tag) (seg : Byte) : Statement (.extend p tag seg) := by intro _ _ _ _ e; cases e; rfl
theorem release (p : Port) (tag : Tag) (seg : Byte) : Statement (.release p tag seg) := by intro _ _ _ _ e; cases e; rfl
theorem halt (p : Port) (tag : Tag) (seg : Byte) : Statement (.halt p tag seg) := by intro _ _ _ _ e; cases e; rfl
theorem captureSet (p : Port) (tag : Tag) (line edge port : Byte) :
    Statement (.captureSet p tag line edge port) := by intro _ _ _ _ e; cases e; rfl
theorem outputSetOff (p : Port) (tag : Tag) (f : OutputFields) :
    Statement (.outputSetOff p tag f) := by intro _ _ _ _ e; cases e; rfl
theorem outputSetSecondPulse (p : Port) (tag : Tag) (f : OutputFields) :
    Statement (.outputSetSecondPulse p tag f) := by intro _ _ _ _ e; cases e; rfl
theorem outputSetCloseFollow (p : Port) (tag : Tag) (f : OutputFields) :
    Statement (.outputSetCloseFollow p tag f) := by intro _ _ _ _ e; cases e; rfl
theorem outputSetAtInstant (p : Port) (tag : Tag) (f : OutputFields) :
    Statement (.outputSetAtInstant p tag f) := by intro _ _ _ _ e; cases e; rfl
theorem trailRead (p : Port) (tag : Tag) (start : BitVec 64) (count : Byte) :
    Statement (.trailRead p tag start count) := by intro _ _ _ _ e; cases e; rfl
theorem trailAck (p : Port) (tag : Tag) (index : BitVec 64) :
    Statement (.trailAck p tag index) := by intro _ _ _ _ e; cases e; rfl
theorem summaryNow (p : Port) (tag : Tag) : Statement (.summaryNow p tag) := by intro _ _ _ _ e; cases e; rfl
theorem subscribe (p : Port) (tag : Tag) (status : Byte) (threshold : BitVec 16) :
    Statement (.subscribe p tag status threshold) := by intro _ _ _ _ e; cases e; rfl
theorem drain (p : Port) (tag : Tag) : Statement (.drain p tag) := by intro _ _ _ _ e; cases e; rfl
theorem malformedRequest (p : Port) (tag : Tag) (kind : Byte) (body : List Byte) :
    Statement (.malformedRequest p tag kind body) := by intro _ _ _ _ e; cases e; rfl
theorem setTimingSettlePeriod (p : Port) (tag : Tag) (value : BitVec 64) :
    Statement (.setTimingSettlePeriod p tag value) := by intro _ _ _ _ e; cases e; rfl
theorem setTimingRefProfile (p : Port) (tag : Tag) (r : RefId) (value : BitVec 64) :
    Statement (.setTimingRefProfile p tag r value) := by intro _ _ _ _ e; cases e; cases r <;> rfl
theorem setTimingRefPriority (p : Port) (tag : Tag) (r : RefId) (value : BitVec 64) :
    Statement (.setTimingRefPriority p tag r value) := by intro _ _ _ _ e; cases e; cases r <;> rfl
theorem setTimingCableDelay (p : Port) (tag : Tag) (r : RefId) (value : BitVec 64) :
    Statement (.setTimingCableDelay p tag r value) := by intro _ _ _ _ e; cases e; cases r <;> rfl
theorem setTimingPWin (p : Port) (tag : Tag) (value : BitVec 64) :
    Statement (.setTimingPWin p tag value) := by intro _ _ _ _ e; cases e; rfl
theorem setTimingMinimumQuality (p : Port) (tag : Tag) (value : BitVec 64) :
    Statement (.setTimingMinimumQuality p tag value) := by intro _ _ _ _ e; cases e; rfl
theorem setTimingD (p : Port) (tag : Tag) (value : BitVec 64) :
    Statement (.setTimingD p tag value) := by intro _ _ _ _ e; cases e; rfl
theorem setTimingRevertiveMode (p : Port) (tag : Tag) (value : BitVec 64) :
    Statement (.setTimingRevertiveMode p tag value) := by intro _ _ _ _ e; cases e; rfl
theorem setTimingKp (p : Port) (tag : Tag) (value : BitVec 64) :
    Statement (.setTimingKp p tag value) := by intro _ _ _ _ e; cases e; rfl
theorem setTimingKi (p : Port) (tag : Tag) (value : BitVec 64) :
    Statement (.setTimingKi p tag value) := by intro _ _ _ _ e; cases e; rfl
theorem setTimingL (p : Port) (tag : Tag) (value : BitVec 64) :
    Statement (.setTimingL p tag value) := by intro _ _ _ _ e; cases e; rfl
theorem setTimingH (p : Port) (tag : Tag) (value : BitVec 64) :
    Statement (.setTimingH p tag value) := by intro _ _ _ _ e; cases e; rfl
theorem setTimingHRing (p : Port) (tag : Tag) (value : BitVec 64) :
    Statement (.setTimingHRing p tag value) := by intro _ _ _ _ e; cases e; rfl
theorem setTimingWLock (p : Port) (tag : Tag) (value : BitVec 64) :
    Statement (.setTimingWLock p tag value) := by intro _ _ _ _ e; cases e; rfl
theorem setTimingAcquisitionTimeout (p : Port) (tag : Tag) (value : BitVec 64) :
    Statement (.setTimingAcquisitionTimeout p tag value) := by intro _ _ _ _ e; cases e; rfl
theorem setTimingM (p : Port) (tag : Tag) (value : BitVec 64) :
    Statement (.setTimingM p tag value) := by intro _ _ _ _ e; cases e; rfl
theorem setTimingUFixed (p : Port) (tag : Tag) (value : BitVec 64) :
    Statement (.setTimingUFixed p tag value) := by intro _ _ _ _ e; cases e; rfl
theorem setTimingUManual (p : Port) (tag : Tag) (value : BitVec 64) :
    Statement (.setTimingUManual p tag value) := by intro _ _ _ _ e; cases e; rfl
theorem setTimingUtcOffset (p : Port) (tag : Tag) (value : BitVec 64) :
    Statement (.setTimingUtcOffset p tag value) := by intro _ _ _ _ e; cases e; rfl
theorem setTimingSummaryInterval (p : Port) (tag : Tag) (value : BitVec 64) :
    Statement (.setTimingSummaryInterval p tag value) := by intro _ _ _ _ e; cases e; rfl
theorem setTimingSummaryMode (p : Port) (tag : Tag) (value : BitVec 64) :
    Statement (.setTimingSummaryMode p tag value) := by intro _ _ _ _ e; cases e; rfl
theorem messageFramingError (r : RefId) : Statement (.messageFramingError r) := by intro _ _ _ _ e; cases e
theorem setTimingUnknownItem (p : Port) (tag : Tag) (item : BitVec 16) (value : BitVec 64) :
    Statement (.setTimingUnknownItem p tag item value) := by
  intro h _ _ _ e
  cases e
  have : timingItem item.toNat = none := by simpa [Instr.wellFormed, isUnknownItem] using h
  simp [requestCommand, timingCommand, this]

end Sys2Proof.Laws.Operands
end

