-- ==== Sys2Proof/Tests/Slice0.lean ====
section
/-! SUPPORT. Tests: ill-formed commands refused, frames and requests written out from the spec's tables, one step of each command on a
small state, with expected values from the spec's worked examples and tables or computed from its rules by hand, and for each
statement a state and operands that meet its hypotheses. -/

set_option Elab.async false

namespace Sys2Proof.Tests

open Sys2Proof.Machine

/-! ## States -/

/-- The state after a command; the state before it where the command does not answer one. -/
def run (c : Instr) (s : State) : State :=
  match exec c s with
  | .next t => t
  | _ => s

/-- After a reset with every strap high: every port is a FULL port (Table 0-3). -/
def full : State :=
  State.afterReset (.ofFn fun _ => { first := true, second := true }) { epoch := 3, reinitialised := false, stored := some 3 }

/-- `s` at XT `x`. -/
def atXt (x : Nat) (s : State) : State := s.withXt { s.xt with ns := x }

/-- Port 0 UP with one request, of tag 7, at the head of its queue. -/
def asking (body : ReqBody) (s : State) : State :=
  s.withPort 0 { s.port 0 with up := true, requests := [{ tag := 7, body := body }] }

/-- The records of port 0's response queue after a command. -/
def answers (c : Instr) (s : State) : List Record := ((run c s).port 0).responses

/-- Port 0 answers a request DONE. -/
def answered (code : ResultCode) (clamped : Bool) : List Record := [.done 7 code clamped]

/-- The timescale state `st` with the flags that go with it, on the PLL where it is on the PLL, and 1 us after an edge of the main
input. -/
def inState (st : TimescaleState) (s : State) : State :=
  (s.withSteer { s.steer with
      state := st
      stampingOpen := st.stamps
      bound := if st.stamps then 600 else 4294967295
      traceable := st.stamps
      acqTimer := if st = .acquire then some 0 else none }).withTick
    { s.tick with
      mainMonitor := .present
      mainGap := some 0
      lockFlag := true
      pllMonitor := if st = .cold ∨ st = .fallback then .unlocked else .confirmed
      source := if st = .cold ∨ st = .fallback then .ring else .pll }

/-- LOCKED at XT 100 s. -/
def locked : State := atXt 100000000000 (inState .locked full)

/-- A message of the second of XT 99 s with uncertainty 40. -/
def message : Message :=
  { seconds := 99, offset := 0, announcement := .none, quality := 15, uncertainty := 40, sumCheck := 65, arrival := 98950000000, used := false }

/-- Bytes sent with `apart` ns from one stop bit to the next, 86,806 when they come back to back, the last one now. The line is high
for 500 us before the first, and from the end of its eighth data bit, 78,125 ns after its start, before each other. -/
def sent (apart : Nat) (bytes : List Byte) : LineRun :=
  bytes.mapIdx fun i v => ⟨v, apart * (bytes.length - 1 - i), if i = 0 then 500000 else apart - 78125⟩

/-- REF-A qualified, with a GOOD second of error `e` ready, and selected. -/
def good (e : Int) (s : State) : State :=
  (s.withRefs (s.refs.set .refA { s.refs.a with
      state := .qualified
      lastMessage := some { message with used := true }
      ready := some { verdict := .good { e := e, c := 99000000000 + e, expected := 99000000000 }, maturity := 99500000000 } })).withSteer
    { s.steer with selection := some .refA }

/-- A second mark due. -/
def atMark (s : State) : State := s.withXt { s.xt with markDue := some s.xt.ns }

/-- Segment 12 with the record `f` gives. -/
def seg12 (f : Segment → Segment) (s : State) : State := s.withSeg 12 (f (s.segs.get 12))

/-- The definition of segment 12 in section 11.1: 15:00, 15:55 and 16:00 of day 20,840. -/
def closing : Definition where
  firstDay := 20840
  openTime := 54000000000000
  callTime := 57300000000000
  closeTime := 57600000000000
  hold := true
  subscribers := 0x11
  outputs := 0x02
  repeats := 0

/-- Its instants of Table 11-1. -/
def closingInstants : ArmedInstants where
  openAt := ⟨1800630037000000000, false⟩
  callAt := ⟨1800633337000000000, false⟩
  closeAt := ⟨1800633637000000000, false⟩

/-- Segment 12 armed as in section 11.1, in the given state and committed state. -/
def inCycle (st : SegState) (c : Committed) (s : State) : State :=
  seg12 (fun g => { g with
    state := st, committed := c, profile := 2, defn := some closing, armedDay := some 20840, armed := some closingInstants }) s

/-- One event of segment 12 waits. -/
def waiting (k : SegEventKind) (after : Option SegState) (s : State) : State :=
  s.withCommits [{ seg := 12, kind := k, after := after }]

/-! ## Ill-formed commands -/

/-- Ten bits at 115,200 baud are 86,805.6 ns, and a sender may run fast against XT (R18); a byte begins no earlier than the stop bit
before it is sampled, nine bits and a half after that byte's own start. -/
theorem test_bytes_too_close_are_ill_formed :
    (Instr.timeOfDayMessage .refA (sent 86805 [1#8, 2#8])).wellFormed = true ∧
      (Instr.timeOfDayMessage .refA (sent 84202 [1#8, 2#8])).wellFormed = true ∧
      (Instr.timeOfDayMessage .refA (sent 82464 [1#8, 2#8])).wellFormed = false := by decide +kernel

theorem test_bytes_that_end_early_are_ill_formed :
    (Instr.timeOfDayMessage .refA [⟨1#8, 1, 500000⟩]).wellFormed = false ∧
      (Instr.timeOfDayMessage .refA []).wellFormed = false := by decide +kernel

theorem test_known_request_is_not_malformed : (Instr.malformedRequest 0 7 17#8 []).wellFormed = false := by decide +kernel

theorem test_reset_frame_is_no_request : (Instr.malformedRequest 0 7 1#8 []).wellFormed = false := by decide +kernel

theorem test_known_item_is_not_unknown : (Instr.setTimingUnknownItem 0 7 25#16 0).wellFormed = false := by decide +kernel

theorem test_unknown_kind_is_malformed : (Instr.malformedRequest 0 7 2#8 []).wellFormed = true := by decide +kernel

/-! ## Frames and requests written out (Tables 10-2, 10-3, 10-6, 10-7) -/

/-- Section 9.2: the CRC of the digits 123456789. -/
theorem test_crc_of_digits :
    crc16 [0x31#8, 0x32#8, 0x33#8, 0x34#8, 0x35#8, 0x36#8, 0x37#8, 0x38#8, 0x39#8] = 0x29B1#16 := by decide +kernel

theorem test_table_gives_no_bits : decodeTableWord 32 0x10 = none := rfl

/-- READ_TIME with tag 7: kind 11 hex, an empty body. -/
theorem test_read_time_frame :
    parseFrame [0x11#8, 0#8, 0#8, 0#8, 7#8, 0xCF#8, 0xE0#8] = some { kind := 0x11#8, tag := 7, body := [] } ∧
      parseRequest 0x11#8 [] = .readTime := by decide +kernel

/-- The same frame with one bit of its tag changed is no valid frame. -/
theorem test_damaged_frame : parseFrame [0x11#8, 0#8, 0#8, 0#8, 6#8, 0xCF#8, 0xE0#8] = none := by decide +kernel

theorem test_trail_ack_frame :
    (parseFrame [0x41#8, 0xDE#8, 0xAD#8, 0xBE#8, 0xEF#8, 0#8, 0#8, 0#8, 0#8, 0#8, 0#8, 0x12#8, 0x34#8, 0xD3#8, 0x96#8]).map
      (fun f => (f.tag, parseRequest f.kind f.body)) = some (0xDEADBEEF#32, .trailAck 0x1234#64) := by decide +kernel

theorem test_stamp_bodies :
    parseRequest 0x10#8 [] = .stamp none ∧ parseRequest 0x10#8 [63#8] = .stamp (some 63#8) ∧
      parseRequest 0x10#8 [1#8, 2#8] = .malformed 0x10#8 [1#8, 2#8] := by decide +kernel

theorem test_set_timing_body :
    parseRequest 0x13#8 [0#8, 0x16#8, 0xFF#8, 0xFF#8, 0xFF#8, 0xFF#8, 0xFF#8, 0xFF#8, 0xFF#8, 0x9C#8] =
      .setTiming 22#16 (BitVec.ofInt 64 (-100)) := by decide +kernel

theorem test_set_leap_body :
    parseRequest 0x15#8 [0#8, 0#8, 0x51#8, 0x52#8, 1#8] = .setLeap 20818#32 .delete ∧
      parseRequest 0x15#8 [0#8, 0#8, 0x51#8, 0x52#8, 3#8] = .malformed 0x15#8 [0#8, 0#8, 0x51#8, 0x52#8, 3#8] := by decide +kernel

theorem test_profile_write_body :
    parseRequest 0x20#8 [2#8, 15#8, 0#8, 60#8, 0#8, 0x98#8, 0x96#8, 0x80#8] = .profileWrite 2#8 15#8 60#16 10000000#32 := by
  decide +kernel

/-- Segment 12 of section 11.1 in the 34 bytes of a SEGMENT_WRITE. -/
theorem test_segment_write_body :
    parseRequest 0x21#8
      ([12#8, 2#8] ++ [0#8, 0#8, 0x51#8, 0x68#8] ++ [0#8, 0#8, 0x31#8, 0x1C#8, 0xDA#8, 0xD1#8, 0x60#8, 0#8]
        ++ [0#8, 0#8, 0x34#8, 0x1D#8, 0x32#8, 0x25#8, 0x48#8, 0#8] ++ [0#8, 0#8, 0x34#8, 0x63#8, 0x0B#8, 0x8A#8, 0#8, 0#8]
        ++ [1#8, 0x11#8, 0x02#8, 0#8]) =
      .segmentWrite 12#8 2#8 closing := by decide +kernel

theorem test_output_set_body :
    parseRequest 0x31#8 [5#8, 3#8, 1#8, 0#8, 0#8, 0#8, 0x64#8, 0#8, 0#8, 0#8, 0#8, 0#8, 0#8, 1#8, 0#8] =
      .outputSet .atInstant { line := 5#8, level := 1#8, width := 100#32, instant := 256#64 } := by decide +kernel

theorem test_subscribe_body : parseRequest 0x50#8 [255#8, 0#8, 64#8] = .subscribe 255#8 64#16 := by decide +kernel

/-! ## Layouts (chapter 10) -/

/-- DONE with BAD_STATE and tag 7: kind 95 hex, a length of 2, the tag, the code 4 and clear flags (Tables 10-4, 10-5). -/
theorem test_done_record :
    (Record.done 7 .badState false).encode = [0x95#8, 0#8, 2#8, 0#8, 0#8, 0#8, 7#8, 4#8, 0#8] := by decide +kernel

/-- A RESTART entry: trail sequence 1, kind 1, class A, a body of 4 bytes (Table 10-10, 10-12). -/
theorem test_restart_entry :
    (TrailEntry.encode { seq := 1, written := ⟨0, 0, 0, .none⟩, body := .restart 258 true }) =
      [0#8, 0#8, 0#8, 0#8, 0#8, 0#8, 0#8, 1#8, 1#8, 0#8, 0#8, 4#8] ++ List.replicate 16 0#8 ++ [1#8, 2#8, 1#8, 0#8] := by decide +kernel

theorem test_draw_entry_length :
    (TrailBody.draw 12 1 10000000 0 0).encode.length = 32 := by decide +kernel

/-! ## Time (chapters 1 to 4) -/

/-- A nominal tick from reset adds 4 ns. -/
theorem test_tick_adds_four : (State.reset.xt.advance 17179869184) = { ns := 4, frac := 0, markDue := none } := by decide +kernel

/-- The advance that reaches 10^9 is a second mark, and the fraction is kept. -/
theorem test_tick_reaches_mark :
    (({ ns := 999999997, frac := 4294967295, markDue := none } : XtCounter).advance 17179869185) =
      { ns := 1000000002, frac := 0, markDue := some 1000000000 } := by decide +kernel

theorem test_main_present_opens_settle :
    ((run .mainPresent (atXt 5 (full.withTick { full.tick with returnPhase := .waitMain }))).tick.returnPhase = .settle) ∧
      (run .mainPresent (atXt 5 (full.withTick { full.tick with returnPhase := .waitMain }))).tick.settleDeadline =
        some 10000000005 := by decide +kernel

/-- An edge on a present main input starts its 1 us again, 250 ring cycles. -/
theorem test_main_present_restarts_the_gap : (run .mainPresent locked).tick.mainGap = some 250 := by decide +kernel

theorem test_main_absent_before_its_gap :
    let s := locked.withTick { locked.tick with mainGap := some 1 }
    run .mainAbsent s = s := by decide +kernel

theorem test_main_absent_in_locked_is_fallback :
    (run .mainAbsent locked).steer.state = .fallback ∧ (run .mainAbsent locked).tick.source = .ring ∧
      (run .mainAbsent locked).steer.bound = 600 := by decide +kernel

theorem test_lock_raised_starts_lock_wait :
    (run .pllLockRaised (full.withTick { full.tick with mainMonitor := .present })).tick.lockWaitTimer = some 250000 := by decide +kernel

theorem test_lock_fallen_in_acquire_is_cold :
    (run .pllLockFallen (inState .acquire full)).steer.state = .cold ∧
      (run .pllLockFallen (inState .acquire full)).tick.returnPhase = .none := by decide +kernel

/-- R5: the PLL drives from its next edge on, which is not the expiry's own tick. -/
theorem test_lock_wait_expiry_starts_acquire :
    let s := full.withTick { full.tick with mainMonitor := .present, pllMonitor := .lockWait, lockWaitTimer := some 0 }
    (run .lockWaitExpiry s).steer.state = .acquire ∧ (run .lockWaitExpiry s).tick.source = .ring := by decide +kernel

theorem test_settle_complete_waits_for_lock :
    (run .settleComplete (full.withTick { full.tick with returnPhase := .settle, settleDeadline := some 0 })).tick.returnPhase =
      .lockWait := by decide +kernel

/-- Section 11.2, event 4: B_entry takes B as held. -/
theorem test_main_return :
    let s := inState .fallback full
    let s := (s.withTick { s.tick with returnPhase := .lockWait, pllMonitor := .confirmed, source := .pll }).withSteer
      { s.steer with bound := 20010600, integ := 2000000 }
    (run .mainReturn s).steer.state = .holdover ∧ (run .mainReturn s).steer.bEntry = 20010600 ∧
      (run .mainReturn s).steer.integ = 1048576 := by decide +kernel

theorem test_device_reset_advances_epoch :
    (run (.deviceReset (.ofFn fun _ => ⟨true, false⟩) false false) locked).epoch = ⟨4, false, some 4⟩ ∧
      ((run (.deviceReset (.ofFn fun _ => ⟨true, false⟩) false false) locked).port 3).role = .engine := by decide +kernel

theorem test_device_reset_with_lost_store :
    (run (.deviceReset (.ofFn fun _ => ⟨true, false⟩) true false) locked).epoch = ⟨0, true, some 0⟩ := by decide +kernel

/-- Section 11.2, event 5, as R54 sums it: 3,150 + 40 + 150 + 0. -/
theorem test_mark_in_holdover_regains :
    (run (.secondMark false) (atMark (good 3150 (atXt 100000000000 (inState .holdover full))))).steer.bound = 3340 ∧
      (run (.secondMark false) (atMark (good 3150 (atXt 100000000000 (inState .holdover full))))).steer.state = .locked := by
  decide +kernel

/-- Section 11.2, event 2: in FALLBACK 10,600 becomes 60,600 at H_ring 50,000. -/
theorem test_mark_in_fallback_grows :
    let s := inState .fallback full
    (run (.secondMark true) (atMark (s.withSteer { s.steer with bound := 10600 }))).steer.bound = 60600 := by decide +kernel

/-- R10: a step replaces the advance and moves a reference's pulse times with it. -/
theorem test_step_applied :
    let s := atXt 1000 (full.withSteer { full.steer with pendingSteps := [⟨.acquisition, 5000⟩] })
    let s := s.withRefs (s.refs.set .refB { s.refs.b with lastPulse := some 600 })
    (run .stepApplied s).xt.ns = 5000 ∧ (run .stepApplied s).refs.b.lastPulse = some 4600 := by decide +kernel

theorem test_acq_timeout_with_set_time :
    let s := inState .acquire full
    let s := s.withSteer { s.steer with timeSet := true, acqTimer := some 225000000000, uManual := 70000 }
    (run .acqTimeout s).steer.state = .holdover ∧ (run .acqTimeout s).steer.bound = 70000 ∧
      (run .acqTimeout s).steer.stampingOpen = true := by decide +kernel

/-- R19: 16 bytes whose sum is 0 modulo 256; label 99, offset 37, quality 15, uncertainty 40. A byte comes after the 16th, and the
message is dated with the 16th byte's stop bit (R18). -/
theorem test_message_is_kept :
    let bytes : List Byte := [0#8, 0#8, 0#8, 0#8, 99#8, 37#8, 0#8, 15#8, 0#8, 40#8, 0#8, 0#8, 0#8, 0#8, 0#8, 65#8]
    (run (.timeOfDayMessage .refA (sent 86806 (bytes ++ [7#8]))) (atXt 98950086806 full)).refs.a.lastMessage =
      some { message with offset := 37 } := by decide +kernel

/-- A wrong sum, and 500 us of idle line before the last byte. -/
theorem test_bad_and_broken_messages_are_dropped :
    let bytes : List Byte := [0#8, 0#8, 0#8, 0#8, 99#8, 37#8, 0#8, 15#8, 0#8, 40#8, 0#8, 0#8, 0#8, 0#8, 0#8]
    (run (.timeOfDayMessage .refA (sent 86806 (bytes ++ [66#8]))) (atXt 98950000000 full)).refs.a.lastMessage = none ∧
      (run (.timeOfDayMessage .refA (sent 582465 (bytes ++ [65#8]))) (atXt 98950000000 full)).refs.a.lastMessage = none := by
  decide +kernel

/-- R18: a line held low for 600 us after a framing error is not idle. Its next byte is not taken, though 1 ms has passed; the one that
comes when the line has been high for 500 us begins a message. -/
theorem test_line_held_low_is_not_idle :
    let after (high : Nat) := (run (.timeOfDayMessage .refC [⟨9#8, 0, high⟩])
      (atXt 1082535 (run (.messageFramingError .refC) (atXt 70 full)))).refs.c.assembly
    after 400000 = none ∧ after 500000 = some [9#8] := by decide +kernel

theorem test_framing_error_restarts_the_gap :
    (run (.messageFramingError .refC) (atXt 70 full)).refs.c.busyUntil = 70 := by decide +kernel

/-- R22: a pulse at 99 s + 300 ns with a cable delay of 100 ns has e = 200. -/
theorem test_good_pulse_measures :
    let s := atXt 99000000300 full
    let s := s.withRefs (s.refs.set .refA { s.refs.a with
      state := .qualifying, cableDelay := 100, lastMessage := some message, lastPulse := some 98000000300 })
    (run (.referencePulse .refA) s).refs.a.lastE = some 200 ∧ (run (.referencePulse .refA) s).refs.a.goodRun = 1 := by decide +kernel

theorem test_pulse_outside_window_is_bad :
    let s := atXt 99000002301 full
    let s := s.withRefs (s.refs.set .refA { s.refs.a with
      state := .qualifying, lastMessage := some message, lastPulse := some 98000000300 })
    (run (.referencePulse .refA) s).refs.a.history = [.bad] := by decide +kernel

theorem test_missing_verdict :
    let s := atXt 50 (full.withRefs (full.refs.set .refB { full.refs.b with state := .qualified, expected := some 49, badRun := 1 }))
    (run (.missingVerdict .refB) s).refs.b.state = .lost ∧ (run (.missingVerdict .refB) s).refs.b.expected = some 1000000049 := by
  decide +kernel

theorem test_absence_deadline :
    let s := atXt 50 (full.withRefs (full.refs.set .refB { full.refs.b with state := .lost, absence := some 50 }))
    (run (.absenceDeadline .refB) s).refs.b.state = .absent := by decide +kernel

/-- Section 11.3, event 2: offset 37, day 20,818, T = Q = 1,798,761,637 s. -/
def insertion : PendingLeap where
  leap := { kind := .insert, day := 20818 }
  lOff := 37
  t := 1798761637000000000
  q := 1798761637000000000
  source := .reference
  begun := false

theorem test_leap_record : ({ full.leap with offset := 37 } : LeapUnit).recordOf { kind := .insert, day := 20818 } .reference =
    insertion := by decide +kernel

/-- Section 11.3, event 3: at 1,798,761,637.5 the reading is offset 37, IN_LEAP. -/
theorem test_reading_in_leap :
    ({ full.leap with offset := 37, pending := some { insertion with begun := true } } : LeapUnit).reading 1798761637500000000 =
      (37, .inLeap) := by decide +kernel

theorem test_leap_begin :
    ((run .leapBegin (atXt 1798761637000000000 (full.withLeap { full.leap with offset := 37, pending := some insertion }))).leap.pending)
      = some { insertion with begun := true } := by decide +kernel

/-- R63: the LEAP_BEGIN entry of section 11.3, event 3, has the offset and leap state of its own XT, and so has the entry that the
end of the leap second writes. -/
theorem test_entries_carry_their_offset :
    let s := atXt 1798761637000000000 (full.withLeap { full.leap with offset := 37, pending := some insertion })
    let written (s : State) := s.trail.entries.getLast?.map TrailEntry.written
    written (run .leapBegin s) = some ⟨1798761637000000000, 0, 37, .inLeap⟩ ∧
      written (run .leapExecuted (atXt 1798761638000000000 (run .leapBegin s))) = some ⟨1798761638000000000, 0, 38, .none⟩ := by
  decide +kernel

/-- Section 11.3, event 3: at 1,798,761,638 the offset becomes 38. -/
theorem test_leap_executed :
    let s := atXt 1798761638000000000 (full.withLeap { full.leap with offset := 37, pending := some { insertion with begun := true } })
    (run .leapExecuted s).leap.offset = 38 ∧ (run .leapExecuted s).leap.pending = none := by decide +kernel

/-! ## Requests of chapters 2 to 5 -/

theorem test_stamp_while_closed : answers (.stamp 0 7 none) (asking (.stamp none) full) = answered .notReady false := by decide +kernel

theorem test_stamp_of_bad_segment :
    answers (.stamp 0 7 (some 64#8)) (asking (.stamp (some 64#8)) locked) = answered .badIndex false := by decide +kernel

theorem test_stamp_grant_takes_next_number :
    let s := asking (.stamp none) locked
    let s := run (.stampGrant 0) (run (.stamp 0 7 none) (s.withArb { s.arb with seq := 41 }))
    s.arb.seq = 42 ∧ s.arb.highPtr = 1 ∧ (s.port 0).requests = [] ∧ (s.port 0).responses.map Record.seqNumber = [some 42] := by
  decide +kernel

theorem test_read_time_answers :
    answers (.readTime 0 7) (asking .readTime locked) =
      [.time 7 { epoch := 3, seq := 0, xt := 100000000000, offset := 0, leapState := .none, state := .locked
                 traceable := true, bound := 600 }] := by decide +kernel

theorem test_read_evidence_clears_spans :
    let s := full.withRefs (full.refs.set .refA { full.refs.a with span := some ⟨-5, 9⟩ })
    (run (.readEvidence 0 7) (asking .readEvidence s)).refs.a.span = none := by decide +kernel

theorem test_set_time_asks_for_step :
    (run (.setTime 0 7 50) (asking (.setTime 50) full)).steer.pendingSteps = [⟨.manual (some 0) 7, 50000000000⟩] := by decide +kernel

theorem test_set_time_over_range :
    answers (.setTime 0 7 9223372037) (asking (.setTime 9223372037) full) = answered .limit false := by decide +kernel

theorem test_set_leap_insert_pends :
    let s := full.withLeap { full.leap with offset := 37 }
    (run (.setLeapInsert 0 7 20818) (asking (.setLeap 20818 .insert) s)).leap.pending = some { insertion with source := .request } := by
  decide +kernel

theorem test_set_leap_delete_in_locked_is_stored :
    let s := run (.setLeapDelete 0 7 20818) (asking (.setLeap 20818 .delete) locked)
    s.leap.store = some { kind := .delete, day := 20818 } ∧ s.leap.pending = none := by decide +kernel

theorem test_set_leap_withdraw_empties :
    let s := full.withLeap { full.leap with store := some { kind := .delete, day := 9 } }
    (run (.setLeapWithdraw 0 7 0) (asking (.setLeap 0 .withdraw) s)).leap.store = none := by decide +kernel

/-! ## The loop and the draw, from the worked cases (sections 3.5.1, 6.11, 11.1) -/

theorem test_loop_case_one :
    (({ full.steer with integ := 3000 } : SteeringUnit).runLoop 2500).adj = -21062 ∧
      (({ full.steer with integ := 3000 } : SteeringUnit).runLoop 2500).integ = 344 := by decide +kernel

theorem test_loop_case_two :
    (({ full.steer with integ := 344 } : SteeringUnit).runLoop (-700)).adj = 7080 ∧
      (({ full.steer with integ := 344 } : SteeringUnit).runLoop (-700)).integ = 1087 := by decide +kernel

theorem test_draw_of_section_6_11 :
    makeDraw 2654435769#32 30000000 1799771437000000000 =
      { closeXt := 1799771455541019000, r := 18541019, raw := 2654435769#32 } := by decide +kernel

theorem test_draw_of_section_11_1 :
    (makeDraw 858993459#32 10000000 1800633700000000008).closeXt = 1800633701999999008 := by decide +kernel

/-- Table 11-1. -/
theorem test_instants_of_table_11_1 :
    ({ full.leap with offset := 37 } : LeapUnit).arm 20840 closing = some closingInstants := by decide +kernel

/-- Section 11.3, event 5: day 20,820 opens at 1,798,905,638 under offset 38. -/
theorem test_arming_after_the_leap :
    ({ full.leap with offset := 38 } : LeapUnit).convert 20820 57600000000000 = some 1798905638000000000 := by decide +kernel

/-! ## Segments (chapter 6) -/

theorem test_open_instant_due :
    let s := run (.openInstantDue 12) (atXt 1800630037000000000 (inCycle .armed (.settled .armed) locked))
    s.commits = [{ seg := 12, kind := .opening, after := some .opened }] ∧ (s.segs.get 12).committed = .settled .opened := by
  decide +kernel

theorem test_call_instant_not_yet_due :
    (run (.callInstantDue 12) (atXt 1800633336999999999 (inCycle .opened (.settled .opened) locked))).commits = [] := by
  decide +kernel

theorem test_armed_close_due :
    (run (.armedCloseDue 12) (atXt 1800633637000000000 (inCycle .call (.settled .call) locked))).commits =
      [{ seg := 12, kind := .draw, after := some .random }] := by decide +kernel

/-- Section 6.11, event 6: the drawn close is taken and the committed state is ENDING. -/
theorem test_drawn_close_due :
    let s := seg12 (fun g => { g with drawn := some ⟨1800633701999999008, 1999999, 858993459⟩ })
      (inCycle .random (.settled .random) locked)
    ((run (.drawnCloseDue 12) (atXt 1800633701999999008 s)).segs.get 12).committed = .ending := by decide +kernel

theorem test_arm_grant :
    let s := waiting (.arm false 0 (some 20840) (some closingInstants)) (some .armed) (inCycle .idle (.settled .armed) locked)
    ((run .armGrant s).segs.get 12).state = .armed ∧ (run .armGrant s).arb.seq = 1 ∧ (run .armGrant s).commits = [] := by
  decide +kernel

theorem test_revise_grant :
    (run .reviseGrant (waiting (.revise false 0 1 2 3 4) (some .opened) (inCycle .opened (.settled .opened) locked))).arb.seq = 1 := by
  decide +kernel

theorem test_disarm_grant :
    let s := waiting (.disarm false 0 (some 20840) (some closingInstants)) (some .idle) (inCycle .armed (.settled .idle) locked)
    ((run .disarmGrant s).segs.get 12).state = .idle := by decide +kernel

theorem test_missed_grant :
    let s := waiting (.missed (some 20840) 5) (some .idle) (inCycle .armed (.settled .idle) locked)
    ((run .missedGrant s).segs.get 12).state = .idle := by decide +kernel

/-- Section 11.1, event 2: OPEN is granted and the cycle number becomes 1. -/
theorem test_open_grant :
    let s := waiting .opening (some .opened) (inCycle .armed (.settled .opened) locked)
    let t := run .openGrant (s.withArb { s.arb with seq := 81499 })
    (t.segs.get 12).cycle = 1 ∧ (t.segs.get 12).lastOpen = 81500 := by decide +kernel

theorem test_call_grant :
    ((run .callGrant (waiting .call (some .call) (inCycle .opened (.settled .call) locked))).segs.get 12).lastCall = 1 := by
  decide +kernel

/-- R63: the notice and the entry of a CALL granted in a leap second carry IN_LEAP and the offset before the leap. -/
theorem test_notice_carries_its_offset :
    let s := waiting .call (some .call) (inCycle .opened (.settled .call) (locked.withPort 0 { locked.port 0 with up := true }))
    let t := run .callGrant
      (atXt 1798761637500000000 (s.withLeap { s.leap with offset := 37, pending := some { insertion with begun := true } }))
    t.trail.entries.getLast?.map TrailEntry.written = some ⟨1798761637500000000, 1, 37, .inLeap⟩ ∧
      (t.port 0).responses.map (fun r => match r with
        | .segmentEvent n => (n.offset, n.leapState)
        | _ => (0, .none)) = [(37, .inLeap)] := by decide +kernel

/-- Section 11.2, event 3: with W = 0 the drawn close is the armed close, whatever the source gives. -/
theorem test_draw_in_no_window (raw : BitVec 32) (x : Ns) : (makeDraw raw 0 x).closeXt = x ∧ (makeDraw raw 0 x).r = 0 := by
  simp [makeDraw]

/-- Section 6.11, event 6: the segment closes DRAWN with the close record of its draw. -/
theorem test_end_grant_closes :
    let s := seg12 (fun g => { g with cycle := 1, extensions := 1, drawn := some ⟨1800633701999999008, 1999999, 858993459⟩ })
      (waiting .ending none (inCycle .random .ending locked))
    let t := run .endGrant (s.withArb { s.arb with seq := 83119 })
    (t.segs.get 12).closeRec = some ⟨1, .drawn, 1800633701999999008, 83120, some 1999999, 1, true, 600⟩ ∧
      (t.segs.get 12).state = .closed := by decide +kernel

/-- Section 11.2, event 3: untraceable with hold-on-untraceable set, the segment is suspended. -/
theorem test_end_grant_suspends :
    let s := seg12 (fun g => { g with drawn := some ⟨1800633637000000000, 0, 9⟩ }) (waiting .ending none (inCycle .random .ending locked))
    let t := run .endGrant (s.withSteer { s.steer with traceable := false })
    (t.segs.get 12).state = .suspended ∧ (t.segs.get 12).drawn = none ∧ (t.segs.get 12).closeRec = none := by decide +kernel

/-- Table 11-2: an EXTEND of 60 s granted at XT 1,800,633,640.000000008. -/
theorem test_extend_grant :
    let s := seg12 (fun g => { g with drawn := some ⟨1800633642000000000, 5000000, 2147483648⟩ })
      (waiting (.extend 0) (some .call) (inCycle .random (.settled .call) locked))
    let s := s.withProfiles (s.profiles.set 2 ⟨10000000, 60, 2⟩)
    let t := run .extendGrant (atXt 1800633640000000008 s)
    (t.segs.get 12).armed.map (fun a => a.closeAt) = some ⟨1800633700000000008, false⟩ ∧ (t.segs.get 12).drawn = none ∧
      (t.segs.get 12).extensions = 1 ∧ (t.segs.get 12).state = .call := by decide +kernel

theorem test_release_grant :
    let t := run .releaseGrant (waiting (.release 0) none (inCycle .suspended (.settled .closed) locked))
    (t.segs.get 12).state = .closed ∧ (t.segs.get 12).closeRec.map (fun r => (r.outcome, r.closeXt, r.r)) =
      some (.released, 100000000000, none) := by decide +kernel

theorem test_halt_grant :
    let t := run .haltGrant (waiting (.halt 0) none (inCycle .opened (.settled .closed) locked))
    (t.segs.get 12).closeRec.map (fun r => r.outcome) = some .halted := by decide +kernel

/-- Section 11.3, event 1: repeat 2 falls to 1 and day 20,819 is armed. -/
theorem test_repeat_arms_the_next_day :
    let d : Definition := { closing with
      firstDay := 20818, openTime := 57600000000000, callTime := 59100000000000, closeTime := 59400000000000, repeats := 2 }
    (({ full.leap with offset := 37 } : LeapUnit).rearm d 1798734637000000000 2 20819 0) =
      (some (20819, ⟨⟨1798819237000000000, false⟩, ⟨1798820737000000000, false⟩, ⟨1798821037000000000, false⟩⟩), 1, 0) := by
  decide +kernel

theorem test_segment_write_arms :
    let body : ReqBody := .segmentWrite 12 2 closing
    let s := full.withLeap { full.leap with offset := 37 }
    let t := run (.segmentWrite 0 7 12 2 closing) (asking body s)
    (t.segs.get 12).armed = some closingInstants ∧ (t.segs.get 12).committed = .settled .armed ∧
      (t.port 0).responses = answered .ok false := by decide +kernel

theorem test_segment_write_too_late :
    let body : ReqBody := .segmentWrite 12 2 closing
    let s := atXt 1800630037000000000 (full.withLeap { full.leap with offset := 37 })
    answers (.segmentWrite 0 7 12 2 closing) (asking body s) = answered .tooLate false := by decide +kernel

theorem test_segment_swap_answers_the_old_record :
    let body : ReqBody := .segmentSwap 12 2 closing
    (answers (.segmentSwap 0 7 12 2 closing) (asking body full)) = [.segment 7 (full.segmentBody 12)] := by decide +kernel

theorem test_segment_read_of_bad_index :
    answers (.segmentRead 0 7 64) (asking (.segmentRead 64) full) = answered .badIndex false := by decide +kernel

/-- Section 11.1, event 5. -/
theorem test_extend_commits :
    let s := inCycle .random (.settled .random) locked
    let s := s.withProfiles (s.profiles.set 2 ⟨10000000, 60, 2⟩)
    (run (.extend 0 7 12) (asking (.extend 12) s)).commits = [{ seg := 12, kind := .extend 0, after := some .call }] := by
  decide +kernel

/-- Section 6.11, event 5: the extensions used equal the maximum. -/
theorem test_extend_over_limit :
    let s := seg12 (fun g => { g with extensions := 1 }) (inCycle .random (.settled .random) locked)
    let s := s.withProfiles (s.profiles.set 2 ⟨30000000, 120, 1⟩)
    answers (.extend 0 7 12) (asking (.extend 12) s) = answered .limit false := by decide +kernel

theorem test_release_in_call_is_refused :
    answers (.release 0 7 12) (asking (.release 12) (inCycle .call (.settled .call) locked)) = answered .badState false := by
  decide +kernel

theorem test_release_of_suspended :
    (run (.release 0 7 12) (asking (.release 12) (inCycle .suspended (.settled .suspended) locked))).commits =
      [{ seg := 12, kind := .release 0, after := some .closed }] := by decide +kernel

theorem test_halt_in_ending_is_too_late :
    answers (.halt 0 7 12) (asking (.halt 12) (inCycle .random .ending locked)) = answered .tooLate false := by decide +kernel

theorem test_halt_in_open :
    ((run (.halt 0 7 12) (asking (.halt 12) (inCycle .opened (.settled .opened) locked))).segs.get 12).committed =
      .settled .closed := by decide +kernel

theorem test_profile_write_clamps :
    let t := run (.profileWrite 0 7 1 16 0 600000001) (asking (.profileWrite 1 16 0 600000001) full)
    t.profiles.get 1 = ⟨600000000, 1, 15⟩ ∧ (t.port 0).responses = answered .ok true := by decide +kernel

/-- Section 11.1, event 3. -/
theorem test_profile_write_in_call_is_refused :
    answers (.profileWrite 0 7 2 1 60 5) (asking (.profileWrite 2 1 60 5) (inCycle .call (.settled .call) locked)) =
      answered .badState false := by decide +kernel

/-! ## Capture and outputs (chapter 7) -/

/-- Line 3 with both edges selected, mapped to port 0, and port 0 UP. -/
def capturing (f : CaptureLine → CaptureLine) : State :=
  (locked.withCapture (locked.capture.set 3 (f { locked.capture.get 3 with edgeSel := .both, port := 0 }))).withPort 0
    { locked.port 0 with up := true }

theorem test_capture_edge_is_kept :
    ((run (.captureEdge 3 .falling) (capturing id)).capture.get 3).fifo = [⟨.falling, 100000000000⟩] := by decide +kernel

theorem test_fifth_edge_is_counted :
    let s := capturing fun c => { c with fifo := List.replicate 4 ⟨.rising, 5⟩ }
    ((run (.captureEdge 3 .rising) s).capture.get 3).overflow = 1 ∧ (run (.captureEdge 3 .rising) s).trail.counters.overflows = 1 := by
  decide +kernel

theorem test_capture_grant :
    let t := run (.captureGrant 3) (capturing fun c => { c with fifo := [⟨.rising, 5⟩], overflow := 2 })
    (t.capture.get 3).fifo = [] ∧ (t.capture.get 3).overflow = 0 ∧ t.arb.capturePtr = 4 ∧
      (t.port 0).responses.map Record.seqNumber = [some 1] := by decide +kernel

theorem test_capture_set_remaps :
    let t := run (.captureSet 0 7 3 255 5) (asking (.captureSet 3 255 5) (capturing fun c => { c with fifo := [⟨.rising, 5⟩] }))
    (t.capture.get 3).port = 5 ∧ (t.capture.get 3).fifo = [] ∧ (t.capture.get 3).overflow = 1 := by decide +kernel

/-- Line 2 as `f` gives it. -/
def lineTwo (f : OutputLine → OutputLine) (s : State) : State := s.withOutputs (s.outputs.set 2 (f (s.outputs.get 2)))

theorem test_pulse_end :
    let s := lineTwo (fun o => { o with mode := .secondPulse, high := true, pulseEnd := some 100000000000 }) locked
    ((run (.pulseEnd 2) s).outputs.get 2).high = false := by decide +kernel

theorem test_at_instant_fires :
    let s := lineTwo (fun o => { o with mode := .atInstant, armed := some ⟨true, 100000000000⟩ }) locked
    ((run (.atInstantFire 2) s).outputs.get 2).high = true := by decide +kernel

/-- The fields of an OUTPUT_SET of line 2. -/
def fields (level : Byte) (width : BitVec 32) (instant : BitVec 64) : OutputFields := ⟨2, level, width, instant⟩

theorem test_output_set_off :
    let s := lineTwo (fun o => { o with mode := .secondPulse, high := true }) locked
    ((run (.outputSetOff 0 7 (fields 0 5 0)) (asking (.outputSet .off (fields 0 5 0)) s)).outputs.get 2).high = false := by
  decide +kernel

theorem test_output_set_pulse_clamps_width :
    let t := run (.outputSetSecondPulse 0 7 (fields 0 0 0)) (asking (.outputSet .secondPulse (fields 0 0 0)) locked)
    (t.outputs.get 2).width = 1 ∧ (t.port 0).responses = answered .ok true := by decide +kernel

theorem test_output_set_follow_takes_the_level :
    let s := seg12 (fun g => { g with
      state := .closed, defn := some { closing with outputs := 4 }, closeRec := some ⟨1, .drawn, 5, 6, none, 0, true, 7⟩ }) locked
    ((run (.outputSetCloseFollow 0 7 (fields 0 5 0)) (asking (.outputSet .closeFollow (fields 0 5 0)) s)).outputs.get 2).high =
      true := by decide +kernel

theorem test_output_set_at_instant_arms :
    let f := fields 1 5 100000000001
    ((run (.outputSetAtInstant 0 7 f) (asking (.outputSet .atInstant f) locked)).outputs.get 2).armed =
      some ⟨true, 100000000001⟩ := by decide +kernel

theorem test_output_set_at_instant_of_bad_level :
    answers (.outputSetAtInstant 0 7 (fields 2 5 0)) (asking (.outputSet .atInstant (fields 2 5 0)) locked) =
      answered .malformed false := by decide +kernel

/-! ## Trail (chapter 8) -/

/-- Three entries with trail sequences 5 to 7. -/
def threeEntries : State :=
  full.withTrail { full.trail with
    entries := [⟨5, ⟨0, 0, 0, .none⟩, .restart 1 false⟩, ⟨6, ⟨0, 0, 0, .none⟩, .restart 2 false⟩, ⟨7, ⟨0, 0, 0, .none⟩, .restart 3 false⟩]
    k := 5
    wIx := 8 }

theorem test_trail_read :
    answers (.trailRead 0 7 6 8) (asking (.trailRead 6 8) threeEntries) =
      [.trail 7 5 8 [⟨6, ⟨0, 0, 0, .none⟩, .restart 2 false⟩, ⟨7, ⟨0, 0, 0, .none⟩, .restart 3 false⟩]] := by decide +kernel

theorem test_trail_read_below_k :
    answers (.trailRead 0 7 4 8) (asking (.trailRead 4 8) threeEntries) = answered .badIndex false := by decide +kernel

/-- Section 11.4, event 6: an index equal to K is OK with the clamped indicator clear. -/
theorem test_trail_ack_of_k :
    answers (.trailAck 0 7 5) (asking (.trailAck 5) threeEntries) = answered .ok false := by decide +kernel

theorem test_trail_ack_above :
    let t := run (.trailAck 0 7 9) (asking (.trailAck 9) threeEntries)
    t.trail.k = 8 ∧ t.trail.entries = [] ∧ (t.port 0).responses = answered .ok true := by decide +kernel

/-- Section 11.4, event 2: a class-B entry at 3,840 unread is suppressed and counted. -/
theorem test_class_b_is_suppressed :
    let t := (({ full.trail with wIx := 53841, k := 50001 } : TrailUnit).request (.port 3 .overrun) ⟨0, 0, 0, .none⟩)
    t.wIx = 53841 ∧ t.counters.suppressed = 1 := by decide +kernel

/-- Section 11.4, event 4: the summary's own overwrite is counted in the fresh counters. -/
theorem test_summary_overwrites_into_fresh_counters :
    let t := (({ full.trail with wIx := 54097, k := 50001, prevSummary := 53700 } : TrailUnit).summarise none ⟨0, 0, 0, .none⟩)
    t.k = 50002 ∧ t.wIx = 54098 ∧ t.counters.overwritten = 1 ∧ t.prevSummary = 54097 := by decide +kernel

theorem test_summary_now :
    let s := full.withTrail { full.trail with seconds := 9 }
    let t := run (.summaryNow 0 7) (asking .summaryNow s)
    t.trail.seconds = 0 ∧ t.trail.prevSummary = 2 ∧ t.trail.wIx = 3 := by decide +kernel

/-! ## Ports (chapter 9) -/

theorem test_request_frame_brings_link_up :
    let t := run (.clientFrame 0 [0x11#8, 0#8, 0#8, 0#8, 7#8, 0xCF#8, 0xE0#8]) full
    (t.port 0).up = true ∧ (t.port 0).requests = [⟨7, .readTime⟩] ∧ (t.port 0).silence = some 2500000 := by decide +kernel

theorem test_damaged_frame_is_counted :
    let t := run (.clientFrame 0 [0x11#8, 0#8, 0#8, 0#8, 6#8, 0xCF#8, 0xE0#8]) full
    t.port 0 = full.port 0 ∧ t.trail.counters.crcDiscards.get 0 = 1 := by decide +kernel

theorem test_frame_abandoned : (run (.frameAbandoned 5) full).trail.counters.crcDiscards.get 5 = 1 := by decide +kernel

/-- Section 11.4, event 2: three STAMPED records are discarded; their numbers span 90,114 to 90,130. -/
theorem test_link_timeout :
    let stamp (n : Nat) : Record := .stamped 0 { time := { full.reading with seq := n }, evidence := 0, segPart := none }
    let s := full.withPort 3 { full.port 3 with up := true, silence := some 0, responses := [stamp 90114, stamp 90121, stamp 90130] }
    let t := run (.linkTimeout 3) s
    (t.port 3).up = false ∧ t.trail.entries.getLast?.map TrailEntry.body =
      some (.port 3 (.portReset .linkTimeout 3 (some (90114, 90130)))) := by decide +kernel

theorem test_idle_frame_after_reset : ((run (.idleFrame 0) full).port 0).idleTimer = 250000 := by decide +kernel

theorem test_batch_frame :
    let s := full.withPort 0 { full.port 0 with up := true, responses := [.done 7 .ok false] }
    ((run (.batchFrame 0) s).port 0).inFlight = 1 ∧ ((run (.batchFrame 0) s).port 0).batchNumber = 1 := by decide +kernel

theorem test_batch_frame_sent :
    let s := full.withPort 0 { full.port 0 with
      up := true, sending := true, inFlight := 1, responses := [.done 7 .ok false, .done 8 .ok false] }
    ((run (.batchFrameSent 0) s).port 0).responses = [.done 8 .ok false] := by decide +kernel

theorem test_waiting_answer :
    let s := full.withPort 0 { full.port 0 with up := true, requests := [⟨7, .readTime⟩], service := .waiting (.done 7 .ok false) false }
    ((run (.waitingAnswer 0) s).port 0).responses = [.done 7 .ok false] ∧ ((run (.waitingAnswer 0) s).port 0).requests = [] := by
  decide +kernel

theorem test_pending_notice_drain :
    let s := full.withPort 0 { full.port 0 with up := true, pendPort := true, overrun := 4 }
    ((run (.pendingNoticeDrain 0) s).port 0).responses = [.port 4] ∧ ((run (.pendingNoticeDrain 0) s).port 0).overrun = 0 := by
  decide +kernel

theorem test_subscribe_clamps :
    let t := run (.subscribe 0 7 0 0) (asking (.subscribe 0 0) full)
    (t.port 0).statusSub = false ∧ (t.port 0).threshold = 1 ∧ (t.port 0).responses = answered .ok true := by decide +kernel

theorem test_drain_waits :
    let s := asking .drain full
    ((run (.drain 0 7) (s.withPort 0 { s.port 0 with responses := [.port 1] })).port 0).service = .draining 7 1 := by decide +kernel

theorem test_drain_complete :
    let s := asking .drain full
    answers (.drainComplete 0) (s.withPort 0 { s.port 0 with service := .draining 7 0 }) = answered .ok false := by decide +kernel

theorem test_malformed_request :
    answers (.malformedRequest 0 7 17 [1]) (asking (.malformed 17 [1]) full) = answered .malformed false := by decide +kernel

/-- A GATEWAY port has no leap right (Table 9-1). -/
theorem test_set_leap_on_gateway :
    answers (.setLeapInsert 0 7 9) (asking (.setLeap 9 .insert) State.reset) = answered .noRight false := by decide +kernel

/-! ## SET_TIMING (R163, Tables 2-8, 3-8, 10-6) -/

theorem test_settle_period_completes_the_settle :
    let s := atXt 7000000000 (full.withTick { full.tick with returnPhase := .settle, settleDeadline := some 12000000000 })
    (run (.setTimingSettlePeriod 0 7 5) (asking (.setTiming 1 5) s)).tick.returnPhase = .lockWait := by decide +kernel

theorem test_ref_profile : (run (.setTimingRefProfile 0 7 .refB 1) (asking (.setTiming 17 1) full)).refs.b.profile = .lenient := by
  decide +kernel

theorem test_ref_priority_clamps :
    let t := run (.setTimingRefPriority 0 7 .refC 9) (asking (.setTiming 21 9) full)
    t.refs.c.priority = 3 ∧ (t.port 0).responses = answered .ok true := by decide +kernel

theorem test_cable_delay_is_signed :
    (run (.setTimingCableDelay 0 7 .refA (BitVec.ofInt 64 (-100))) (asking (.setTiming 22 (BitVec.ofInt 64 (-100))) full)).refs.a.cableDelay
      = -100 := by decide +kernel

theorem test_p_win : (run (.setTimingPWin 0 7 99) (asking (.setTiming 25 99) full)).refCfg.pWin = 100 := by decide +kernel

theorem test_minimum_quality :
    (run (.setTimingMinimumQuality 0 7 3) (asking (.setTiming 26 3) full)).refCfg.minQuality = 3 := by decide +kernel

theorem test_limit_d : (run (.setTimingD 0 7 600) (asking (.setTiming 27 600) full)).refCfg.limitD = 600 := by decide +kernel

theorem test_revertive_mode :
    (run (.setTimingRevertiveMode 0 7 2) (asking (.setTiming 28 2) full)).refCfg.revertive = true := by decide +kernel

theorem test_kp_waits_for_the_mark :
    let t := run (.setTimingKp 0 7 1024) (asking (.setTiming 32 1024) full)
    t.steer.written.kp = 1023 ∧ t.steer.inForce.kp = 137 := by decide +kernel

theorem test_ki : (run (.setTimingKi 0 7 0) (asking (.setTiming 33 0) full)).steer.written.ki = 0 := by decide +kernel

theorem test_slew_limit : (run (.setTimingL 0 7 0) (asking (.setTiming 34 0) full)).steer.written.slewL = 1 := by decide +kernel

theorem test_growth_h : (run (.setTimingH 0 7 65536) (asking (.setTiming 35 65536) full)).steer.written.growthH = 65535 := by
  decide +kernel

theorem test_growth_h_ring : (run (.setTimingHRing 0 7 1) (asking (.setTiming 36 1) full)).steer.written.growthHRing = 1 := by
  decide +kernel

theorem test_w_lock : (run (.setTimingWLock 0 7 49) (asking (.setTiming 37 49) full)).steer.wLock = 50 := by decide +kernel

theorem test_acquisition_timeout_expires_at_once :
    let s := inState .acquire full
    let s := s.withSteer { s.steer with timeSet := true, acqTimer := some 2500000000 }
    (run (.setTimingAcquisitionTimeout 0 7 10) (asking (.setTiming 38 10) s)).steer.state = .holdover := by decide +kernel

theorem test_limit_m_retraces :
    let s := locked.withSteer { locked.steer with bound := 1001 }
    (run (.setTimingM 0 7 1) (asking (.setTiming 39 1) s)).steer.traceable = false := by decide +kernel

theorem test_u_fixed : (run (.setTimingUFixed 0 7 200) (asking (.setTiming 40 200) full)).steer.uFixed = 200 := by decide +kernel

theorem test_u_manual :
    (run (.setTimingUManual 0 7 4294967296) (asking (.setTiming 41 4294967296) full)).steer.uManual = 4294967295 := by decide +kernel

theorem test_utc_offset_moves_the_instants :
    let s := inCycle .armed (.settled .armed) (full.withLeap { full.leap with offset := 37 })
    let t := run (.setTimingUtcOffset 0 7 38) (asking (.setTiming 48 38) s)
    t.leap.offset = 38 ∧ (t.segs.get 12).armed.map (fun a => a.openAt.xt) = some 1800630038000000000 := by decide +kernel

theorem test_summary_interval :
    (run (.setTimingSummaryInterval 0 7 3601) (asking (.setTiming 64 3601) full)).trail.interval = 3600 := by decide +kernel

theorem test_summary_mode :
    (run (.setTimingSummaryMode 0 7 1) (asking (.setTiming 65 1) full)).trail.mode = .manual := by decide +kernel

theorem test_unknown_item :
    answers (.setTimingUnknownItem 0 7 2 5) (asking (.setTiming 2 5) full) = answered .badIndex false := by decide +kernel

theorem test_front_command_runs :
    (match step (full.withPending [.frameAbandoned 5]) with
      | .next t => t.trail.counters.crcDiscards.get 5 == 1 && t.pending.isEmpty
      | _ => false) = true := by decide +kernel

/-! ## States and operands that meet the hypotheses of the statements -/

/-- A served request from the two tests on its state. -/
theorem served {s : State} {right : Right} {p : Port} {tag : Tag} {body : ReqBody}
    (h : (s.headIs p tag body && (s.port p).role.has right) = true) : s.canServe right p tag body := by
  simpa [State.canServe] using h

/-- `s` with no idle frame due on any port and an edge of the main input just come. -/
def quiet (s : State) : State :=
  (s.withPorts (s.ports.map fun pc => { pc with idleTimer := 5 })).withTick
    { s.tick with mainGap := if s.tick.mainMonitor = .present then some 250 else none }

/-- No step is taken where none is pending. -/
theorem no_step {s : State} (h : s.steer.pendingSteps = []) (st : PendingStep) : ¬ stepIsTaken s st := by
  rintro ⟨h', -⟩; rw [h] at h'; cases h'

/-- A state in which the main input is present and the PLL confirmed. -/
def onPll (st : TimescaleState) : State := inState st full

/-- A STAMP waits on port 0. -/
def stampWaits (p : Port) (s : State) : State :=
  s.withPort p { s.port p with up := true, requests := [⟨7, .stamp none⟩], service := .stamping 7 none }

/-- Events of the part due in one state: instants reached exactly, timers run out, and frames to send. -/
theorem test_own_events_are_due :
    Instr.mainAbsent ∈ locked.dueEvents ∧ Instr.mainAbsent ∉ (quiet locked).dueEvents ∧
      (let s := inState .fallback full
       let s := s.withTick { s.tick with returnPhase := .lockWait, pllMonitor := .confirmed }
       Instr.mainReturn ∉ s.dueEvents ∧ Instr.mainReturn ∈ (s.withTick { s.tick with source := .pll }).dueEvents) ∧
      Instr.secondMark true ∈ (atMark locked).dueEvents ∧ Instr.secondMark false ∈ (atMark locked).dueEvents ∧
      Instr.openInstantDue 12 ∈ (atXt 1800630037000000000 (inCycle .armed (.settled .armed) locked)).dueEvents ∧
      Instr.openInstantDue 12 ∉ (atXt 1800630036999999999 (inCycle .armed (.settled .armed) locked)).dueEvents ∧
      Instr.openGrant ∈ (waiting .opening (some .opened) (inCycle .armed (.settled .opened) locked)).dueEvents := by
  decide +kernel

/-- R80: a close due at this tick is presented before a capture, and R86: an entry freed at this tick makes no STAMP eligible. -/
theorem test_own_events_wait_their_turn :
    (let s := stampWaits 0 locked
     Instr.stampGrant 0 ∈ s.dueEvents ∧
       Instr.stampGrant 0 ∉ (s.withPort 0 { s.port 0 with justFreed := true }).dueEvents) ∧
      (let s := stampWaits 0 (inCycle .random (.settled .random) locked)
       let due (x : Ns) : State := seg12 (fun g => { g with drawn := some ⟨x, 1, 2⟩ }) s
       Instr.stampGrant 0 ∉ (due 100000000000).dueEvents ∧ Instr.stampGrant 0 ∈ (due 100000000001).dueEvents) := by
  decide +kernel

/-- A mark due with the loop items written anew. -/
def relooped (w : LoopItems) (s : State) : State := atMark (s.withSteer { s.steer with written := w })

theorem test_hyps_front_command : (full.withPending [.frameAbandoned 5]).pending = .frameAbandoned 5 :: [] := rfl

theorem test_hyps_idle :
    full.pending = [] ∧ Instr.idleFrame 0 ∈ full.dueEvents ∧ (quiet full).pending = [] ∧ (quiet full).dueEvents = [] ∧
      (∀ st : PendingStep, ¬ stepIsTaken (quiet full) st) ∧
      (quiet (full.withSteer { full.steer with pendingSteps := [⟨.acquisition, 0⟩] })).dueEvents = [] ∧
      stepIsTaken (quiet (full.withSteer { full.steer with pendingSteps := [⟨.acquisition, 0⟩] })) ⟨.acquisition, 0⟩ :=
  ⟨by decide +kernel, by decide +kernel, by decide +kernel, by decide +kernel, no_step (by decide +kernel), by decide +kernel,
    by simp only [stepIsTaken]; decide +kernel⟩

/-- A segment event in its turn, of any kind. -/
theorem test_hyps_grants_are_due (k : SegEventKind) (after : Option SegState) :
    segmentTurn (waiting k after locked) { seg := 12, kind := k, after := after } := ⟨rfl, rfl, rfl⟩

theorem test_hyps_request_is_taken :
    ((asking .drain full).port 0).requests = ⟨7, .drain⟩ :: [] ∧ ((asking .drain full).port 0).service = .untaken := by
  decide +kernel

theorem test_hyps_request_not_at_the_head :
    Instr.asked (.readTime 0 7) = some (0, 7, .readTime) ∧ full.headIs 0 7 .readTime = false := by decide +kernel

theorem test_hyps_no_right :
    Instr.asked (.setLeapInsert 0 7 9) = some (0, 7, .setLeap 9 .insert) ∧ Instr.needs (.setLeapInsert 0 7 9) = some .leap ∧
      (asking (.setLeap 9 .insert) State.reset).headIs 0 7 (.setLeap 9 .insert) = true ∧
      ((asking (.setLeap 9 .insert) State.reset).port 0).role.has .leap = false := by decide +kernel

/-- On the ring; on the PLL, 4 ns before a mark; and at the PLL edge that completes a return, with I above L. -/
theorem test_hyps_tick :
    ((quiet full).dueEvents = [] ∧ (∀ st, ¬ stepIsTaken (quiet full) st) ∧ ticksBy (quiet full) 17179869184) ∧
      (let s := quiet (atXt 99999999996 locked)
       s.dueEvents = [] ∧ (∀ st, ¬ stepIsTaken s st) ∧ ticksBy s 17179869184 ∧ s.xt.frac < 4294967296 ∧
         s.xt.ns + 17179869184 / 4294967296 + 1 < 18446744073709551616) ∧
      (let s := inState .fallback full
       let s := quiet ((s.withTick { s.tick with returnPhase := .lockWait, pllMonitor := .confirmed }).withSteer
         { s.steer with integ := 1048577 })
       s.dueEvents = [] ∧ (∀ st, ¬ stepIsTaken s st) ∧ ticksBy s 17180917760) := by
  refine ⟨⟨by decide +kernel, no_step (by decide +kernel), ?_⟩,
    ⟨by decide +kernel, no_step (by decide +kernel), ?_, by decide +kernel, by decide +kernel⟩,
    ⟨by decide +kernel, no_step (by decide +kernel), ?_⟩⟩ <;> (simp only [ticksBy, pllDrives]; decide +kernel)

/-- The three conditions of the lock wait met, and an absent main input in FALLBACK. -/
theorem test_hyps_monitors :
    full.tick.mainMonitor = .absent ∧ locked.tick.mainMonitor = .present ∧ full.tick.pllMonitor = .unlocked ∧
      full.steer.state = .cold ∧
      (let s := atXt 12 (full.withTick { full.tick with returnPhase := .settle, settleDeadline := some 12 })
       s.tick.returnPhase = .settle ∧ s.tick.settleDeadline = some 12 ∧ (12 : Int) ≤ s.now) := by decide +kernel

theorem test_hyps_no_main_loss :
    (∀ st ∈ [TimescaleState.cold, .fallback], (onPll st).tick.mainMonitor = .present ∧ (onPll st).tick.mainGap = some 0 ∧
      ¬ returnEdge (onPll st) ∧ (onPll st).steer.state = st) ∧
      full.tick.mainMonitor = .absent := by simp only [returnEdge]; decide +kernel

theorem test_hyps_main_loss :
    (∀ st ∈ [TimescaleState.acquire, .locked, .holdover], (onPll st).steer.state = st ∧
      (onPll st).tick.mainMonitor = .present ∧ (onPll st).tick.mainGap = some 0 ∧ (onPll st).tick.pllMonitor = .confirmed ∧
      (onPll st).tick.returnPhase = .none ∧ (onPll st).leap.store = none) := by decide +kernel

theorem test_hyps_lock_wait_expiry :
    (∀ st ∈ [TimescaleState.cold, .fallback],
      let s := inState st full
      let s := s.withTick { s.tick with pllMonitor := .lockWait, lockWaitTimer := some 0 }
      s.steer.state = st ∧ s.tick.pllMonitor = .lockWait ∧ s.tick.lockWaitTimer = some 0) := by decide +kernel

/-- The PLL edge has come, and 1 us has passed since the last edge of the main input. -/
theorem test_hyps_main_return :
    let s := inState .fallback full
    let s := s.withTick { s.tick with returnPhase := .lockWait, pllMonitor := .confirmed, source := .pll }
    returnEdge s ∧ s.tick.mainMonitor = .present ∧ s.tick.mainGap = some 0 := by simp only [returnEdge]; decide +kernel

/-- A stored epoch at its greatest value, and a store that holds none. -/
theorem test_hyps_device_reset :
    ({ full.epoch with stored := some 65535 } : EpochStore).stored = some 65535 ∧
      ({ full.epoch with stored := none } : EpochStore).stored = none := ⟨rfl, rfl⟩

/-- The bytes of `test_message_is_kept`. -/
def goodBytes : List Byte := [0#8, 0#8, 0#8, 0#8, 99#8, 37#8, 0#8, 15#8, 0#8, 40#8, 0#8, 0#8, 0#8, 0#8, 0#8, 65#8]

/-- A byte that begins just 500 us after the line fell idle and 1 ns early, and one before which the line was high for 1 ns less than
500 us, with none, 14 and 15 bytes held; and a message that passes and one that does not. -/
theorem test_hyps_byte :
    (∀ held ∈ [none, some (goodBytes.take 14), some (goodBytes.take 15)],
      let s := full.withRefs (full.refs.set .refA { full.refs.a with busyUntil := 70, assembly := held })
      (s.refs.get .refA).assembly = held ∧
        (s.refs.get .refA).busyUntil + 500000 ≤ (atXt 582535 s).now - ((0 : Nat) : Int) - 82465 ∧
        ¬ (s.refs.get .refA).busyUntil + 500000 ≤ (atXt 582534 s).now - ((0 : Nat) : Int) - 82465) ∧
      500000 ≤ (⟨65#8, 0, 500000⟩ : LineByte).high ∧ (⟨65#8, 0, 499999⟩ : LineByte).high < 500000 ∧
      (goodBytes.take 14 ++ [0#8]).length < 16 ∧ (goodBytes.take 15 ++ [65#8]).length = 16 ∧ messagePasses goodBytes ∧
      ¬ messagePasses (goodBytes.take 15 ++ [66#8]) := by
  simp only [messagePasses]; decide +kernel

/-- A message whose bytes stand 1 ns less apart than would break it, just 500 us after the line fell idle. -/
theorem test_hyps_message :
    let run := sent 582464 goodBytes
    let s := atXt 9319495 (full.withRefs (full.refs.set .refA { full.refs.a with busyUntil := 70 }))
    run.length = 16 ∧ run.head? = some ⟨0#8, 8736960, 500000⟩ ∧ run.getLast? = some ⟨65#8, 0, 504339⟩ ∧
      (s.refs.get .refA).busyUntil + 500000 ≤ s.now - ((8736960 : Nat) : Int) - 82465 ∧
      ∀ (n : Nat) (a b : LineByte), run[n]? = some a → run[n + 1]? = some b → b.high < 500000 ∨ a.ago < b.ago + 582465 := by
  refine ⟨by decide +kernel, by decide +kernel, by decide +kernel, by decide +kernel, fun n a b ha hb => ?_⟩
  simp only [sent, List.getElem?_mapIdx, Option.map_eq_some_iff] at ha hb
  obtain ⟨_, -, rfl⟩ := ha
  obtain ⟨_, -, rfl⟩ := hb
  simp only [goodBytes, List.length_cons, List.length_nil]
  exact .inr (by omega)

theorem test_hyps_first_pulse : (full.refs.get .refB).state = .absent := by decide +kernel

/-- The pulse of `test_good_pulse_measures`, at the greatest interval that P_win allows. -/
theorem test_hyps_good_pulse :
    let s := atXt 99000002300 full
    let s := s.withRefs (s.refs.set .refA { s.refs.a with
      state := .qualifying, lastMessage := some message, lastPulse := some 98000000300, goodLabel := some 98 })
    let x := s.refs.get .refA
    x.state ≠ .absent ∧ x.lastMessage = some message ∧ message.used = false ∧ s.now - 900000000 ≤ message.arrival ∧
      x.lastPulse = some 98000000300 ∧ (1000000000 : Int) - s.refCfg.pWin ≤ s.now - 98000000300 ∧
      s.now - 98000000300 ≤ 1000000000 + s.refCfg.pWin ∧ x.goodLabel = some 98 ∧ message.seconds = 98 + 1 ∧
      s.refCfg.minQuality ≤ message.quality := by decide +kernel

/-- A pulse without a message is BAD. -/
theorem test_hyps_bad_pulse (r : RefId) :
    let s := full.withRefs (full.refs.set r { full.refs.get r with state := .qualified })
    (s.refs.get r).state ≠ .absent ∧ ¬ ∃ m : Message, (s.refs.get r).lastMessage = some m := by
  cases r <;> exact ⟨by decide, fun ⟨m, h⟩ => nomatch h⟩

theorem test_hyps_missing_and_absence :
    let s := atXt 50 (full.withRefs (full.refs.set .refB { full.refs.b with
      state := .lost, expected := some 49, absence := some 50 }))
    (s.refs.get .refB).expected = some 49 ∧ (49 : Int) < s.now ∧ (s.refs.get .refB).absence = some 50 ∧ (50 : Int) ≤ s.now := by
  decide +kernel

/-- Every request with a right of its own is served on a FULL port. -/
theorem test_hyps_requests_served :
    (asking .readEvidence full).canServe .readEvidence 0 7 .readEvidence ∧
      (asking .readTime full).canServe .readTime 0 7 .readTime ∧ (asking .summaryNow full).canServe .trail 0 7 .summaryNow :=
  ⟨served (by decide +kernel), served (by decide +kernel), served (by decide +kernel)⟩

/-- Any request is taken on a port that `asking` has given it, with the right it needs on a FULL port. -/
theorem asking_serves (right : Right) (body : ReqBody) (s : State) (h : ((s.port 0).service, (s.port 0).role) = (.untaken, .full)) :
    (asking body s).headIs 0 7 body = true ∧ (asking body s).canServe right 0 7 body := by
  have h1 : ((asking body s).port 0).service = (s.port 0).service := by simp [asking]
  have h2 : ((asking body s).port 0).requests.head? = some ⟨7, body⟩ := by simp [asking]
  have h3 : ((asking body s).port 0).role = (s.port 0).role := by simp [asking]
  simp only [Prod.mk.injEq] at h
  have h4 : (asking body s).headIs 0 7 body = true := by simp [State.headIs, h1, h2, h.1]
  exact ⟨h4, h4, by rw [h3, h.2]; cases right <;> rfl⟩

/-- A SET_TIMING of any item is served on a FULL port. -/
theorem test_hyps_timing_served (it : TimingItem) (v : BitVec 64) :
    (asking (timingBody it v) full).canServe .timing 0 7 (timingBody it v) :=
  (asking_serves _ _ _ (by decide +kernel)).2

/-- Two qualified references of one priority, non-revertive with one of them selected, revertive, and none selected. -/
theorem test_hyps_second_mark_selects :
    let s := atMark (good 30 locked)
    s.xt.markDue = some 100000000000 ∧ s.refCfg.revertive = false ∧ s.steer.selection = some .refA ∧
      (s.refs.get .refA).state = .qualified ∧ 1 ≤ (s.refs.get .refA).priority ∧
      (let t := atMark (full.withRefs (full.refs.map fun x => { x with state := .qualified, priority := 1 }))
       t.xt.markDue = some 0 ∧ t.steer.selection = none ∧
         ∀ r ∈ RefId.all, (t.refs.get r).state = .qualified ∧ 1 ≤ (t.refs.get r).priority) := by decide +kernel

/-- In LOCKED and HOLDOVER with and without a GOOD second, and in HOLDOVER with a new H. -/
theorem test_hyps_second_mark_steers :
    (atMark (good 30 locked)).xt.markDue = some 100000000000 ∧ (atMark (good 30 locked)).steer.state = .locked ∧
      (atMark locked).steer.state = .locked ∧ (atMark (good 30 (atXt 100000000000 (onPll .holdover)))).steer.state = .holdover ∧
      (let s := relooped { LoopItems.reset with growthH := 21 } (onPll .holdover)
       s.steer.state = .holdover ∧ s.steer.written.growthH ≠ s.steer.inForce.growthH ∧ s.xt.markDue = some 0) := by
  decide +kernel

/-- In the other three states, in ACQUIRE with an error at W_lock and one above it, at the first and the third GOOD second. -/
theorem test_hyps_second_mark_steers_elsewhere :
    (∀ st ∈ [TimescaleState.cold, .fallback, .acquire],
      let s := atMark (onPll st)
      s.xt.markDue = some 0 ∧ s.steer.state = st ∧ s.steer.stampingOpen = s.steer.state.stamps) ∧
      (∀ e ∈ [(500 : Int), 501], ∀ n ∈ [0, 2],
        let s := atMark (good e (atXt 100000000000 (onPll .acquire)))
        let s := s.withSteer { s.steer with lockCount := n }
        s.xt.markDue = some 100000000000 ∧ s.steer.stampingOpen = s.steer.state.stamps ∧
          (decide (s.steer.wLock < e.natAbs) = decide (e = 501)) ∧ s.steer.lockCount = n) := by decide +kernel

/-- A third GOOD second in ACQUIRE with a step of a SET_TIME pending, on a port with an entry free and on one with none, and an
arming that has passed; a mark that changes the state, one that changes the flag alone, and one that changes neither. -/
theorem test_hyps_second_mark_reports :
    (∀ n ∈ [0, 64],
      let s := atXt 1800630037000000000 (inCycle .armed (.settled .armed) (onPll .acquire))
      let s := atMark (good 500 (s.withPort 0 { s.port 0 with up := true, responses := List.replicate n (.port 1) }))
      let s := s.withSteer { s.steer with lockCount := 2, pendingSteps := [⟨.manual (some 0) 7, 5⟩] }
      s.xt.markDue = some 1800630037000000000 ∧ s.steer.state = .acquire ∧ s.steer.stampingOpen = s.steer.state.stamps ∧
        withdrawnAnswers 0 s.steer.pendingSteps = [.done 7 .badState false] ∧ withdrawnAnswers 1 s.steer.pendingSteps = [] ∧
        (s.port 0).responses.length = n ∧ (s.segs.get 12).committed = .settled .armed ∧
        (s.segs.get 12).armed = some closingInstants ∧ closingInstants.openAt.xt ≤ s.now ∧
        (run (.secondMark true) s).steer.state = .locked) ∧
      (let s := atMark (good 30 locked)
       s.trail.Ok ∧ s.trail.wIx - s.trail.k < 3800 ∧ s.steer.stampingOpen = s.steer.state.stamps ∧
         (run (.secondMark true) s).steer.state = .locked ∧ (run (.secondMark true) s).steer.traceable = true ∧
         (run (.secondMark true) (s.withSteer { s.steer with limitM := 219 })).steer.traceable = false ∧
         (run (.secondMark true) (atMark locked)).steer.state = .holdover) := by
  simp only [TrailUnit.Ok, withdrawnAnswers]; decide +kernel

/-- A calibration count at each end of its range and beside it, and a summary due and not due. -/
theorem test_hyps_second_mark_blocks :
    (∀ n ∈ [199999999, 200000000, 300000000, 300000001],
      let s := atMark (locked.withTick { locked.tick with calibCount := some n })
      s.xt.markDue = some 100000000000 ∧ s.tick.calibCount = some n ∧ s.trail.wIx - s.trail.k < 3800) ∧
      (∀ n ∈ [58, 59],
        let s := atMark (locked.withTrail { locked.trail with seconds := n })
        decide (s.trail.mode = .auto ∧ s.trail.interval ≤ min (s.trail.seconds + 1) 4294967295) = decide (n = 59)) := by
  decide +kernel

/-- A step at each end of its range, one of a SET_TIME and one of the acquisition, one back in time, without a leap pending and with
one whose instants the first passes. -/
theorem test_hyps_step_applied :
    ∀ st ∈ [(⟨.manual (some 0) 7, 9223372036854775807⟩ : PendingStep), ⟨.acquisition, 0⟩], ∀ leap ∈ [none, some insertion],
      let s := atXt 1000 (full.withSteer { full.steer with pendingSteps := [st] })
      let s := s.withLeap { s.leap with pending := leap }
      s.steer.pendingSteps = st :: [] ∧ s.steer.stampingOpen = false ∧ 0 ≤ st.value ∧ st.value < 9223372036854775808 ∧
        ticksBy s 17179869184 ∧ (leapEntriesAt s.leap st.value).length = (if leap = none ∨ st.value = 0 then 0 else 2) ∧
        (s.port 0).responses.length + 2 < 64 := by
  simp only [ticksBy, pllDrives]; decide +kernel

/-- A timeout reached with and without a set time, an arming passed at XT and one not, and one and two steps of SET_TIMEs pending. -/
theorem test_hyps_acquisition_timeout :
    ∀ set ∈ [true, false], ∀ x ∈ [1800630037000000000, 1800630036999999999],
      ∀ steps ∈ [[(⟨.manual (some 0) 7, 5⟩ : PendingStep)], [⟨.manual (some 0) 7, 5⟩, ⟨.manual (some 0) 8, 5⟩]],
      let s := atXt x (inCycle .armed (.settled .armed) (onPll .acquire))
      let s := s.withSteer { s.steer with
        timeSet := set, acqTimer := some 225000000000, pendingSteps := steps }
      s.steer.state = .acquire ∧ s.steer.stampingOpen = false ∧ s.steer.acqTimer = some 225000000000 ∧
        s.steer.acqTimeout * 250000000 ≤ 225000000000 ∧ s.steer.timeSet = set ∧
        (withdrawnAnswers 0 s.steer.pendingSteps).length = steps.length ∧ (s.port 0).responses.length + steps.length ≤ 64 ∧
        (s.segs.get 12).committed = .settled .armed ∧
        (s.segs.get 12).armed = some closingInstants ∧
        decide (closingInstants.openAt.xt ≤ s.now) = decide (x = 1800630037000000000) := by decide +kernel

/-- SET_TIME of the greatest accepted value, of the first refused one, and with stamping open. -/
theorem test_hyps_set_time :
    (∀ n : BitVec 64, (asking (.setTime n) full).canServe .setTime 0 7 (.setTime n) ∧
      (asking (.setTime n) locked).canServe .setTime 0 7 (.setTime n)) ∧
      (9223372036#64).toNat ≤ 9223372036 ∧ 9223372036 < (9223372037#64).toNat ∧
      (asking (.setTime 5) full).steer.stampingOpen = false ∧ (asking (.setTime 5) locked).steer.stampingOpen = true :=
  ⟨fun n => ⟨(asking_serves _ _ _ (by decide +kernel)).2, (asking_serves _ _ _ (by decide +kernel)).2⟩, by decide +kernel⟩

/-- An acquisition timeout just below and at the running timer, with and without a set time, and an M that changes the flag. -/
theorem test_hyps_steering_items :
    (∀ set ∈ [true, false],
      let s := (onPll .acquire).withSteer { (onPll .acquire).steer with timeSet := set, acqTimer := some 2500000000 }
      s.steer.state = .acquire ∧ s.steer.stampingOpen = false ∧ s.steer.acqTimer = some 2500000000 ∧
        (clampInt 10 3600 (10#64).toInt).toNat * 250000000 ≤ 2500000000 ∧
        2500000000 < (clampInt 10 3600 (11#64).toInt).toNat * 250000000) ∧
      (let s := locked.withSteer { locked.steer with bound := 1001 }
       decide (s.steer.bound ≤ (clampInt 1000 10000000 (1000#64).toInt).toNat) ≠ s.steer.traceable ∧
         decide (s.steer.bound ≤ (clampInt 1000 10000000 (1001#64).toInt).toNat) = s.steer.traceable) := by decide +kernel

/-- A pending insertion at T with its second not begun, one that has begun, 10^9 ns later, and a deletion at T. -/
theorem test_hyps_leap_instants :
    let s := atXt 1798761637000000000 (full.withLeap { full.leap with pending := some insertion })
    s.leap.pending = some insertion ∧ insertion.leap.kind = .insert ∧ insertion.begun = false ∧ insertion.t ≤ s.now ∧
      insertion.t + 1000000000 ≤ (atXt 1798761638000000000 full).now ∧
      (let p : PendingLeap := { insertion with leap := { insertion.leap with kind := .delete }, t := 1798761636000000000 }
       p.leap.kind = .delete ∧ p.t ≤ (atXt 1798761636000000000 full).now) := by decide +kernel

/-- SET_LEAP in a leap second, out of range at the offset of 127, at T and 1 ns before it, in LOCKED and in COLD. -/
theorem test_hyps_set_leap :
    ((atXt 1798761637500000000 (full.withLeap { full.leap with pending := some { insertion with begun := true } })).leapNow =
        .inLeap) ∧
      full.leapNow ≠ .inLeap ∧ ¬ leapInRange { kind := .insert, day := 20818 } 127 ∧
      leapInRange { kind := .insert, day := 20818 } 126 ∧ leapInRange { kind := .delete, day := 20818 } (-127) ∧
      changeInstant { kind := .insert, day := 20818 } 37 = 1798761637000000000 ∧
      changeInstant { kind := .insert, day := 20818 } 37 ≤ (atXt 1798761637000000000 full).now ∧
      (atXt 1798761636999999999 full).now < changeInstant { kind := .insert, day := 20818 } 37 ∧
      locked.steer.state = .locked ∧ full.steer.state ≠ .locked ∧ locked.leapNow ≠ .inLeap ∧ locked.leap.announced = .unknown := by
  decide +kernel

theorem test_hyps_set_leap_served (day : BitVec 32) :
    (asking (.setLeap day .insert) locked).canServe .leap 0 7 (.setLeap day .insert) ∧
      (asking (.setLeap day .delete) full).canServe .leap 0 7 (.setLeap day .delete) ∧
      (asking (.setLeap day .withdraw) full).canServe .leap 0 7 (.setLeap day .withdraw) :=
  ⟨(asking_serves _ _ _ (by decide +kernel)).2, (asking_serves _ _ _ (by decide +kernel)).2,
    (asking_serves _ _ _ (by decide +kernel)).2⟩

/-- A leap pending outside LOCKED, for its withdrawal, and for its replacement by a deletion on another day. -/
theorem test_hyps_withdraw :
    let s := full.withLeap { full.leap with pending := some insertion }
    let l : Leap := { kind := .delete, day := 20819 }
    s.leapNow ≠ .inLeap ∧ s.steer.state ≠ .locked ∧ s.leap.pending = some insertion ∧ insertion.leap ≠ l ∧
      leapInRange l s.leap.offset ∧ s.now < changeInstant l s.leap.offset ∧ (s.port 0).responses.length + 2 < 64 := by
  decide +kernel

/-- LOCKED with a leap stored, left by a mark with no reference selected, by a main loss and by a fall of the lock flag; with no leap
pending and with another. -/
theorem test_hyps_leaving_locked :
    ∀ leap ∈ [none, some insertion],
      let s := atMark (locked.withLeap { locked.leap with store := some { kind := .insert, day := 20819 }, pending := leap })
      s.steer.state = .locked ∧ s.leap.store = some { kind := .insert, day := 20819 } ∧ s.leapNow ≠ .inLeap ∧
        s.xt.markDue = some 100000000000 ∧ s.tick.mainMonitor = .present ∧ s.tick.pllMonitor = .confirmed ∧
        s.tick.mainGap = some 0 ∧ s.tick.returnPhase = .none ∧ s.trail.Ok ∧ s.trail.wIx - s.trail.k < 3800 ∧
        ∀ c ∈ [Instr.secondMark true, .mainAbsent, .pllLockFallen], (run c s).steer.state ≠ .locked := by
  simp only [TrailUnit.Ok]; decide +kernel

/-- LOCKED before and after, with the GOOD second of the reference that stays selected and its message; with no leap pending, and with
one that its announcement, which names none, withdraws. -/
theorem test_hyps_locked_mark :
    ∀ leap ∈ [none, some insertion],
    let s := atMark (good 30 (locked.withLeap { locked.leap with pending := leap }))
    s.xt.markDue = some 100000000000 ∧ s.steer.state = .locked ∧ s.leapNow ≠ .inLeap ∧ s.trail.Ok ∧
      s.trail.wIx - s.trail.k < 3800 ∧
      (run (.secondMark true) s).steer.selection = some .refA ∧
      selectedGood s (run (.secondMark true) s) = some ⟨30, 99000000030, 99000000000⟩ ∧
      (s.refs.get .refA).lastMessage = some { message with used := true } := by
  simp only [TrailUnit.Ok]; decide +kernel

/-- A written offset equal to the held one, one that a pending insertion admits and one that it does not, with T 1 ns ahead of XT and
brought to XT. -/
theorem test_hyps_utc_offset :
    let s := full.withLeap { full.leap with offset := 37, pending := some insertion }
    s.leapNow ≠ .inLeap ∧ s.leap.pending = some insertion ∧ insertion.leap.kind = .insert ∧
      clampInt (-128) 127 (126#64).toInt + 1 ≤ 127 ∧ ¬ clampInt (-128) 127 (127#64).toInt + 1 ≤ 127 ∧
      clampInt (-128) 127 (126#64).toInt ≠ s.leap.offset ∧
      (atXt 1798761635999999999 s).now < insertion.t + (clampInt (-128) 127 (36#64).toInt - s.leap.offset) * 1000000000 ∧
      insertion.t + (clampInt (-128) 127 (36#64).toInt - s.leap.offset) * 1000000000 ≤ (atXt 1798761636000000000 s).now ∧
      clampInt (-128) 127 (37#64).toInt = s.leap.offset ∧ (s.port 0).responses.length + 3 < 64 := by decide +kernel

/-- STAMP for segment 63 and 64, with stamping open and closed. -/
theorem test_hyps_stamp :
    (∀ seg, (asking (.stamp seg) full).canServe .stamp 0 7 (.stamp seg) ∧
      (asking (.stamp seg) locked).canServe .stamp 0 7 (.stamp seg)) ∧ (63#8).toNat ≤ 63 ∧ 63 < (64#8).toNat ∧
      full.steer.stampingOpen = false ∧ locked.steer.stampingOpen = true :=
  ⟨fun _ => ⟨(asking_serves _ _ _ (by decide +kernel)).2, (asking_serves _ _ _ (by decide +kernel)).2⟩, by decide +kernel⟩

/-- No segment takes an instant where every segment is IDLE. -/
theorem no_instant_due {s : State} (h : ∀ i : SegId, (s.segs.get i).committed = .settled .idle) : ¬ someInstantDue s := by
  rintro ⟨i, -, h'⟩
  rcases h' with ⟨h' | h', -⟩ | ⟨h', -⟩ | ⟨h', -⟩ | ⟨h', -⟩ <;> rw [h i] at h' <;> cases h'

/-- The only STAMP is its port's, and no edge waits. -/
theorem stamp_turn {s : State} {p : Port} (h : noSegmentTurn s) (hl : ∀ l : Line, (s.capture.get l).fifo = [])
    (hp : ((s.port p).service, (s.port p).up, (s.port p).responses, (s.port p).justFreed) = (.stamping 7 none, true, [], false))
    (hq : ∀ q : Port, q ≠ p → (s.port q).up = false) : stampTurn s p := by
  simp only [Prod.mk.injEq] at hp
  have only (q : Port) (hr : stampReady s q) : q = p := by
    by_cases e : q = p
    · exact e
    · have := hq q e; rw [hr.2.1] at this; cases this
  have ready : stampReady s p := ⟨⟨_, _, hp.1⟩, hp.2.1, by rw [hp.2.2.1]; decide, hp.2.2.2⟩
  refine ⟨h, fun l hl' => hl'.1 (hl l), ready, fun hh q hq' hr => ?_, fun q _ hr => ?_⟩
  · rw [only q hr, hh] at hq'; cases hq'
  · rw [only q hr]

/-- A STAMP of a FULL port, and one of a NORMAL port that no HIGH one precedes, each the first of its class. -/
theorem test_hyps_stamp_grant :
    ∀ role ∈ [Role.full, .gateway], stampTurn (stampWaits 0 (locked.withPort 0 { locked.port 0 with role := role })) 0 := by
  intro role h
  simp only [List.mem_cons, List.not_mem_nil, or_false] at h
  rcases h with rfl | rfl <;>
    exact stamp_turn ⟨by decide +kernel, by decide +kernel, by decide +kernel, no_instant_due (by decide +kernel)⟩
      (by decide +kernel) (by decide +kernel) (by decide +kernel)

theorem test_hyps_capture_grant :
    let s := capturing fun c => { c with fifo := [⟨.rising, 5⟩] }
    captureTurn s 3 ∧ (s.capture.get 3).fifo = ⟨.rising, 5⟩ :: [] := by
  refine ⟨⟨⟨by decide +kernel, by decide +kernel, by decide +kernel, no_instant_due (by decide +kernel)⟩, ?_, ?_⟩,
    by decide +kernel⟩ <;> (simp only [captureReady]; decide +kernel)

/-- An edge not selected, one kept in the last place and one that finds no place. -/
theorem test_hyps_capture_edge :
    (full.capture.get 3).edgeSel = .off ∧
      (∀ n ∈ [3, 4],
        let s := capturing fun c => { c with fifo := List.replicate n ⟨.rising, 5⟩ }
        (s.capture.get 3).edgeSel = .both ∧ s.steer.stampingOpen = true ∧ (s.port (s.capture.get 3).port).up = true ∧
          decide ((s.capture.get 3).fifo.length < 4) = decide (n = 3)) := by decide +kernel

/-- CAPTURE_SET at the ends of its fields' ranges, by a port with the remap right, by the line's own port, and by another. -/
theorem test_hyps_capture_set :
    (∀ line edge port : Byte, (asking (.captureSet line edge port) full).headIs 0 7 (.captureSet line edge port) = true) ∧
      (7#8).toNat ≤ 7 ∧ 7 < (8#8).toNat ∧ (255#8).toNat = 255 ∧ 3 < (4#8).toNat ∧ (4#8).toNat ≠ 255 ∧
      (full.port 0).role.has .remap = true ∧ (State.reset.port 0).role.has .remap = false ∧
      (State.reset.port 0).role.has .ownCaptures = true ∧ (State.reset.capture.get 0).port = 0 ∧
      (State.reset.capture.get 1).port ≠ 0 :=
  ⟨fun _ _ _ => (asking_serves .remap _ _ (by decide +kernel)).1, by decide +kernel⟩

/-- A line that ends a pulse at XT, and one that takes a level at XT. -/
theorem test_hyps_output_instants :
    let s := lineTwo (fun o => { o with pulseEnd := some 100000000000, armed := some ⟨true, 100000000000⟩ }) locked
    (s.outputs.get 2).pulseEnd = some 100000000000 ∧ (s.outputs.get 2).armed = some ⟨true, 100000000000⟩ ∧
      (100000000000 : Int) ≤ s.now := by decide +kernel

/-- OUTPUT_SET of every mode on line 7, on line 8, and with a level of 1 and of 2. -/
theorem test_hyps_output_set (m : OutputMode) :
    (∀ f : OutputFields, (asking (.outputSet m f) locked).canServe .schedule 0 7 (.outputSet m f)) ∧
      (∀ f : OutputFields, Instr.asked (.outputSetOff 0 7 f) = some (0, 7, .outputSet .off f) ∧
        Instr.asked (.outputSetSecondPulse 0 7 f) = some (0, 7, .outputSet .secondPulse f) ∧
        Instr.asked (.outputSetCloseFollow 0 7 f) = some (0, 7, .outputSet .closeFollow f) ∧
        Instr.asked (.outputSetAtInstant 0 7 f) = some (0, 7, .outputSet .atInstant f)) ∧
      ((7 : Line).val = (7#8).toNat) ∧ 7 < (8#8).toNat ∧ (1#8).toNat ≤ 1 ∧ 1 < (2#8).toNat ∧
      ((lineTwo (fun o => { o with mode := .secondPulse }) locked).outputs.get 2).mode = .secondPulse ∧
      (locked.outputs.get 2).mode ≠ .secondPulse :=
  ⟨fun _ => (asking_serves _ _ _ (by decide +kernel)).2, fun _ => ⟨rfl, rfl, rfl, rfl⟩, by decide +kernel⟩

/-- Each instant reached exactly. -/
theorem test_hyps_due_instants :
    (∀ x ∈ [((.settled .armed : Committed), (1800630037000000000 : Nat)), (.settled .opened, 1800633337000000000),
        (.settled .call, 1800633637000000000)],
      let s := atXt x.2 (inCycle .armed x.1 locked)
      s.steer.stampingOpen = true ∧ s.commits = [] ∧ (s.segs.get 12).armed = some closingInstants ∧
        (s.segs.get 12).committed = x.1 ∧ s.now = x.2) ∧
      closingInstants.openAt.xt = 1800630037000000000 ∧ closingInstants.callAt.xt = 1800633337000000000 ∧
      closingInstants.closeAt.xt = 1800633637000000000 ∧
      (let s := seg12 (fun g => { g with drawn := some ⟨100000000000, 1, 2⟩ }) (inCycle .random (.settled .random) locked)
       (s.segs.get 12).drawn = some ⟨100000000000, 1, 2⟩ ∧ (s.segs.get 12).committed = .settled .random ∧
         (100000000000 : Int) ≤ s.now) := by decide +kernel

theorem test_hyps_no_request_waits : noRequestWaits (waiting .opening (some .opened) locked) 12 := by
  refine ⟨by decide +kernel, ?_⟩
  intro e he _
  simp [waiting] at he
  exact .inl (by rw [he])

/-- EXTEND, RELEASE and HALT of segment 63 and of 64, on each committed state, with extensions left and spent, and with 63 and 64
events on the commit list. -/
theorem test_hyps_cycle_requests :
    (∀ seg : Byte, Instr.asked (.extend 0 7 seg) = some (0, 7, .extend seg) ∧
        Instr.asked (.release 0 7 seg) = some (0, 7, .release seg) ∧ Instr.asked (.halt 0 7 seg) = some (0, 7, .halt seg) ∧
        (asking (.extend seg) locked).canServe .schedule 0 7 (.extend seg) ∧
        (asking (.release seg) locked).canServe .schedule 0 7 (.release seg) ∧
        (asking (.halt seg) locked).canServe .schedule 0 7 (.halt seg)) ∧
      (63 : SegId).val = (63#8).toNat ∧ 63 < (64#8).toNat ∧
      (∀ c ∈ [(.settled .idle : Committed), .settled .armed, .settled .opened, .settled .call, .settled .random, .ending,
          .settled .suspended, .settled .closed], ((inCycle .opened c locked).segs.get 12).committed = c) ∧
      (let s := (inCycle .call (.settled .call) locked).withProfiles (locked.profiles.set 2 ⟨0, 60, 1⟩)
       ¬ (s.profiles.get (s.segs.get 12).profile).maxExt ≤ (s.segs.get 12).extensions ∧
         (locked.profiles.get (s.segs.get 12).profile).maxExt ≤ (s.segs.get 12).extensions) ∧
      64 ≤ (locked.withCommits (List.replicate 64 ⟨12, .call, some .call⟩)).commits.length ∧
      ¬ 64 ≤ (locked.withCommits (List.replicate 63 ⟨12, .call, some .call⟩)).commits.length :=
  ⟨fun _ => ⟨rfl, rfl, rfl, (asking_serves _ _ _ (by decide +kernel)).2, (asking_serves _ _ _ (by decide +kernel)).2,
    (asking_serves _ _ _ (by decide +kernel)).2⟩, by decide +kernel⟩

theorem test_hyps_segment_write_served (seg profile : Byte) (d : Definition) :
    (asking (.segmentWrite seg profile d) locked).canServe .schedule 0 7 (.segmentWrite seg profile d) ∧
      (asking (.segmentSwap seg profile d) locked).canServe .schedule 0 7 (.segmentSwap seg profile d) ∧
      (asking (.segmentRead seg) locked).canServe .schedule 0 7 (.segmentRead seg) :=
  ⟨(asking_serves _ _ _ (by decide +kernel)).2, (asking_serves _ _ _ (by decide +kernel)).2,
    (asking_serves _ _ _ (by decide +kernel)).2⟩

/-- A definition in range, an empty one, one with repeat 127 and 128, and one whose day is out of range; its open instant 1 ns ahead
and reached; the committed states that refuse a write; and a waiting RELEASE. -/
theorem test_hyps_segment_write :
    (closing.openTime.toNat < closing.callTime.toNat ∧ closing.callTime.toNat < closing.closeTime.toNat ∧
        closing.closeTime.toNat < 86400000000000 ∧ closing.repeats.toNat ≤ 127) ∧
      (127#8).toNat ≤ 127 ∧ ¬ (128#8).toNat ≤ 127 ∧ (3 : ProfileId).val = (3#8).toNat ∧ 3 < (4#8).toNat ∧
      (let u : LeapUnit := { full.leap with offset := 37 }
       u.arm 20840 closing = some closingInstants ∧ u.arm 4294967295 closing = none) ∧
      (atXt 1800630036999999999 locked).now < closingInstants.openAt.xt ∧
      closingInstants.openAt.xt ≤ (atXt 1800630037000000000 locked).now ∧
      (∃ e ∈ (waiting (.release 0) none locked).commits, e.seg = 12 ∧ ∃ q, e.kind = .release q) ∧
      (let d : Definition := { closing with openTime := 0, callTime := 0, closeTime := 0 }
       d.openTime = 0 ∧ d.callTime = 0 ∧ d.closeTime = 0) ∧
      (let s := (inCycle .opened (.settled .opened) locked).withLeap { full.leap with offset := 37 }
       (s.segs.get 12).committed = .settled .opened ∧ (s.segs.get 12).defn = some closing ∧
         (s.segs.get 12).armedDay = some 20840 ∧ s.leap.convert 20840 closing.callTime.toNat = some 1800633337000000000 ∧
         1800633337000000000 ≤ (atXt 1800633337000000000 s).now ∧ (atXt 1800633336999999999 s).now < 1800633337000000000 ∧
         64 ≤ (s.withCommits (List.replicate 64 ⟨12, .call, some .call⟩)).commits.length ∧
         ({ full.leap with offset := -127 } : LeapUnit).convert 0 1 = none) :=
  ⟨by decide +kernel, by decide +kernel, by decide +kernel, by decide +kernel, by decide +kernel, by decide +kernel,
    by decide +kernel, by decide +kernel, ⟨_, List.mem_singleton_self _, rfl, 0, rfl⟩, by decide +kernel, by decide +kernel⟩

/-- The four accepted writes: an ARM of an IDLE segment, a REVISE of an OPEN one with a later call, a DISARM and a removal. -/
theorem test_hyps_segment_write_accepted :
    let s := (inCycle .opened (.settled .opened) locked).withLeap { full.leap with offset := 37 }
    let d : Definition := { closing with callTime := 57300000000001 }
    (locked.segs.get 12).committed = .settled .idle ∧ locked.commits.length < 64 ∧
      (s.segs.get 12).committed = .settled .opened ∧ (s.segs.get 12).defn = some closing ∧ (s.segs.get 12).armedDay = some 20840 ∧
      (s.segs.get 12).armed = some closingInstants ∧ (s.segs.get 12).profile = 2 ∧
      d = { closing with callTime := d.callTime, closeTime := d.closeTime } ∧
      s.leap.convert 20840 d.callTime.toNat = some 1800633337000000001 ∧
      s.leap.convert 20840 d.closeTime.toNat = some 1800633637000000000 ∧ s.now < 1800633337000000001 ∧
      ((inCycle .armed (.settled .armed) locked).segs.get 12).committed = .settled .armed := by decide +kernel

/-- Times of day before XT 0, in range, after a pending leap, and at 2^63 ns. -/
theorem test_hyps_times_of_day :
    ({ full.leap with offset := -1 } : LeapUnit).convert 0 0 = none ∧
      ({ full.leap with offset := 37, pending := some insertion } : LeapUnit).convert 20819 0 = some 1798761638000000000 ∧
      ({ full.leap with offset := 37, pending := some insertion } : LeapUnit).convert 20818 0 = some 1798675237000000000 ∧
      full.leap.convert 106751 85636854775807 = some 9223372036854775807 ∧ full.leap.convert 106751 85636854775808 = none := by
  decide +kernel

/-- Two states that differ in a draw alone. -/
theorem test_hyps_draws_differ (i : SegId) :
    ∃ d : Option Draw, (locked.segs.set 12 { locked.segs.get 12 with drawn := some ⟨5, 1, 2⟩ }).get i =
      { locked.segs.get i with drawn := d } := by
  by_cases h : i = 12
  · subst h; exact ⟨some ⟨5, 1, 2⟩, by decide +kernel⟩
  · exact ⟨(locked.segs.get i).drawn, by rw [Bank.get_set_ne _ _ h]⟩

/-- PROFILE_WRITE of profile 3 and of 4, with a segment that uses the profile in its call and without. -/
theorem test_hyps_profile_write :
    (∀ (profile maxExt : Byte) (ext : BitVec 16) (window : BitVec 32),
      (asking (.profileWrite profile maxExt ext window) locked).canServe .schedule 0 7
        (.profileWrite profile maxExt ext window)) ∧
      (3 : ProfileId).val = (3#8).toNat ∧ 3 < (4#8).toNat ∧ ((inCycle .call (.settled .call) locked).segs.get 12).profile = 2 ∧
      ((inCycle .call (.settled .call) locked).segs.get 12).state = .call ∧
      ∀ i : SegId, (locked.segs.get i).state = .idle ∧ (locked.segs.get i).committed = .settled .idle :=
  ⟨fun _ _ _ _ => (asking_serves _ _ _ (by decide +kernel)).2, by decide +kernel⟩

/-- The arbiter's turn on a waiting event, of any kind. -/
theorem test_hyps_segment_turn (k : SegEventKind) (after : Option SegState) (st : SegState) (c : Committed) :
    segmentTurn (waiting k after (inCycle st c locked)) { seg := 12, kind := k, after := after } :=
  ⟨rfl, rfl, rfl⟩

/-- A segment in its cycle, with its definition, its day, its instants and a draw, traceable and not. -/
theorem test_hyps_cycle_grants :
    let s := seg12 (fun g => { g with drawn := some ⟨1800633701999999008, 1999999, 858993459⟩ })
      (inCycle .random .ending locked)
    (s.segs.get 12).defn = some closing ∧ (s.segs.get 12).armedDay = some 20840 ∧
      (s.segs.get 12).armed = some closingInstants ∧
      (s.segs.get 12).drawn = some ⟨1800633701999999008, 1999999, 858993459⟩ ∧ closing.hold = true ∧
      s.steer.traceable = true ∧ (s.withSteer { s.steer with traceable := false }).steer.traceable = false := by decide +kernel

/-- TRAIL_READ and TRAIL_ACK at the ends of their ranges over a trail in order. -/
theorem test_hyps_trail_requests :
    (∀ start count, (asking (.trailRead start count) threeEntries).canServe .trail 0 7 (.trailRead start count)) ∧
      (∀ index, (asking (.trailAck index) threeEntries).headIs 0 7 (.trailAck index) = true ∧
        ((asking (.trailAck index) State.reset).headIs 0 7 (.trailAck index) = true)) ∧
      threeEntries.trail.k = 5 ∧ threeEntries.trail.wIx = 8 ∧ (0#8).toNat = 0 ∧ 1 ≤ (1#8).toNat ∧ (8#8).toNat ≤ 8 ∧
      8 < (9#8).toNat ∧ (4#64).toNat < 5 ∧ 5 ≤ (5#64).toNat ∧ (8#64).toNat ≤ 8 ∧ 8 < (9#64).toNat ∧
      (State.reset.port 0).role.has .trail = false :=
  ⟨fun _ _ => (asking_serves _ _ _ (by decide +kernel)).2,
    fun _ => ⟨(asking_serves .trail _ _ (by decide +kernel)).1, by
      have h : (State.reset.port 0).service = .untaken := by decide +kernel
      simp [State.headIs, asking, h]⟩, by decide +kernel⟩

theorem test_hyps_trail_in_order : threeEntries.trail.Ok ∧ State.reset.trail.Ok := by
  constructor <;> (simp only [TrailUnit.Ok]; decide +kernel)

/-- A settle in progress whose new deadline is 1 ns ahead of XT, and one whose new deadline is reached. -/
theorem test_hyps_settle_period :
    (∀ x ∈ [6999999999, 7000000000],
      let s := atXt x (full.withTick { full.tick with returnPhase := .settle, settleDeadline := some 12000000000 })
      s.tick.returnPhase = .settle ∧
        s.tick.settleDeadline = some (2000000000 + ((s.tick.settlePeriod * 1000000000 : Nat) : Int)) ∧
        decide (s.now < 2000000000 + (((clampInt 1 600 (5#64).toInt).toNat * 1000000000 : Nat) : Int)) =
          decide (x = 6999999999)) ∧ full.tick.returnPhase ≠ .settle := by decide +kernel

/-- A request that takes the last place and one that finds none, with a PORT notice entering at once and recorded; an UP and a DOWN
port; and a reset frame on a DOWN port. -/
theorem test_hyps_client_frames :
    ((full.withPort 0 { full.port 0 with requests := List.replicate 31 ⟨7, .drain⟩ }).port 0).requests.length < 32 ∧
      ((full.withPort 0 { full.port 0 with requests := List.replicate 27 ⟨7, .drain⟩ }).port 0).requests.length = 27 ∧
      (let pc := (full.withPort 0 { full.port 0 with up := true, requests := List.replicate 32 ⟨7, .drain⟩ }).port 0
       32 ≤ pc.requests.length ∧ pc.pendStatus = none ∧ pc.pendSegs = [] ∧ pc.pendPort = false ∧ pc.responses.length < 64 ∧
         pc.up = true ∧ pc.overrun = 0 ∧ pc.service = .untaken) ∧
      (0x11#8).toNat ≠ 1 ∧ (0#8).toNat = 0 ∧ (1#8).toNat = 1 ∧ (full.port 0).up = false := by decide +kernel

/-- Six bytes, and a CRC that is not the one of the bytes before it. -/
theorem test_hyps_damaged_frames :
    [1#8, 2#8, 3#8, 4#8, 5#8, 6#8].length < 7 ∧ (0#16 : BitVec 16) ≠ crc16 [0x31#8] := by decide +kernel

/-- An UP port at the expiry of its silence timer. -/
theorem test_hyps_port_reset :
    let s := full.withPort 3 { full.port 3 with up := true, silence := some 0 }
    (s.port 3).up = true ∧ (s.port 3).silence = some 0 := by decide +kernel

/-- No batch due with the idle timer run out, and with it running and the hold indication changed and changed back; a batch due; a
batch being sent. -/
theorem test_hyps_transmitter :
    ¬ batchIsDue (full.port 0) ∧ (full.port 0).sending = false ∧ (full.port 0).idleTimer = 0 ∧
      (let s := quiet (full.withPort 0 { full.port 0 with up := true, requests := List.replicate 27 ⟨7, .drain⟩ })
       let t := run (.drain 0 7) (run (.clientFrame 0 [0x11#8, 0#8, 0#8, 0#8, 7#8, 0xCF#8, 0xE0#8]) s)
       (t.port 0).requests.length = 27 ∧ (t.port 0).idleTimer = 5 ∧ (t.port 0).holdChanged = true ∧
         (t.port 0).sending = false) ∧
      batchIsDue { full.port 0 with up := true, responses := [.done 7 .ok false] } ∧
      ({ full.port 0 with sending := true, drainDone := some 1, inFlight := 1 } : PortCtl).sending = true := by
  refine ⟨fun h => absurd h.1 (by decide +kernel), by decide +kernel, by decide +kernel, by decide +kernel, ?_, rfl⟩
  exact ⟨rfl, by decide +kernel, by decide +kernel, .inl (by decide +kernel)⟩

/-- A port with a free place for a notice; ones with none left, with an answer that waits for the last place and for the last but one,
and with a slot taken; and the slots of two segments in order. -/
theorem test_hyps_notices :
    let pc := { full.port 0 with up := true, statusSub := true, responses := List.replicate 63 (.port 5) }
    (pc.pendStatus = none ∧ pc.pendSegs = [] ∧ pc.pendPort = false ∧ pc.responses.length < 64 ∧ pc.service = .untaken) ∧
      64 ≤ (List.replicate 64 (Record.port 5)).length ∧
      ({ pc with pendStatus := some 65535 } : PortCtl).pendStatus ≠ none ∧ (full.port 0).up = false ∧
      (pc.notifyStatus (full.statusBody 1)).responses.length = 64 ∧
      (({ pc with service := .waiting (.port 4) false } : PortCtl).notifyStatus (full.statusBody 1)).pendStatus = some 1 ∧
      (({ pc with service := .waiting (.port 4) false, responses := List.replicate 62 (.port 5) } : PortCtl).notifyStatus
        (full.statusBody 1)).responses.length = 63 ∧
      (({ pc with pendStatus := some 65535 } : PortCtl).notifyStatus (full.statusBody 1)).pendStatus = some 65535 ∧
      ({ pc with pendSegs := [⟨3, 1, .opened, 5⟩, ⟨63, 65535, .call, 6⟩] } : PortCtl).SlotsInOrder := by
  simp only [PortCtl.SlotsInOrder]; decide +kernel

/-- An answer that waits with one entry free, and a recorded notice. -/
theorem test_hyps_waiting_answer :
    let pc := { full.port 0 with
      up := true, requests := [⟨7, .drain⟩], service := .waiting (.port 4) true, responses := List.replicate 63 (.port 5) }
    pc.service = .waiting (.port 4) true ∧ pc.responses.length < 64 ∧
      ({ full.port 0 with up := true, pendStatus := some 2 } : PortCtl).pendStatus ≠ none ∧ (full.port 0).service = .untaken := by
  decide +kernel

/-- SUBSCRIBE with known and unknown codes, a threshold to keep, and ones at the ends of the range. -/
theorem test_hyps_subscribe :
    (∀ status threshold, (asking (.subscribe status threshold) full).canServe .subscribe 0 7 (.subscribe status threshold)) ∧
      (1#8).toNat = 1 ∧ (255#8).toNat = 255 ∧ ¬ ((2#8).toNat = 0 ∨ (2#8).toNat = 1 ∨ (2#8).toNat = 255) ∧
      (65535#16).toNat = 65535 ∧ clampNat 1 64 (64#16).toNat = (64#16).toNat ∧ clampNat 1 64 (65#16).toNat ≠ (65#16).toNat :=
  ⟨fun _ _ => (asking_serves _ _ _ (by decide +kernel)).2, by decide +kernel⟩

/-- DRAIN on an empty queue and on one record, and its completion with an entry free and with none. -/
theorem test_hyps_drain :
    (asking .drain full).headIs 0 7 .drain = true ∧ ((asking .drain full).port 0).responses = [] ∧
      (∀ n ∈ [63, 64],
        let pc := { full.port 0 with service := .draining 7 0, responses := List.replicate n (.port 1) }
        pc.service = .draining 7 0 ∧ decide (pc.responses.length < 64) = decide (n = 63)) := by decide +kernel

/-- A request of an unknown kind, an unknown action and an unknown mode on line 7 and on line 8; and a number that names no item. -/
theorem test_hyps_requests_that_name_nothing :
    isMalformed 17 [1] = true ∧ isMalformed 21 [0, 0, 0, 0, 3] = true ∧
      isMalformed 49 [7, 4, 0, 0, 0, 0, 0, 0, 0, 0, 0, 0, 0, 0, 0] = true ∧
      isMalformed 49 [8, 4, 0, 0, 0, 0, 0, 0, 0, 0, 0, 0, 0, 0, 0] = true ∧
      (∀ kind body, (asking (.malformed kind body) full).headIs 0 7 (.malformed kind body) = true) ∧
      timingItem (2#16).toNat = none ∧ timingItem (66#16).toNat = none ∧ (State.reset.port 0).role.has .leap = false ∧
      (State.reset.port 0).role.has .schedule = false :=
  ⟨by decide +kernel, by decide +kernel, by decide +kernel, by decide +kernel,
    fun _ _ => (asking_serves .trail _ _ (by decide +kernel)).1, by decide +kernel⟩

/-- A state that meets every invariant, from which a step runs. -/
theorem test_hyps_invariants :
    ∃ t : State, step (full.withPending [.frameAbandoned 5]) = .next t ∧ ¬ resetsNext (full.withPending [.frameAbandoned 5]) ∧
      full.trail.Ok ∧ full.QueuesOk ∧ full.steer.StampingOk ∧ full.steer.BoundOk ∧ full.steer.SlewOk ∧ full.tick.RingOk ∧
      full.SourceOk := by
  refine ⟨_, rfl, ?_, ?_⟩
  · rintro ⟨straps, a, b, rest, h⟩
    cases h
  · simp only [TrailUnit.Ok, State.QueuesOk, SteeringUnit.StampingOk, SteeringUnit.BoundOk, SteeringUnit.SlewOk, TickUnit.RingOk,
      State.SourceOk, PortCtl.InBounds, PortCtl.SlotsInOrder]
    decide +kernel

/-- Stamping open, XT far from its end. -/
theorem test_hyps_stamping_stays_open :
    locked.steer.stampingOpen = true ∧ locked.xt.ns + (locked.xt.frac + locked.increment) / 4294967296 < 18446744073709551616 ∧
      ∃ t : State, step (locked.withPending [.frameAbandoned 5]) = .next t := ⟨by decide +kernel, by decide +kernel, _, rfl⟩

/-- A request of a known kind. -/
theorem test_hyps_known_request : ∀ kind bytes, (ReqBody.readTime : ReqBody) ≠ .malformed kind bytes := by
  intro _ _ h; cases h

end Sys2Proof.Tests
end

section
/-! PROOFS. Reference records under their replacement and under a change of state (R28), and the first pulse of an ABSENT
reference (R20). -/

namespace Sys2Proof.Machine

namespace State

variable {s t u : State} {r : RefId}

/-- The other references stay as they are through two operations in turn. -/
theorem otherRefs.trans (h1 : State.otherRefs r s t) (h2 : State.otherRefs r t u) : State.otherRefs r s u :=
  fun q hq => (h2 q hq).trans (h1 q hq)

variable (s r)

/-! ## One record replaced -/

@[simp] theorem withRef_get_same (x : RefRecord) : (s.withRef r x).refs.get r = x := by simp [withRef]

theorem withRef_otherRefs (x : RefRecord) : State.otherRefs r s (s.withRef r x) :=
  fun _ hq => PerRef.get_set_ne s.refs x hq

/-- What an entry says and where it goes does not depend on the reference records. -/
theorem wrote_withRef (x : RefRecord) (b : TrailBody) : State.wrote b (s.withRef r x) t ↔ State.wrote b s t := Iff.rfl

/-- A notice is raised on the ports, which hold nothing of the reference records. -/
theorem toldStatus_withRef (x : RefRecord) (c : StatusCause) : State.toldStatus c (s.withRef r x) t ↔ State.toldStatus c s t :=
  Iff.rfl

/-! ## A change of a reference's state, and its report (R28) -/

@[simp] theorem changeRef_get_same (st : RefState) :
    (s.changeRef r st).refs.get r = { s.refs.get r with state := st } := by
  simp [changeRef]

theorem changeRef_otherRefs (st : RefState) : State.otherRefs r s (s.changeRef r st) :=
  s.withRef_otherRefs r { s.refs.get r with state := st }

/-- The change is in the trail: a SOURCE entry is of class A, which the trail always writes (R134). -/
theorem changeRef_wrote (st : RefState) :
    State.wrote (.source (.refState r (s.refs.get r).state st)) s (s.changeRef r st) :=
  s.trail.request_wrote _ s.writing rfl

/-- The change is told to the ports subscribed to STATUS. -/
theorem changeRef_toldStatus (st : RefState) : State.toldStatus (.reference r st) s (s.changeRef r st) :=
  ((s.withRef r { s.refs.get r with state := st }).ask
    (.source (.refState r (s.refs.get r).state st))).raiseStatus_toldStatus (.reference r st)

end State

/-! ## The first pulse (R20) -/

/-- The state that a pulse leaves when reference `r` is ABSENT: the pulse times set, no GOOD label, and the change to QUALIFYING
made and reported. -/
def State.firstPulse (s : State) (r : RefId) : State :=
  (s.withRef r { (s.refs.get r).pulseAt s.refCfg.pWin s.now with goodLabel := none }).changeRef r .qualifying

/-- A pulse of an ABSENT reference is not judged. -/
theorem exec_referencePulse_of_absent {s : State} {r : RefId} (h : (s.refs.get r).state = .absent) :
    exec (.referencePulse r) s = .next (s.firstPulse r) := by
  change execReferencePulse r s = _
  simp [execReferencePulse, State.firstPulse, h]

namespace State

variable (s : State) (r : RefId)

theorem firstPulse_get_same :
    (s.firstPulse r).refs.get r = { s.refs.get r with
      state := .qualifying
      lastPulse := some s.now
      expected := some (s.now + 1000000000 + s.refCfg.pWin)
      absence := some (s.now + 10000000000)
      goodLabel := none } := by
  rw [firstPulse, changeRef_get_same, withRef_get_same]
  rfl

theorem firstPulse_otherRefs : State.otherRefs r s (s.firstPulse r) :=
  (s.withRef_otherRefs r _).trans (changeRef_otherRefs _ r .qualifying)

variable {s r}

theorem firstPulse_wrote (h : (s.refs.get r).state = .absent) :
    State.wrote (.source (.refState r .absent .qualifying)) s (s.firstPulse r) := by
  have hw := changeRef_wrote (s.withRef r { (s.refs.get r).pulseAt s.refCfg.pWin s.now with goodLabel := none }) r .qualifying
  have hold : ((s.refs.get r).pulseAt s.refCfg.pWin s.now).state = .absent := h
  rw [withRef_get_same, hold, wrote_withRef] at hw
  exact hw

variable (s r)

theorem firstPulse_toldStatus : State.toldStatus (.reference r .qualifying) s (s.firstPulse r) :=
  (toldStatus_withRef s r _ _).mp (changeRef_toldStatus _ r .qualifying)

theorem firstPulse_frame : State.differsIn [.refs, .trail, .ports, .lastCause] s (s.firstPulse r) :=
  .next (s.withRef_frame r _) (changeRef_frame _ r .qualifying) (by decide) (by decide)

end State

end Sys2Proof.Machine

namespace Sys2Proof

open Machine

/-- Settles O12: the pulse leaves `State.firstPulse`, whose record, report and frame are the lemmas above. -/
theorem firstPulseMakesQualifying : Obligations.FirstPulseMakesQualifying := by
  intro r s habsent
  exact ⟨s.firstPulse r, exec_referencePulse_of_absent habsent, s.firstPulse_get_same r, s.firstPulse_otherRefs r,
    State.firstPulse_wrote habsent, s.firstPulse_toldStatus r, s.firstPulse_frame r⟩

end Sys2Proof
end

section
/-! PROOFS. A request answered DONE after changes that leave the ports alone (R154), the entries that a release leaves (R144), and
TRAIL_ACK (R144). -/

namespace Sys2Proof.Machine

/-- A command that makes its changes within `cs`, away from the ports, and then answers DONE (R154). -/
theorem Replies.of_done {c : Instr} {s u : State} {p : Port} {tag : Tag} {code : ResultCode} {clamped : Bool} {cs : List Block}
    {effect : State → Prop} (hexec : exec c s = .next (u.done p tag code clamped)) (hports : u.ports = s.ports)
    (hframe : State.differsIn cs s u) (heffect : effect (u.done p tag code clamped)) :
    Replies c s p (.done tag code clamped) cs effect :=
  ⟨_, hexec, s.answeredBy_of_ports hports (u.done_answeredBy p tag code clamped),
    .next hframe (u.done_frame p tag code clamped) (fun _ => List.mem_cons_of_mem _) (by simp), heffect⟩

@[simp] theorem State.done_trail (s : State) (p : Port) (tag : Tag) (code : ResultCode) (clamped : Bool) :
    (s.done p tag code clamped).trail = s.trail := rfl

/-! ## The entries that a release leaves (R144) -/

/-- In a list of entries numbered without a gap from `k`, those of number `n` and above are those after the first `n - k`. -/
theorem filter_le_seq_eq_drop (n : Nat) :
    ∀ (es : List TrailEntry) (k : Nat), es.map TrailEntry.seq = List.range' k es.length →
      (es.filter fun e => decide (n ≤ e.seq)) = es.drop (n - k)
  | [], _, _ => by simp
  | e :: es, k, h => by
    rw [List.map_cons, List.length_cons, List.range'_succ, List.cons.injEq] at h
    obtain ⟨hseq, hrest⟩ := h
    have ih := filter_le_seq_eq_drop n es (k + 1) hrest
    by_cases hk : n ≤ k
    · have h0 : n - k = 0 := by omega
      have h1 : n - (k + 1) = 0 := by omega
      simp [hseq, hk, ih, h0, h1]
    · have h1 : n - k = n - (k + 1) + 1 := by omega
      simp [hseq, hk, ih, h1]

/-- A release keeps the entries from its index up. -/
theorem TrailUnit.release_eq_filter {t : TrailUnit} (h : t.Ok) (n : Nat) :
    t.release n = { t with k := n, entries := t.entries.filter fun e => decide (n ≤ e.seq) } := by
  obtain ⟨hseqs, -⟩ := h
  have hlen : t.entries.length = t.wIx - t.k := by simpa using congrArg List.length hseqs
  rw [filter_le_seq_eq_drop n t.entries t.k (hlen ▸ hseqs)]
  rfl

/-! ## TRAIL_ACK, case by case (R144, R148) -/

section

variable {p : Port} {tag : Tag} {index : BitVec 64} {s : State}

theorem exec_trailAck : exec (.trailAck p tag index) s = execTrailAck p tag index s := rfl

theorem exec_trailAck_noRight (h : s.headIs p tag (.trailAck index) = true) (hr : (s.port p).role.has .trail = false) :
    exec (.trailAck p tag index) s = .next (s.done p tag .noRight false) := by
  rw [exec_trailAck, execTrailAck, s.takeWith_noRight p h hr]

/-- An index below K leaves the trail as it is. -/
theorem exec_trailAck_below (h : s.canServe .trail p tag (.trailAck index)) (hlt : index.toNat < s.trail.k) :
    exec (.trailAck p tag index) s = .next (s.done p tag .ok true) := by
  rw [exec_trailAck, execTrailAck, s.takeWith_of_canServe p h, if_pos hlt]

/-- An index above W_ix releases every entry. -/
theorem exec_trailAck_above (h : s.canServe .trail p tag (.trailAck index)) (hk : s.trail.k ≤ s.trail.wIx)
    (hgt : s.trail.wIx < index.toNat) :
    exec (.trailAck p tag index) s = .next ((s.withTrail (s.trail.release s.trail.wIx)).done p tag .ok true) := by
  rw [exec_trailAck, execTrailAck, s.takeWith_of_canServe p h, if_neg (by omega), if_pos hgt]

/-- An index from K to W_ix releases the entries below it. -/
theorem exec_trailAck_within (h : s.canServe .trail p tag (.trailAck index)) (hk : s.trail.k ≤ index.toNat)
    (hw : index.toNat ≤ s.trail.wIx) :
    exec (.trailAck p tag index) s = .next ((s.withTrail (s.trail.release index.toNat)).done p tag .ok false) := by
  rw [exec_trailAck, execTrailAck, s.takeWith_of_canServe p h, if_neg (by omega), if_neg (by omega)]

/-- A TRAIL_ACK that sets K to `n` leaves the entries from `n` up and changes nothing else but its port. -/
theorem trailAck_releases {n : Nat} {clamped : Bool} (hok : s.trail.Ok)
    (hexec : exec (.trailAck p tag index) s = .next ((s.withTrail (s.trail.release n)).done p tag .ok clamped)) :
    Replies (.trailAck p tag index) s p (.done tag .ok clamped) [.trail] fun t =>
      t.trail = { s.trail with k := n, entries := s.trail.entries.filter fun e => decide (n ≤ e.seq) } :=
  .of_done hexec rfl (s.withTrail_frame _) (by simp [TrailUnit.release_eq_filter hok])

end

end Sys2Proof.Machine

namespace Sys2Proof

open Machine

/-- Settles O43: without the right the answer is NO_RIGHT; with it the index lies from K to W_ix, above W_ix or below K, and
`trailAck_releases` says what the first two leave. -/
theorem trailAckReleasesTheEntriesBelowItsIndex : Obligations.TrailAckReleasesTheEntriesBelowItsIndex := by
  intro p tag index s hhead hok
  have hkw : s.trail.k ≤ s.trail.wIx := by
    obtain ⟨-, hkw, -⟩ := hok
    exact hkw
  refine ⟨fun hright => .of_done (exec_trailAck_noRight hhead hright) rfl .rfl' trivial, fun hright => ?_⟩
  have hserve : s.canServe .trail p tag (.trailAck index) := ⟨hhead, hright⟩
  refine ⟨?within, ?above, ?below⟩
  case within => exact fun hk hw => trailAck_releases hok (exec_trailAck_within hserve hk hw)
  case above => exact fun hgt => trailAck_releases hok (exec_trailAck_above hserve hkw hgt)
  case below => exact fun hlt => .of_done (exec_trailAck_below hserve hlt) rfl .rfl' rfl

end Sys2Proof
end

section
/-! PROOFS. Every command completes within the blocks that its rule gives it, and what a command that takes a request does before it
looks at the request (R148, R154). -/

namespace Sys2Proof.Machine

open State State.differsIn

/-! ## Where a command's meaning ends -/

/-- The command completes, and changes the blocks of `cs` alone. -/
def CompletesWithin (cs : List Block) (s : State) (o : Host.Outcome State Fault Refusal) : Prop :=
  ∃ t : State, o = .next t ∧ State.differsIn cs s t

theorem CompletesWithin.next {cs : List Block} {s t : State} (h : State.differsIn cs s t) :
    CompletesWithin cs s (.next t) := ⟨t, rfl, h⟩

/-- A command completes within wider blocks too. -/
theorem CompletesWithin.within {as cs : List Block} {s t : State} (h : State.differsIn as s t)
    (sub : ∀ b ∈ as, b ∈ cs) : CompletesWithin cs s (.next t) := .next (h.mono sub)

section

variable (s : State)

/-! ## Tick Unit and Timescale Counter -/

theorem execMainPresent_within : CompletesWithin [.tick] s (execMainPresent s) := by
  refine .next ?_
  split
  · exact s.withTick_frame _
  · exact (s.withTick_frame _).trans (tryLockWait_frame _)

/-- Blocks that a main loss may change. -/
abbrev lossBlocks : List Block := [.tick, .steer, .leap, .segs, .trail, .ports, .lastCause]

theorem execMainAbsent_within : CompletesWithin lossBlocks s (execMainAbsent s) := by
  refine .next (ofIte (fun _ => rfl') fun _ => ?_)
  refine s.finishReturn_frame.trans (ofIte (fun _ => ?_) fun _ => (withTick_frame _ _).mono (by decide))
  exact .next (withTick_frame _ _) (mainLoss_frame _) (by decide) (by decide)

theorem execPllLockFallen_within : CompletesWithin lossBlocks s (execPllLockFallen s) := by
  refine .next ?_
  split
  · exact (s.withTick_frame _).mono (by decide)
  · refine s.finishReturn_frame.trans (ofIte (fun _ => (withTick_frame _ _).mono (by decide)) fun _ =>
      ofIte (fun _ => ?_) fun _ => (withTick_frame _ _).mono (by decide))
    exact .next (withTick_frame _ _) (mainLoss_frame _) (by decide) (by decide)

theorem execLockWaitExpiry_within : CompletesWithin lossBlocks s (execLockWaitExpiry s) := by
  refine .next (ofIte (fun _ => rfl') fun _ => ofIte (fun _ => ?_) fun _ => (s.withTick_frame _).mono (by decide))
  exact .next (.next (ds := lossBlocks) (.next (ds := [.tick, .steer]) (s.withTick_frame _) (withSteer_frame _ _)
    (by decide) (by decide)) (enterState_frame _ _) (by decide) (by decide)) (reportTimescale_frame _ _ _) (by decide)
    (by decide)

/-- Blocks that a second mark may change. -/
abbrev markBlocks : List Block := [.tick, .xt, .refs, .steer, .leap, .segs, .commits, .outputs, .trail, .ports, .lastCause]

theorem execSecondMark_within (first : Bool) :
    CompletesWithin markBlocks s (execSecondMark first s) := by
  refine .next ?_
  split
  · exact rfl'
  · rename_i m _
    have hfirst : State.differsIn [.xt, .trail] s
        (if first then (s.withXt { s.xt with markDue := none }).trailMark else s.withXt { s.xt with markDue := none }) :=
      .next (s.withXt_frame _) (ofIte (cs := [.trail]) (fun _ => trailMark_frame _) fun _ => rfl') (by decide) (by decide)
    have hsteer : State.differsIn markBlocks s _ :=
      .next hfirst (steerMark_frame _) (by decide) (by decide)
    exact hsteer.trans (((withTick_frame _ _).mono (by decide)).trans (((withOutputs_frame _ _).mono (by decide)).trans
      (ofIte (fun _ => rfl') fun _ => (trailMark_frame _).mono (by decide))))

/-- Blocks that an applied step may change. -/
abbrev stepBlocks : List Block :=
  [.tick, .xt, .refs, .steer, .leap, .arb, .outputs, .freeIndex, .trail, .ports, .lastCause]

theorem execStepApplied_within : CompletesWithin stepBlocks s (execStepApplied s) := by
  refine .next ?_
  split
  · exact rfl'
  · refine .next (.next (ds := stepBlocks) (.next (ds := stepBlocks) (.next (ds := stepBlocks)
      (s.stepTo_frame _) (withSteer_frame _ _) (by decide) (by decide)) (ask_frame _ _) (by decide) (by decide))
      (actOnLeap_frame _) (by decide) (by decide)) (answerStep_frame _ _) (by decide) (by decide)

/-! ## Reference Monitors -/

theorem execReferencePulse_within (r : RefId) :
    CompletesWithin [.refs, .trail, .ports, .lastCause] s (execReferencePulse r s) :=
  .next (ofIte (fun _ => .next (s.withRef_frame _ _) (changeRef_frame _ _ _) (by decide) (by decide)) fun _ =>
    .next (s.withRef_frame _ _) (recordVerdict_frame _ _ _ _) (by decide) (by decide))

theorem execMissingVerdict_within (r : RefId) :
    CompletesWithin [.refs, .trail, .ports, .lastCause] s (execMissingVerdict r s) := by
  refine .next ?_
  split
  · exact .next (s.withRef_frame _ _) (recordVerdict_frame _ _ _ _) (by decide) (by decide)
  · exact rfl'

theorem execAbsenceDeadline_within (r : RefId) :
    CompletesWithin [.refs, .trail, .ports, .lastCause] s (execAbsenceDeadline r s) :=
  .next (ofIte (fun _ => .next (s.withRef_frame _ _) (changeRef_frame _ _ _) (by decide) (by decide)) fun _ => rfl')

/-! ## Grants, captures and due instants -/

theorem execCaptureEdge_within (l : Line) (k : EdgeKind) : CompletesWithin [.capture, .trail] s (execCaptureEdge l k s) :=
  .next (ofIte (fun _ => rfl') fun _ => ofIte (fun _ => (s.withCapture_frame _).mono (by decide)) fun _ =>
    .next (s.withCapture_frame _) (count_frame _ _) (by decide) (by decide))

theorem execStampGrant_within (p : Port) : CompletesWithin [.arb, .trail, .ports] s (execStampGrant p s) := by
  refine .next (ofIte (fun _ => ?_) fun _ => rfl')
  split
  · exact .next (.next (ds := [.arb, .trail, .ports]) (.next (ds := [.arb, .ports]) s.grant_frame (withPort_frame _ _ _)
      (by decide) (by decide)) (count_frame _ _) (by decide) (by decide)) (withArb_frame _ _) (by decide) (by decide)
  · exact rfl'

theorem execCaptureGrant_within (l : Line) : CompletesWithin [.arb, .capture, .trail, .ports] s (execCaptureGrant l s) := by
  refine .next (ofIte (fun _ => ?_) fun _ => rfl')
  dsimp only
  split
  · exact .next (.next (ds := [.arb, .capture, .trail, .ports]) (.next (ds := [.arb, .capture, .ports])
      (.next (ds := [.arb, .ports]) s.grant_frame (withPort_frame _ _ _) (by decide) (by decide)) (withCapture_frame _ _)
      (by decide) (by decide)) (count_frame _ _) (by decide) (by decide)) (withArb_frame _ _) (by decide) (by decide)
  · exact rfl'

/-- Blocks that the grant of a segment event may change. -/
abbrev grantBlocks : List Block := [.arb, .segs, .commits, .outputs, .trail, .ports]

/-- The grant of the oldest event, a new record of its segment, and the report (R83, R105). -/
theorem grantHead_withSeg_report_frame (i : SegId) (g : Segment) (j : SegId) (b : TrailBody) (e : SegEventCode)
    (r : Option CloseRecord) (x : Option Ns) :
    State.differsIn grantBlocks s ((s.grantHead.withSeg i g).report j b e r x) :=
  .next (.next (ds := [.arb, .segs, .commits]) s.grantHead_frame (withSeg_frame _ _ _) (by decide) (by decide))
    (report_frame _ _ _ _ _ _) (by decide) (by decide)

theorem execArmGrant_within : CompletesWithin grantBlocks s (execArmGrant s) := by
  refine .next ?_
  split
  · exact grantHead_withSeg_report_frame _ _ _ _ _ _ _ _
  · exact rfl'

theorem execReviseGrant_within : CompletesWithin grantBlocks s (execReviseGrant s) := by
  refine .next ?_
  split
  · exact grantHead_withSeg_report_frame _ _ _ _ _ _ _ _
  · exact rfl'

theorem execDisarmGrant_within : CompletesWithin grantBlocks s (execDisarmGrant s) := by
  refine .next ?_
  split
  · exact grantHead_withSeg_report_frame _ _ _ _ _ _ _ _
  · exact rfl'

theorem execMissedGrant_within : CompletesWithin grantBlocks s (execMissedGrant s) := by
  refine .next ?_
  split
  · exact grantHead_withSeg_report_frame _ _ _ _ _ _ _ _
  · exact rfl'

theorem execOpenGrant_within : CompletesWithin grantBlocks s (execOpenGrant s) := by
  refine .next ?_
  split
  · exact grantHead_withSeg_report_frame _ _ _ _ _ _ _ _
  · exact rfl'

theorem execCallGrant_within : CompletesWithin grantBlocks s (execCallGrant s) := by
  refine .next ?_
  split
  · exact grantHead_withSeg_report_frame _ _ _ _ _ _ _ _
  · exact rfl'

theorem execDrawGrant_within : CompletesWithin (Instr.touches .drawGrant) s (execDrawGrant s) := by
  refine .next ?_
  split
  · exact .next (.next (ds := [.arb, .segs, .commits, .drawIndex]) (.next (ds := [.arb, .commits, .drawIndex]) s.grantHead_frame
      (withDrawIndex_frame _ _) (by decide) (by decide)) (withSeg_frame _ _ _) (by decide) (by decide))
      (report_frame _ _ _ _ _ _) (by decide) (by decide)
  · exact rfl'

theorem execEndGrant_within : CompletesWithin grantBlocks s (execEndGrant s) := by
  refine .next ?_
  split
  · refine ofIte (fun _ => ?_) fun _ => grantHead_withSeg_report_frame _ _ _ _ _ _ _ _
    exact .next (.next (ds := grantBlocks) s.grantHead_frame (endCycle_frame _ _ _ _ _ _ _ _) (by decide) (by decide))
      (withSeg_frame _ _ _) (by decide) (by decide)
  · exact rfl'

theorem execExtendGrant_within : CompletesWithin grantBlocks s (execExtendGrant s) := by
  refine .next ?_
  split
  · exact grantHead_withSeg_report_frame _ _ _ _ _ _ _ _
  · exact rfl'

theorem execReleaseGrant_within : CompletesWithin grantBlocks s (execReleaseGrant s) := by
  refine .next ?_
  split
  · exact .next s.grantHead_frame (endCycle_frame _ _ _ _ _ _ _ _) (by decide) (by decide)
  · exact rfl'

theorem execHaltGrant_within : CompletesWithin grantBlocks s (execHaltGrant s) := by
  refine .next ?_
  split
  · exact .next s.grantHead_frame (endCycle_frame _ _ _ _ _ _ _ _) (by decide) (by decide)
  · exact rfl'

/-- An instant taken: a new record of its segment and the event committed (R94, R95). -/
theorem withSeg_commit_frame (i : SegId) (g : Segment) (e : SegEvent) (c : Committed) :
    State.differsIn [.segs, .commits] s ((s.withSeg i g).commit e c) :=
  .next (s.withSeg_frame _ _) (commit_frame _ _ _) (by decide) (by decide)

/-! ## Port Controllers -/

theorem execClientFrame_within (p : Port) (bytes : List Byte) :
    CompletesWithin [.steer, .capture, .trail, .ports] s (execClientFrame p bytes s) := by
  refine .next ?_
  split
  · exact (s.count_frame _).mono (by decide)
  · exact ofIte (fun _ => ofIte (fun _ => (s.resetPort_frame _ _).mono (by decide)) fun _ => rfl') fun _ =>
      (s.receive_frame _ _).mono (by decide)

theorem execWaitingAnswer_within (p : Port) : CompletesWithin [.ports] s (execWaitingAnswer p s) := by
  refine .next ?_
  dsimp only
  split
  · exact ofIte (fun _ => s.withPort_frame _ _) fun _ => rfl'
  · exact rfl'

theorem execDrainComplete_within (p : Port) : CompletesWithin [.ports] s (execDrainComplete p s) := by
  refine .next ?_
  split
  · exact s.withPort_frame _ _
  · exact rfl'

/-! ## Requests -/

theorem execStamp_within (p : Port) (tag : Tag) (seg : Option Byte) : CompletesWithin [.ports] s (execStamp p tag seg s) := by
  have hpresent (g : Option SegId) : State.differsIn [.ports] s
      (if s.steer.stampingOpen then s.withPort p { s.port p with service := .stamping tag g }
        else s.done p tag .notReady false) :=
    ofIte (fun _ => s.withPort_frame _ _) fun _ => s.done_frame _ _ _ _
  refine .next (takeWith_frame (by decide) ?_)
  dsimp only
  split
  · exact hpresent none
  · split
    · exact s.done_frame _ _ _ _
    · exact hpresent _

theorem execSetTime_within (p : Port) (tag : Tag) (sec : BitVec 64) :
    CompletesWithin [.steer, .ports] s (execSetTime p tag sec s) :=
  .next (takeWith_frame (by decide) (ofIte (fun _ => (s.done_frame _ _ _ _).mono (by decide)) fun _ =>
    ofIte (fun _ => (s.done_frame _ _ _ _).mono (by decide)) fun _ =>
      .next (s.withSteer_frame _) (withPort_frame _ _ _) (by decide) (by decide)))

theorem execSetLeapWithdraw_within (p : Port) (tag : Tag) (day : BitVec 32) :
    CompletesWithin [.leap, .segs, .trail, .ports, .lastCause] s (execSetLeapWithdraw p tag day s) :=
  .next (takeWith_frame (by decide) (ofIte (fun _ => (s.done_frame _ _ _ _).mono (by decide)) fun _ =>
    .next (s.storeLeap_frame _) (done_frame _ _ _ _ _) (by decide) (by decide)))

theorem execProfileWrite_within (p : Port) (tag : Tag) (k m : Byte) (ext : BitVec 16) (w : BitVec 32) :
    CompletesWithin [.profiles, .trail, .ports] s (execProfileWrite p tag k m ext w s) := by
  refine .next (takeWith_frame (by decide) ?_)
  split
  · exact (s.done_frame _ _ _ _).mono (by decide)
  · exact ofIte (fun _ => (s.done_frame _ _ _ _).mono (by decide)) fun _ =>
      .next (.next (ds := [.profiles, .trail]) (s.withProfiles_frame _) (ask_frame _ _) (by decide) (by decide))
        (done_frame _ _ _ _ _) (by decide) (by decide)

/-- Blocks that a SEGMENT_WRITE may change. -/
abbrev writeBlocks : List Block := [.segs, .commits, .outputs, .trail, .ports]

theorem execSegmentWrite_within (p : Port) (tag : Tag) (seg k : Byte) (d : Definition) :
    CompletesWithin writeBlocks s (execSegmentWrite p tag seg k d s) := by
  refine .next (takeWith_frame (by decide) ?_)
  split
  · exact .next (s.applyWrite_frame _ _ _ _ _) (done_frame _ _ _ _ _) (by decide) (by decide)
  · exact (s.done_frame _ _ _ _).mono (by decide)

theorem execSegmentSwap_within (p : Port) (tag : Tag) (seg k : Byte) (d : Definition) :
    CompletesWithin writeBlocks s (execSegmentSwap p tag seg k d s) := by
  refine .next (takeWith_frame (by decide) ?_)
  split
  · split
    · exact (s.done_frame _ _ _ _).mono (by decide)
    · exact .next (s.applyWrite_frame _ _ _ _ _) (answer_frame _ _ _) (by decide) (by decide)
  · exact (s.done_frame _ _ _ _).mono (by decide)

theorem execSegmentRead_within (p : Port) (tag : Tag) (seg : Byte) :
    CompletesWithin [.ports] s (execSegmentRead p tag seg s) := by
  refine .next (takeWith_frame (by decide) ?_)
  split
  · exact s.done_frame _ _ _ _
  · exact s.answer_frame _ _

/-- A request event committed, and the answer (R94). -/
theorem commit_done_frame (e : SegEvent) (c : Committed) (p : Port) (tag : Tag) (code : ResultCode) (b : Bool) :
    State.differsIn [.segs, .commits, .ports] s ((s.commit e c).done p tag code b) :=
  .next (s.commit_frame _ _) (done_frame _ _ _ _ _) (by decide) (by decide)

theorem execExtend_within (p : Port) (tag : Tag) (seg : Byte) :
    CompletesWithin [.segs, .commits, .ports] s (execExtend p tag seg s) := by
  refine .next (takeWith_frame (by decide) ?_)
  repeat' split
  · exact (s.done_frame _ _ _ _).mono (by decide)
  · exact (s.done_frame _ _ _ _).mono (by decide)
  · exact commit_done_frame s _ _ _ _ _ _

theorem execRelease_within (p : Port) (tag : Tag) (seg : Byte) :
    CompletesWithin [.segs, .commits, .ports] s (execRelease p tag seg s) := by
  refine .next (takeWith_frame (by decide) ?_)
  repeat' split
  · exact (s.done_frame _ _ _ _).mono (by decide)
  · exact (s.done_frame _ _ _ _).mono (by decide)
  · exact commit_done_frame s _ _ _ _ _ _

theorem execHalt_within (p : Port) (tag : Tag) (seg : Byte) :
    CompletesWithin [.segs, .commits, .ports] s (execHalt p tag seg s) := by
  refine .next (takeWith_frame (by decide) ?_)
  repeat' split
  · exact (s.done_frame _ _ _ _).mono (by decide)
  · exact (s.done_frame _ _ _ _).mono (by decide)
  · exact commit_done_frame s _ _ _ _ _ _

theorem execCaptureSet_within (p : Port) (tag : Tag) (line edge port : Byte) :
    CompletesWithin [.capture, .trail, .ports] s (execCaptureSet p tag line edge port s) := by
  refine .next (take_frame ?_)
  split
  · exact (s.done_frame _ _ _ _).mono (by decide)
  · exact .next (s.applyCapture_frame _ _ _ _) (done_frame _ _ _ _ _) (by decide) (by decide)
  · exact (s.done_frame _ _ _ _).mono (by decide)

theorem execOutputSetAtInstant_within (p : Port) (tag : Tag) (f : OutputFields) :
    CompletesWithin [.outputs, .trail, .ports] s (execOutputSetAtInstant p tag f s) := by
  refine .next ?_
  split
  · exact takeWith_frame (by decide) ((s.done_frame _ _ _ _).mono (by decide))
  · exact s.serveOutput_frame _ _ _ _ _

theorem execTrailRead_within (p : Port) (tag : Tag) (start : BitVec 64) (n : Byte) :
    CompletesWithin [.ports] s (execTrailRead p tag start n s) :=
  .next (takeWith_frame (by decide) (ofIte (fun _ => s.done_frame _ _ _ _) fun _ =>
    ofIte (fun _ => s.done_frame _ _ _ _) fun _ => s.answer_frame _ _))

theorem execTrailAck_within (p : Port) (tag : Tag) (n : BitVec 64) :
    CompletesWithin [.trail, .ports] s (execTrailAck p tag n s) :=
  .next (takeWith_frame (by decide) (ofIte (fun _ => (s.done_frame _ _ _ _).mono (by decide)) fun _ =>
    ofIte (fun _ => .next (s.withTrail_frame _) (done_frame _ _ _ _ _) (by decide) (by decide)) fun _ =>
      .next (s.withTrail_frame _) (done_frame _ _ _ _ _) (by decide) (by decide)))

theorem execSubscribe_within (p : Port) (tag : Tag) (b : Byte) (n : BitVec 16) :
    CompletesWithin [.ports] s (execSubscribe p tag b n s) := by
  refine .next (takeWith_frame (by decide) ?_)
  split
  · exact s.done_frame _ _ _ _
  · exact (s.withPort_frame _ _).trans (done_frame _ _ _ _ _)

theorem execSetTimingUtcOffset_within (p : Port) (tag : Tag) (v : BitVec 64) :
    CompletesWithin [.leap, .segs, .trail, .ports, .lastCause] s (execSetTimingUtcOffset p tag v s) := by
  refine .next (takeWith_frame (by decide) ?_)
  split
  · exact (s.done_frame _ _ _ _).mono (by decide)
  · exact (s.acceptItem_frame (cs := [.leap, .segs, .trail, .ports, .lastCause]) fun x t =>
      (t.correctOffset_frame _ _).trans ((actOnLeap_frame _).mono (by decide))).mono (by decide)

/-! ## Every command -/

/-- Every command completes within the blocks that its rule gives it. -/
theorem exec_within (c : Instr) : CompletesWithin (Instr.touches c) s (exec c s) := by
  cases c with
  | deviceReset => exact .next fun b hb => by cases b <;> simp_all [Instr.touches, Block.same]
  | mainPresent => exact execMainPresent_within s
  | mainAbsent => exact execMainAbsent_within s
  | pllLockRaised => exact .next ((s.withTick_frame _).trans (tryLockWait_frame _))
  | pllLockFallen => exact execPllLockFallen_within s
  | lockWaitExpiry => exact execLockWaitExpiry_within s
  | settleComplete => exact .next (ofIte (fun _ => s.completeSettle_frame) fun _ => rfl')
  | mainReturn => exact .next s.finishReturn_frame
  | secondMark first => exact execSecondMark_within s first
  | stepApplied => exact execStepApplied_within s
  | acqTimeout => exact .within (ofIte (fun _ => s.expireAcquisition_frame) fun _ => rfl') (by simp [Instr.touches])
  | timeOfDayMessage => exact .next (s.withRef_frame _ _)
  | referencePulse r => exact execReferencePulse_within s r
  | missingVerdict r => exact execMissingVerdict_within s r
  | absenceDeadline r => exact execAbsenceDeadline_within s r
  | leapBegin => exact .next (ofIte (fun _ => s.beginLeap_frame) fun _ => rfl')
  | leapExecuted => exact .next (ofIte (fun _ => s.executeLeap_frame) fun _ => rfl')
  | captureEdge l k => exact execCaptureEdge_within s l k
  | stampGrant p => exact execStampGrant_within s p
  | captureGrant l => exact execCaptureGrant_within s l
  | openInstantDue => exact .next (ofIte (fun _ => withSeg_commit_frame s _ _ _ _) fun _ => rfl')
  | callInstantDue => exact .next (ofIte (fun _ => withSeg_commit_frame s _ _ _ _) fun _ => rfl')
  | armedCloseDue => exact .next (ofIte (fun _ => withSeg_commit_frame s _ _ _ _) fun _ => rfl')
  | drawnCloseDue => exact .next (ofIte (fun _ => s.commit_frame _ _) fun _ => rfl')
  | armGrant => exact execArmGrant_within s
  | reviseGrant => exact execReviseGrant_within s
  | disarmGrant => exact execDisarmGrant_within s
  | missedGrant => exact execMissedGrant_within s
  | openGrant => exact execOpenGrant_within s
  | callGrant => exact execCallGrant_within s
  | drawGrant => exact execDrawGrant_within s
  | endGrant => exact execEndGrant_within s
  | extendGrant => exact execExtendGrant_within s
  | releaseGrant => exact execReleaseGrant_within s
  | haltGrant => exact execHaltGrant_within s
  | pulseEnd => exact .next (ofIte (fun _ => s.withOutputs_frame _) fun _ => rfl')
  | atInstantFire =>
    refine .next ?_
    split
    · exact ofIte (fun _ => s.withOutputs_frame _) fun _ => rfl'
    · exact rfl'
  | clientFrame p bytes => exact execClientFrame_within s p bytes
  | frameAbandoned => exact .next (s.count_frame _)
  | linkTimeout => exact .next (ofIte (fun _ => (s.resetPort_frame _ _).mono (by simp [Instr.touches])) fun _ => rfl')
  | idleFrame => exact .next (ofIte (fun _ => s.withPort_frame _ _) fun _ => rfl')
  | batchFrame => exact .next (ofIte (fun _ => s.withPort_frame _ _) fun _ => rfl')
  | batchFrameSent => exact .next (ofIte (fun _ => s.withPort_frame _ _) fun _ => rfl')
  | waitingAnswer p => exact execWaitingAnswer_within s p
  | pendingNoticeDrain => exact .next (ofIte (fun _ => s.withPort_frame _ _) fun _ => rfl')
  | drainComplete p => exact execDrainComplete_within s p
  | stamp p tag seg => exact execStamp_within s p tag seg
  | readTime => exact .next (takeWith_frame (by simp [Instr.touches]) (s.answer_frame _ _))
  | readEvidence =>
    exact .next (takeWith_frame (by simp [Instr.touches]) (.next (s.withRefs_frame _) (answer_frame _ _ _) (by simp [Instr.touches]) (by simp [Instr.touches])))
  | setTime p tag sec => exact execSetTime_within s p tag sec
  | setLeapInsert => exact .next (takeWith_frame (by simp [Instr.touches]) (s.setLeap_frame _ _ _))
  | setLeapDelete => exact .next (takeWith_frame (by simp [Instr.touches]) (s.setLeap_frame _ _ _))
  | setLeapWithdraw p tag day => exact execSetLeapWithdraw_within s p tag day
  | profileWrite p tag k m ext w => exact execProfileWrite_within s p tag k m ext w
  | segmentWrite p tag seg k d => exact execSegmentWrite_within s p tag seg k d
  | segmentSwap p tag seg k d => exact execSegmentSwap_within s p tag seg k d
  | segmentRead p tag seg => exact execSegmentRead_within s p tag seg
  | extend p tag seg => exact execExtend_within s p tag seg
  | release p tag seg => exact execRelease_within s p tag seg
  | halt p tag seg => exact execHalt_within s p tag seg
  | captureSet p tag line edge port => exact execCaptureSet_within s p tag line edge port
  | outputSetOff => exact .next (s.serveOutput_frame _ _ _ _ _)
  | outputSetSecondPulse => exact .next (s.serveOutput_frame _ _ _ _ _)
  | outputSetCloseFollow => exact .next (s.serveOutput_frame _ _ _ _ _)
  | outputSetAtInstant p tag f => exact execOutputSetAtInstant_within s p tag f
  | trailRead p tag start n => exact execTrailRead_within s p tag start n
  | trailAck p tag n => exact execTrailAck_within s p tag n
  | summaryNow =>
    exact .next (takeWith_frame (by simp [Instr.touches]) (.next (s.withTrail_frame _) (done_frame _ _ _ _ _) (by simp [Instr.touches]) (by simp [Instr.touches])))
  | subscribe p tag b n => exact execSubscribe_within s p tag b n
  | drain => exact .next (take_frame (s.withPort_frame _ _))
  | malformedRequest => exact .next (take_frame (s.done_frame _ _ _ _))
  | setTimingSettlePeriod => exact .within (s.serveItem_frame fun _ t => t.writeSettle_frame _) (by simp [Instr.touches])
  | setTimingRefProfile => exact .within (s.serveItem_frame fun _ t => t.withRefs_frame _) (by simp [Instr.touches])
  | setTimingRefPriority => exact .within (s.serveItem_frame fun _ t => t.withRefs_frame _) (by simp [Instr.touches])
  | setTimingCableDelay => exact .within (s.serveItem_frame fun _ t => t.withRefs_frame _) (by simp [Instr.touches])
  | setTimingPWin => exact .within (s.serveItem_frame fun _ t => t.withRefCfg_frame _) (by simp [Instr.touches])
  | setTimingMinimumQuality => exact .within (s.serveItem_frame fun _ t => t.withRefCfg_frame _) (by simp [Instr.touches])
  | setTimingD => exact .within (s.serveItem_frame fun _ t => t.withRefCfg_frame _) (by simp [Instr.touches])
  | setTimingRevertiveMode => exact .within (s.serveItem_frame fun _ t => t.withRefCfg_frame _) (by simp [Instr.touches])
  | setTimingKp => exact .within (s.serveItem_frame fun _ t => t.writeLoop_frame _) (by simp [Instr.touches])
  | setTimingKi => exact .within (s.serveItem_frame fun _ t => t.writeLoop_frame _) (by simp [Instr.touches])
  | setTimingL => exact .within (s.serveItem_frame fun _ t => t.writeLoop_frame _) (by simp [Instr.touches])
  | setTimingH => exact .within (s.serveItem_frame fun _ t => t.writeLoop_frame _) (by simp [Instr.touches])
  | setTimingHRing => exact .within (s.serveItem_frame fun _ t => t.writeLoop_frame _) (by simp [Instr.touches])
  | setTimingWLock => exact .within (s.serveItem_frame fun _ t => t.withSteer_frame _) (by simp [Instr.touches])
  | setTimingAcquisitionTimeout => exact .within (s.serveItem_frame fun _ t => t.writeAcqTimeout_frame _) (by simp [Instr.touches])
  | setTimingM => exact .within (s.serveItem_frame fun _ t => t.writeM_frame _) (by simp [Instr.touches])
  | setTimingUFixed => exact .within (s.serveItem_frame fun _ t => t.withSteer_frame _) (by simp [Instr.touches])
  | setTimingUManual => exact .within (s.serveItem_frame fun _ t => t.withSteer_frame _) (by simp [Instr.touches])
  | setTimingUtcOffset p tag v => exact execSetTimingUtcOffset_within s p tag v
  | setTimingSummaryInterval => exact .within (s.serveItem_frame fun _ t => t.withTrail_frame _) (by simp [Instr.touches])
  | setTimingSummaryMode => exact .within (s.serveItem_frame fun _ t => t.withTrail_frame _) (by simp [Instr.touches])
  | messageFramingError => exact .next (s.withRef_frame _ _)
  | setTimingUnknownItem => exact .next (takeWith_frame (by simp [Instr.touches]) (s.done_frame _ _ _ _))

end

/-- No command's rule gives it the queue of commands. -/
theorem pending_notMem_touches (c : Instr) : Block.pending ∉ Instr.touches c := by
  cases c <;> simp [Instr.touches]

/-- A block that its rule does not give a command is as it was. -/
theorem exec_same {c : Instr} {s t : State} {b : Block} (h : exec c s = .next t) (hb : b ∉ Instr.touches c) :
    Block.same s t b := by
  obtain ⟨u, hu, hframe⟩ := exec_within s c
  obtain rfl : u = t := by simpa [h] using hu.symm
  exact hframe b hb

/-! ## A request that is not at the head, or whose right is not held -/

/-- A command that takes a request does nothing while that request is not at the head (log entry 1). -/
theorem exec_of_not_head {c : Instr} {p : Port} {tag : Tag} {body : ReqBody} {s : State}
    (h : Instr.asked c = some (p, tag, body)) (hh : s.headIs p tag body = false) : exec c s = .next s := by
  cases c <;> cases h
  case outputSetAtInstant f =>
    change execOutputSetAtInstant p tag f s = _
    unfold execOutputSetAtInstant
    split
    · rw [takeWith_of_not_head s p hh]
    · rw [serveOutput, takeWith_of_not_head s p hh]
  case captureSet => exact congrArg Host.Outcome.next (take_of_not_head s p hh)
  case drain => exact congrArg Host.Outcome.next (take_of_not_head s p hh)
  case malformedRequest => exact congrArg Host.Outcome.next (take_of_not_head s p hh)
  all_goals exact congrArg Host.Outcome.next (takeWith_of_not_head s p hh)

/-- A request whose right the port does not hold is answered NO_RIGHT (R148). -/
theorem exec_noRight {c : Instr} {p : Port} {tag : Tag} {body : ReqBody} {right : Right} {s : State}
    (h : Instr.asked c = some (p, tag, body)) (hn : Instr.needs c = some right) (hh : s.headIs p tag body = true)
    (hr : (s.port p).role.has right = false) : exec c s = .next (s.done p tag .noRight false) := by
  cases c <;> cases h <;> cases hn
  case outputSetAtInstant f =>
    change execOutputSetAtInstant p tag f s = _
    unfold execOutputSetAtInstant
    split
    · rw [takeWith_noRight s p hh hr]
    · rw [serveOutput, takeWith_noRight s p hh hr]
  all_goals exact congrArg Host.Outcome.next (takeWith_noRight s p hh hr)

/-- A number names only the item that has it (10 Table 10-6). -/
theorem eq_ofNat_number_of_timingItem {item : BitVec 16} {it : TimingItem} (h : timingItem item.toNat = some it) :
    item = BitVec.ofNat 16 it.number := by
  apply BitVec.eq_of_toNat_eq
  generalize hn : item.toNat = n at h
  unfold timingItem at h
  split at h <;> cases h <;> rfl

/-- The command that takes a SET_TIMING takes the request that it was made from. -/
theorem asked_timingCommand (p : Port) (tag : Tag) (item : BitVec 16) (v : BitVec 64) :
    Instr.asked (timingCommand p tag item v) = some (p, tag, .setTiming item v) := by
  unfold timingCommand
  cases h : timingItem item.toNat with
  | none => rfl
  | some it =>
    rw [eq_ofNat_number_of_timingItem h]
    cases it <;> rfl

theorem asked_requestCommand (p : Port) (q : Request) : Instr.asked (requestCommand p q) = some (p, q.tag, q.body) := by
  obtain ⟨tag, body⟩ := q
  cases body with
  | setTiming item v => exact asked_timingCommand p tag item v
  | setLeap day action => cases action <;> rfl
  | outputSet mode f => cases mode <;> rfl
  | _ => rfl

end Sys2Proof.Machine

namespace Sys2Proof

open Machine

/-- Settles O1: it is the second equation of `step`. -/
theorem stepRunsFrontCommand : Obligations.StepRunsFrontCommand := by
  intro c rest s h
  simp [step, h]

/-- Settles O3: `exec_within`, and no command is given the queue. -/
theorem everyCommandCompletesWithinItsBlocks : Obligations.EveryCommandCompletesWithinItsBlocks := by
  intro c s
  obtain ⟨t, ht, hframe⟩ := exec_within s c
  exact ⟨t, ht, hframe, hframe .pending (pending_notMem_touches c)⟩

/-- Settles O4: the first clause is `exec_of_not_head`, the second `asked_requestCommand`. -/
theorem requestsAreTakenAtTheHead : Obligations.RequestsAreTakenAtTheHead :=
  ⟨fun _ _ _ _ _ h hh => exec_of_not_head h hh, asked_requestCommand⟩

/-- Settles O5. -/
theorem noRightChangesNothingElse : Obligations.NoRightChangesNothingElse := by
  intro c p tag body right s h hn hh hr
  exact .of_done (exec_noRight h hn hh hr) rfl State.differsIn.rfl' trivial

end Sys2Proof
end

section
/-! PROOFS. The values right after reset and the invariants that they meet; the fields of a frame read back (R165), and the frames and
requests of chapter 10 read back as they were sent. -/

namespace Sys2Proof

open Machine

/-! ## Right after reset -/

theorem State.reset_port (p : Port) : State.reset.port p = PortCtl.reset .gateway := by
  simp [State.port, State.reset, State.afterReset, roleOf]

theorem State.reset_capture (l : Line) : State.reset.capture.get l = CaptureLine.reset l := by
  simp [State.reset, State.afterReset]

theorem reset_holds_the_tables_values : ResetHoldsTheTablesValues := by
  refine ⟨rfl, rfl, ?refs, rfl, rfl, rfl, rfl, rfl, ?segs, ?profiles, rfl, ?lines, rfl, ?counts, rfl, rfl, rfl, rfl, rfl, rfl,
    ?ports⟩
  case refs => intro r; cases r <;> rfl
  case segs => intro i; simp [State.reset, State.afterReset, Segment.reset]
  case profiles => intro k; simp [State.reset, State.afterReset, SegProfile.reset]
  case lines => intro l; simp [State.reset, State.afterReset, CaptureLine.reset, OutputLine.reset]
  case counts => intro r; cases r <;> exact ⟨rfl, rfl, rfl, rfl⟩
  case ports =>
    intro p
    refine ⟨?_, ?_, State.reset_port p⟩ <;>
      simp [State.reset, State.afterReset, TrailUnit.reset, Counters.zero]

theorem reset_queuesOk : State.reset.QueuesOk := by
  refine ⟨fun p => ?_, fun l => ?_⟩
  · rw [State.reset_port]
    exact ⟨by decide, by decide, List.Pairwise.nil⟩
  · rw [State.reset_capture]
    exact Nat.zero_le _

theorem reset_meets_the_invariants : ResetMeetsTheInvariants := by
  refine ⟨?trail, reset_queuesOk, ⟨rfl, fun _ => rfl⟩, ?bound, ?slew, ?ring, ?source⟩
  case trail => exact ⟨rfl, by decide, by decide, by decide, by decide⟩
  case bound => exact ⟨rfl, by decide, by decide, by decide, fun _ => rfl⟩
  case slew => exact ⟨by decide, by decide, by decide, by decide⟩
  case ring => exact ⟨by decide, by decide⟩
  case source => exact ⟨by decide, by decide, by decide, by decide, by decide⟩

/-- Settles O52: the values and the invariants are read off `State.reset`. -/
theorem resetGivesTheTablesValues : Obligations.ResetGivesTheTablesValues :=
  ⟨reset_holds_the_tables_values, reset_meets_the_invariants⟩

/-! ## Multi-byte fields read back (R165) -/

theorem foldl_byte (bs : List Byte) :
    ∀ acc : Nat, bs.foldl (fun acc b => acc * 256 + b.toNat) acc = acc * 256 ^ bs.length + beNat bs := by
  induction bs with
  | nil => intro acc; simp [beNat]
  | cons b bs ih =>
    intro acc
    have hb : beNat (b :: bs) = b.toNat * 256 ^ bs.length + beNat bs := by
      change List.foldl _ (0 * 256 + b.toNat) bs = _
      rw [ih]; simp
    rw [List.foldl_cons, ih, hb, List.length_cons, Nat.pow_succ]
    ring

theorem beNat_cons (b : Byte) (bs : List Byte) : beNat (b :: bs) = b.toNat * 256 ^ bs.length + beNat bs := by
  simpa [beNat] using foldl_byte bs b.toNat

@[simp] theorem length_beBytes : ∀ (k v : Nat), (beBytes k v).length = k
  | 0, _ => rfl
  | k + 1, v => by simp [beBytes, length_beBytes k v]

/-- A field of `k` bytes keeps a number modulo 256^k. -/
theorem beNat_beBytes : ∀ (k v : Nat), beNat (beBytes k v) = v % 256 ^ k
  | 0, v => by simp [beBytes, beNat, Nat.mod_one]
  | k + 1, v => by
    have hmod : v % 256 ^ (k + 1) = v % 256 ^ k + 256 ^ k * (v / 256 ^ k % 256) := Nat.mod_pow_succ
    rw [hmod, beBytes, beNat_cons, beNat_beBytes k v, length_beBytes, BitVec.toNat_ofNat]
    exact (Nat.add_comm _ _).trans (congrArg _ (Nat.mul_comm _ _))

theorem fieldAt_beBytes_append (k v : Nat) (rest : List Byte) : fieldAt (beBytes k v ++ rest) 0 k = v % 256 ^ k := by
  simp [fieldAt, beNat_beBytes]

theorem fieldAt_beBytes (k v : Nat) : fieldAt (beBytes k v) 0 k = v % 256 ^ k := by
  simpa using fieldAt_beBytes_append k v []

theorem fieldAt_cons_succ (b : Byte) (bs : List Byte) (n k : Nat) : fieldAt (b :: bs) (n + 1) k = fieldAt bs n k := rfl

/-- A field past another one is looked for in what follows it. -/
theorem fieldAt_append_of_le {k v n : Nat} (size : Nat) (rest : List Byte) (h : k ≤ n) :
    fieldAt (beBytes k v ++ rest) n size = fieldAt rest (n - k) size := by
  rw [fieldAt, fieldAt, List.drop_append, List.drop_eq_nil_of_le (by simpa using h), length_beBytes, List.nil_append]

theorem byteAt_cons_zero (b : Byte) (bs : List Byte) : byteAt (b :: bs) 0 = b := rfl

theorem byteAt_cons_succ (b : Byte) (bs : List Byte) (n : Nat) : byteAt (b :: bs) (n + 1) = byteAt bs n := rfl

theorem byteAt_append_of_le {k v n : Nat} (rest : List Byte) (h : k ≤ n) :
    byteAt (beBytes k v ++ rest) n = byteAt rest (n - k) := by
  simp [byteAt, List.getElem?_append, Nat.not_lt.mpr h]

/-- A word read from its own bytes is the word. -/
theorem ofNat_toNat_mod {w m : Nat} (v : BitVec w) (h : m = 2 ^ w) : BitVec.ofNat w (v.toNat % m) = v := by
  rw [h, Nat.mod_eq_of_lt v.isLt, BitVec.ofNat_toNat, BitVec.setWidth_eq]

/-! ## Frames (R149, R166) -/

/-- A frame read back from its bytes. -/
theorem parseFrame_encode (f : Frame) : parseFrame f.encode = some f := by
  obtain ⟨kind, tag, body⟩ := f
  obtain ⟨covered, hcovered⟩ : ∃ covered, covered = kind :: beBytes 4 tag.toNat ++ body := ⟨_, rfl⟩
  have hbytes : Frame.encode ⟨kind, tag, body⟩ = covered ++ beBytes 2 (crc16 covered).toNat := by rw [hcovered]; rfl
  have hlen : covered.length = body.length + 5 := by simp [hcovered]; omega
  have htake : (covered ++ beBytes 2 (crc16 covered).toNat).take covered.length = covered := by simp
  have hcrc : fieldAt (covered ++ beBytes 2 (crc16 covered).toNat) covered.length 2 = (crc16 covered).toNat := by
    have hfield := beNat_beBytes 2 (crc16 covered).toNat
    have hlt := (crc16 covered).isLt
    rw [Nat.mod_eq_of_lt (by omega)] at hfield
    simpa [fieldAt, List.take_of_length_le] using hfield
  have hsize : ¬ covered.length + 2 < 7 := by omega
  simp only [parseFrame, hbytes, List.length_append, length_beBytes, Nat.add_sub_cancel, htake, hcrc, hsize, if_true,
    if_false, Option.some.injEq]
  rw [hcovered]
  simp [byteAt, fieldAt_cons_succ, fieldAt_beBytes_append, ofNat_toNat_mod]

/-! ## Requests (10 Table 10-3, Table 10-7) -/

@[simp] theorem length_encode_definition (d : Definition) : d.encode.length = 32 := by simp [Definition.encode]

theorem parseDefinition_encode (d : Definition) : parseDefinition d.encode = d := by
  obtain ⟨day, openTime, callTime, closeTime, hold, subscribers, outputs, repeats⟩ := d
  simp only [parseDefinition, Definition.encode, List.append_assoc, fieldAt_beBytes_append, fieldAt_append_of_le,
    byteAt_append_of_le, byteAt_cons_zero, byteAt_cons_succ, Nat.reduceLeDiff, Nat.reduceSub, Nat.reducePow, ofNat_toNat_mod,
    Definition.mk.injEq, true_and]
  cases hold <;> simp

theorem parseLeapAction_code (a : LeapAction) : parseLeapAction a.code = some a := by cases a <;> rfl

theorem parseOutputMode_code (m : OutputMode) : parseOutputMode m.code = some m := by cases m <;> rfl

/-- The body of a request of a known kind has a length that its kind allows. -/
theorem length_encode_mem_bodyLengths (body : ReqBody) (h : ∀ kind bytes, body ≠ .malformed kind bytes) :
    body.encode.2.length ∈ bodyLengths body.encode.1.toNat := by
  cases body with
  | malformed kind bytes => exact absurd rfl (h kind bytes)
  | stamp seg => cases seg <;> simp [ReqBody.encode, bodyLengths]
  | _ => simp [ReqBody.encode, bodyLengths]

/-- A request read back from its kind and its body. -/
theorem parseRequest_encode (body : ReqBody) (h : ∀ kind bytes, body ≠ .malformed kind bytes) :
    parseRequest body.encode.1 body.encode.2 = body := by
  rw [parseRequest, if_pos (length_encode_mem_bodyLengths body h)]
  cases body with
  | malformed kind bytes => exact absurd rfl (h kind bytes)
  | stamp seg => cases seg <;> rfl
  | setLeap day action =>
    simp [ReqBody.encode, parseAllowed, byteAt_append_of_le, byteAt_cons_zero, parseLeapAction_code,
      fieldAt_beBytes_append, ofNat_toNat_mod]
  | outputSet mode f =>
    simp [ReqBody.encode, parseAllowed, byteAt_cons_zero, byteAt_cons_succ, parseOutputMode_code, fieldAt_cons_succ,
      fieldAt_beBytes_append, fieldAt_append_of_le, fieldAt_beBytes, ofNat_toNat_mod]
  | _ =>
    simp [ReqBody.encode, parseAllowed, byteAt_append_of_le, byteAt_cons_zero, byteAt_cons_succ, fieldAt_cons_succ,
      fieldAt_beBytes_append, fieldAt_append_of_le, fieldAt_beBytes, ofNat_toNat_mod, parseDefinition_encode]

/-- Settles O59: `parseFrame_encode`, and in the frame so read the request by `parseRequest_encode`. -/
theorem requestsReadBackAsTheyWereSent : Obligations.RequestsReadBackAsTheyWereSent := by
  refine ⟨parseFrame_encode, fun tag body h => ?_⟩
  rw [parseFrame_encode, Option.map_some, parseRequest_encode body h]

/-! ## Known frames and item numbers -/

theorem timingItem_number (it : TimingItem) : timingItem it.number = some it := by
  cases it with
  | refProfile r => cases r <;> rfl
  | refPriority r => cases r <;> rfl
  | cableDelay r => cases r <;> rfl
  | _ => rfl

/-- Settles O60: the numbers and the two frames are computed. -/
theorem knownFramesAndItemNumbers : Obligations.KnownFramesAndItemNumbers := by
  refine ⟨by decide +kernel, rfl, rfl, rfl, rfl, rfl, rfl, rfl, rfl, rfl, rfl, rfl, rfl, rfl, rfl, rfl, rfl, rfl, rfl, rfl, rfl, rfl, rfl,
    rfl, rfl, rfl, rfl, rfl, timingItem_number, by decide +kernel,
    by decide +kernel, fun a => ?_⟩
  simp [parseRequest, parseAllowed, bodyLengths, fieldAt, beNat]

end Sys2Proof
end

section
/-! PROOFS. What a command can do to the trail, to the ports' queues and to the capture FIFOs: one relation, closed under the shared
operations, that every command but a device reset is within (R121, R132 to R135, R152, R155, R158). -/

-- One proof after another: proofs elaborated side by side each hold a thread, more of them than the check has memory for.
set_option Elab.async false

namespace Sys2Proof.Machine

open State.differsIn

/-! ## The trail -/

/-- From `t` to `t'` the trail has moved on: a trail in order stays in order, K and W_ix do not go back, no number is used again, and
an entry that stays readable is as it was (R133, R135, R144). -/
def TrailUnit.Moves (t t' : TrailUnit) : Prop :=
  t.Ok → t'.Ok ∧ t.k ≤ t'.k ∧ t.wIx ≤ t'.wIx ∧ (∀ e ∈ t'.entries, e.seq < t.wIx → e ∈ t.entries) ∧
    ∀ e ∈ t.entries, t'.k ≤ e.seq → e ∈ t'.entries

namespace TrailUnit

variable {t u v : TrailUnit}

theorem Moves.trans (h1 : t.Moves u) (h2 : u.Moves v) : t.Moves v := by
  intro h
  obtain ⟨hu, hk1, hw1, hold1, hstay1⟩ := h1 h
  obtain ⟨hv, hk2, hw2, hold2, hstay2⟩ := h2 hu
  exact ⟨hv, hk1.trans hk2, hw1.trans hw2, fun e he hlt => hold1 e (hold2 e he (hlt.trans_le hw1)) hlt,
    fun e he hle => hstay2 e (hstay1 e he (hk2.trans hle)) hle⟩

/-- The numbers and the entries as they were. -/
theorem Moves.of_eq (he : u.entries = t.entries) (hk : u.k = t.k) (hw : u.wIx = t.wIx) (hev : u.evidence = t.evidence)
    (hs : u.prevSummary = t.prevSummary) : t.Moves u := by
  intro h
  refine ⟨?_, hk.ge, hw.ge, fun e hm _ => he ▸ hm, fun e hm _ => he ▸ hm⟩
  unfold Ok at h ⊢
  rwa [he, hk, hw, hev, hs]

theorem Moves.refl (t : TrailUnit) : t.Moves t := .of_eq rfl rfl rfl rfl rfl

/-- The numbers of a trail in order lie from K up to W_ix. -/
theorem Ok.seq_mem {e : TrailEntry} (h : t.Ok) (he : e ∈ t.entries) : t.k ≤ e.seq ∧ e.seq < t.wIx := by
  obtain ⟨hseqs, hkw, -⟩ := h
  have hmem : e.seq ∈ List.range' t.k (t.wIx - t.k) := hseqs ▸ List.mem_map_of_mem he
  rw [List.mem_range'_1] at hmem
  omega

theorem write_moves (b : TrailBody) (w : Writing) : t.Moves (t.write b w) := by
  intro h
  have hwrote := t.write_wrote b w
  obtain ⟨hstore, hw, -⟩ := hwrote
  refine ⟨write_ok h, ?_, by omega, ?_, ?_⟩
  · split at hstore <;> omega
  · intro e he hlt
    have hnew : e ≠ { seq := t.wIx, written := w, body := b } := by rintro rfl; exact absurd hlt (Nat.lt_irrefl _)
    split at hstore <;> rw [hstore.1, List.mem_append, List.mem_singleton] at he
    · exact he.resolve_right hnew
    · exact List.mem_of_mem_tail (he.resolve_right hnew)
  · intro e he hle
    split at hstore <;> obtain ⟨hentries, hk, -⟩ := hstore <;> rw [hentries]
    · exact List.mem_append_left _ he
    · refine List.mem_append_left _ ?_
      obtain ⟨hseqs, -⟩ := h
      cases hes : t.entries with
      | nil => simp [hes] at he
      | cons x xs =>
        rw [hes] at he hseqs
        rcases List.mem_cons.1 he with rfl | hin
        · obtain ⟨n, hn⟩ : ∃ n, t.wIx - t.k = n + 1 := ⟨t.wIx - t.k - 1, by
            have := congrArg List.length hseqs
            simp at this; omega⟩
          rw [hn, List.map_cons, List.range'_succ, List.cons.injEq] at hseqs
          omega
        · exact hin

theorem request_moves (b : TrailBody) (w : Writing) : t.Moves (t.request b w) := by
  unfold request
  split
  · exact .of_eq rfl rfl rfl rfl rfl
  · exact write_moves b w

theorem summarise_moves (p : Option Port) (w : Writing) : t.Moves (t.summarise p w) :=
  (Moves.of_eq (u := { t with counters := .zero, seconds := 0 }) rfl rfl rfl rfl rfl).trans (request_moves _ _)

theorem mark_moves (w : Writing) : t.Moves (t.mark w) := by
  have hcount : t.Moves { t with seconds := bump t.seconds } := .of_eq rfl rfl rfl rfl rfl
  unfold mark
  dsimp only
  split
  · exact hcount.trans (summarise_moves _ _)
  · exact hcount

theorem release_moves {n : Nat} (h1 : t.k ≤ n) (h2 : n ≤ t.wIx) : t.Moves (t.release n) := by
  intro h
  rw [release_eq_filter h n]
  refine ⟨release_eq_filter h n ▸ release_ok h h1 h2, h1, Nat.le_refl _, fun e he _ => (List.mem_filter.1 he).1,
    fun e he hle => List.mem_filter.2 ⟨he, by simpa using hle⟩⟩

end TrailUnit

/-! ## A port's queues -/

/-- The record stands in the response queue, or waits at the head as an answer. -/
def PortCtl.Holds (pc : PortCtl) (r : Record) : Prop := r ∈ pc.responses ∨ ∃ ofDrain, pc.service = .waiting r ofDrain

/-- From `pc` to `pc'` a port has moved on: queues within their places stay so, and a numbered record that it holds it held before, or
its number is one of `num`. -/
structure PortCtl.Moves (num : Nat → Prop) (pc pc' : PortCtl) : Prop where
  bounds : pc.InBounds → pc'.InBounds
  held : ∀ (r : Record) (n : Nat), r.seqNumber = some n → pc'.Holds r → pc.Holds r ∨ num n

namespace PortCtl

variable {num : Nat → Prop} {pc pc' pc'' : PortCtl}

theorem Moves.refl (pc : PortCtl) : Moves num pc pc := ⟨id, fun _ _ _ h => .inl h⟩

theorem Moves.trans (h1 : Moves num pc pc') (h2 : Moves num pc' pc'') : Moves num pc pc'' :=
  ⟨h2.bounds ∘ h1.bounds, fun r n hr h => (h2.held r n hr h).elim (h1.held r n hr) .inr⟩

theorem Moves.mono {num' : Nat → Prop} (h : Moves num pc pc') (hn : ∀ n, num n → num' n) : Moves num' pc pc' :=
  ⟨h.bounds, fun r n hr hh => (h.held r n hr hh).imp_right (hn n)⟩

/-- The response queue as it was, or shorter, and no new answer waiting. -/
theorem Moves.of_shorter (hreq : pc'.requests.length ≤ pc.requests.length) (hresp : pc'.responses.Sublist pc.responses)
    (hsegs : pc'.pendSegs = pc.pendSegs) (hserv : ∀ r b, pc'.service = .waiting r b → pc.service = .waiting r b) :
    Moves num pc pc' :=
  ⟨fun h => h.of_lengths hreq (hresp.length_le.trans h.2.1) hsegs,
    fun _ _ _ h => .inl (h.imp (fun hm => hresp.subset hm) fun ⟨b, hb⟩ => ⟨b, hserv _ _ hb⟩)⟩

/-- A record that joins the response queue, where there is room. -/
theorem Moves.of_enqueue {x : Record} (hroom : pc.hasRoom = true) (hreq : pc'.requests.length ≤ pc.requests.length)
    (hresp : pc'.responses = pc.responses ++ [x]) (hsegs : pc'.pendSegs = pc.pendSegs)
    (hserv : ∀ r b, pc'.service = .waiting r b → pc.service = .waiting r b)
    (hx : ∀ n, x.seqNumber = some n → pc.Holds x ∨ num n) : Moves num pc pc' := by
  refine ⟨fun h => h.of_lengths hreq (hresp ▸ enqueue_length_le hroom x) hsegs, fun r n hr h => ?_⟩
  rcases h with hm | ⟨b, hb⟩
  · rw [hresp, List.mem_append, List.mem_singleton] at hm
    rcases hm with hm | rfl
    · exact .inl (.inl hm)
    · exact hx n hr
  · exact .inl (.inr ⟨b, hserv r b hb⟩)

/-- A new answer that waits. -/
theorem Moves.of_wait {x : Record} {b : Bool} (hx : x.seqNumber = none) : Moves num pc { pc with service := .waiting x b } := by
  refine ⟨id, fun r n hr h => ?_⟩
  rcases h with hm | ⟨_, hb⟩
  · exact .inl (.inl hm)
  · obtain ⟨rfl, -⟩ : x = r ∧ b = _ := by simpa using hb
    simp [hx] at hr

theorem answer_moves {x : Record} (hx : x.seqNumber = none) : Moves num pc (pc.answer x) := by
  unfold answer
  split
  · rename_i hroom
    exact .of_enqueue hroom (by simp [complete, withRequests, enqueue]) rfl rfl (fun _ _ h => nomatch h) (by simp [hx])
  · exact .of_wait hx

theorem answerDrain_moves (tag : Tag) : Moves num pc (pc.answerDrain tag) := by
  unfold answerDrain
  split
  · rename_i hroom
    exact .of_enqueue hroom (by simp [complete, withRequests, enqueue]) rfl rfl (fun _ _ h => nomatch h)
      (by simp [Record.seqNumber])
  · exact .of_wait rfl

theorem notifyStatus_moves (b : StatusBody) : Moves num pc (pc.notifyStatus b) := by
  unfold notifyStatus
  repeat' split
  · exact .refl _
  · rename_i hroom
    exact .of_enqueue (takesNotice_hasRoom hroom) Nat.le.refl rfl rfl (fun _ _ h => h) (by simp [Record.seqNumber])
  · exact .of_shorter Nat.le.refl (List.Sublist.refl _) rfl fun _ _ h => h

theorem notifyPort_moves : Moves num pc pc.notifyPort := by
  unfold notifyPort
  repeat' split
  · exact .refl _
  · rename_i hroom
    exact .of_enqueue (takesNotice_hasRoom hroom) Nat.le.refl rfl rfl (fun _ _ h => h) (by simp [Record.seqNumber])
  · exact .of_shorter Nat.le.refl (List.Sublist.refl _) rfl fun _ _ h => h

theorem notifySegment_moves (n : SegNotice) : Moves num pc (pc.notifySegment n) := by
  refine ⟨fun h => notifySegment_inBounds h n, fun r k hr h => .inl ?_⟩
  unfold notifySegment at h
  repeat' split at h
  · exact h
  · refine h.imp_left fun hm => (List.mem_append.1 hm).resolve_right fun hx => ?_
    obtain rfl := List.mem_singleton.1 hx
    simp [Record.seqNumber] at hr
  · exact h

/-- The slots that find room enter the response queue, those of the segments in their order (R158). -/
theorem drainStatus_moves (body : Nat → StatusBody) : Moves num pc (pc.drainStatus body) := by
  unfold drainStatus
  repeat' split
  · rename_i hroom
    exact .of_enqueue hroom Nat.le.refl rfl rfl (fun _ _ h => h) (by simp [Record.seqNumber])
  · exact .refl _
  · exact .refl _

theorem drainSegs_moves (body : PendingSeg → SegNotice) : Moves num pc (pc.drainSegs body) := by
  refine ⟨fun ⟨hreq, hresp, hslots⟩ => ⟨hreq, ?_, ?_⟩, fun r n hr h => .inl (h.imp_left fun hm => ?_)⟩
  · simp only [drainSegs, freeResponses, List.length_append, List.length_map, List.length_take]
    omega
  · simpa only [SlotsInOrder, drainSegs, List.map_drop] using hslots.sublist (List.drop_sublist _ _)
  · refine (List.mem_append.1 hm).resolve_right fun hx => ?_
    obtain ⟨x, -, rfl⟩ := List.mem_map.1 hx
    simp [Record.seqNumber] at hr

theorem drainPort_moves : Moves num pc pc.drainPort := by
  unfold drainPort
  split
  · rename_i h
    exact .of_enqueue (Bool.and_eq_true_iff.1 h).2 Nat.le.refl rfl rfl (fun _ _ h => h) (by simp [Record.seqNumber])
  · exact .refl _

theorem reset_moves : Moves num pc pc.afterPortReset := by
  refine ⟨fun _ => ⟨Nat.zero_le _, Nat.zero_le _, List.Pairwise.nil⟩, fun r n _ h => ?_⟩
  rcases h with hm | ⟨_, hb⟩
  · exact absurd hm (by simp [afterPortReset, PortCtl.reset])
  · exact absurd hb (by simp [afterPortReset, PortCtl.reset])

theorem elapse_moves (n : Nat) : Moves num pc (pc.elapse n) :=
  .of_shorter Nat.le.refl (List.Sublist.refl _) rfl fun _ _ h => h

end PortCtl

/-! ## The whole state -/

/-- From `s` to `t` the trail and the ports have moved on, and the capture FIFOs are within their places if they were. -/
structure State.Moves (num : Nat → Prop) (s t : State) : Prop where
  trail : s.trail.Moves t.trail
  port : ∀ p : Port, PortCtl.Moves num (s.port p) (t.port p)
  fifo : ∀ l : Line, (s.capture.get l).fifo.length ≤ fifoPlaces → (t.capture.get l).fifo.length ≤ fifoPlaces

namespace State

variable {num : Nat → Prop} {s t u : State}

theorem Moves.refl (s : State) : Moves num s s := ⟨.refl _, fun _ => .refl _, fun _ => id⟩

theorem Moves.trans (h1 : Moves num s t) (h2 : Moves num t u) : Moves num s u :=
  ⟨h1.trail.trans h2.trail, fun p => (h1.port p).trans (h2.port p), fun l => h2.fifo l ∘ h1.fifo l⟩

theorem Moves.mono {num' : Nat → Prop} (h : Moves num s t) (hn : ∀ n, num n → num' n) : Moves num' s t :=
  ⟨h.trail, fun p => (h.port p).mono hn, h.fifo⟩

theorem Moves.of_eq (ht : t.trail = s.trail) (hp : t.ports = s.ports) (hc : t.capture = s.capture) : Moves num s t := by
  refine ⟨ht ▸ .refl _, fun p => ?_, fun l => hc ▸ id⟩
  have : t.port p = s.port p := by rw [State.port, State.port, hp]
  exact this ▸ .refl _

/-- What happens in other blocks. -/
theorem Moves.of_frame {bs : List Block} (h : State.differsIn bs s t) (ht : .trail ∉ bs := by decide)
    (hp : .ports ∉ bs := by decide) (hc : .capture ∉ bs := by decide) : Moves num s t :=
  .of_eq (h _ ht) (h _ hp) (h _ hc)

/-- What happens in other blocks before a move. -/
theorem Moves.after (h : Moves num t u) (ht : t.trail = s.trail := by exact rfl) (hp : t.ports = s.ports := by exact rfl)
    (hc : t.capture = s.capture := by exact rfl) : Moves num s u := (Moves.of_eq ht hp hc).trans h

theorem Moves.ite {c : Prop} [Decidable c] (h1 : c → Moves num s t) (h2 : ¬c → Moves num s u) :
    Moves num s (if c then t else u) := by
  split
  · exact h1 ‹_›
  · exact h2 ‹_›

theorem Moves.foldl {α : Type} {f : State → α → State} (h : ∀ s x, Moves num s (f s x)) :
    ∀ (l : List α) (s : State), Moves num s (l.foldl f s)
  | [], _ => .refl _
  | x :: l, s => (h s x).trans (Moves.foldl h l (f s x))

variable (s)

theorem withTrail_moves {x : TrailUnit} (h : s.trail.Moves x) : Moves num s (s.withTrail x) :=
  ⟨h, fun _ => .refl _, fun _ => id⟩

theorem withPort_moves {p : Port} {pc : PortCtl} (h : PortCtl.Moves num (s.port p) pc) : Moves num s (s.withPort p pc) := by
  refine ⟨.refl _, fun q => ?_, fun _ => id⟩
  by_cases hq : q = p
  · subst hq; rwa [port_withPort_same]
  · rw [port_withPort_ne s p pc hq]; exact .refl _

/-- A port changed outside its queues. -/
theorem withPort_keep_moves {p : Port} {pc : PortCtl} (hreq : pc.requests = (s.port p).requests := by exact rfl)
    (hresp : pc.responses = (s.port p).responses := by exact rfl) (hsegs : pc.pendSegs = (s.port p).pendSegs := by exact rfl)
    (hserv : pc.service = (s.port p).service := by exact rfl) : Moves num s (s.withPort p pc) :=
  s.withPort_moves (.of_shorter (hreq ▸ Nat.le.refl) (hresp ▸ List.Sublist.refl _) hsegs fun _ _ h => hserv ▸ h)

theorem withPorts_moves {x : Bank 8 PortCtl} (h : ∀ p, PortCtl.Moves num (s.port p) (x.get p)) :
    Moves num s (s.withPorts x) := ⟨.refl _, h, fun _ => id⟩

theorem withCapture_moves {x : Bank 8 CaptureLine}
    (h : ∀ l, (s.capture.get l).fifo.length ≤ fifoPlaces → (x.get l).fifo.length ≤ fifoPlaces) :
    Moves num s (s.withCapture x) := ⟨.refl _, fun _ => .refl _, h⟩

/-- One line replaced. -/
theorem withLine_moves {l : Line} {c : CaptureLine}
    (h : (s.capture.get l).fifo.length ≤ fifoPlaces → c.fifo.length ≤ fifoPlaces) :
    Moves num s (s.withCapture (s.capture.set l c)) := by
  refine s.withCapture_moves fun k hk => ?_
  rw [Bank.get_set]
  split
  · subst k; exact h hk
  · exact hk

theorem ask_moves (b) : Moves num s (s.ask b) := s.withTrail_moves (TrailUnit.request_moves _ _)

theorem count_moves (f) : Moves num s (s.count f) := s.withTrail_moves (.of_eq rfl rfl rfl rfl rfl)

theorem answer_moves {p : Port} {r : Record} (h : r.seqNumber = none) : Moves num s (s.answer p r) :=
  s.withPort_moves (PortCtl.answer_moves h)

theorem done_moves (p tag code b) : Moves num s (s.done p tag code b) := s.answer_moves rfl

theorem raiseStatus_moves (c) : Moves num s (s.raiseStatus c) :=
  ⟨.refl _, fun p => by simpa [raiseStatus, port] using PortCtl.notifyStatus_moves _, fun _ => id⟩

theorem reportLeap_moves (e) : Moves num s (s.reportLeap e) := (s.ask_moves _).trans (raiseStatus_moves _ _)

theorem reportTimescale_moves (old c) : Moves num s (s.reportTimescale old c) :=
  (s.ask_moves _).trans (raiseStatus_moves _ _)

/-- A request taken. -/
theorem take_moves {s : State} {p tag body} {serve : State → State} (h : Moves num s (serve s)) : Moves num s (s.take p tag body serve) :=
  .ite (fun _ => h) fun _ => .refl _

theorem takeWith_moves {s : State} {right p tag body} {serve : State → State} (h : Moves num s (serve s)) :
    Moves num s (s.takeWith right p tag body serve) :=
  take_moves (.ite (fun _ => h) fun _ => s.done_moves _ _ _ _)

/-! ### The Leap Unit -/

theorem withdrawLeap_moves (p) : Moves num s (s.withdrawLeap p) :=
  Moves.after (reportLeap_moves _ _)

theorem makePending_moves (l src) : Moves num s (s.makePending l src) := by
  unfold makePending
  split
  · exact s.ask_moves _
  · exact s.ask_moves _
  · exact Moves.after (reportLeap_moves _ _)

theorem agreeLeap_moves (l src) : Moves num s (s.agreeLeap l src) := by
  unfold agreeLeap
  refine .ite (fun _ => .refl _) fun _ => ?_
  have h : Moves num s (match s.leap.pending with | some p => s.withdrawLeap p | none => s) := by
    split
    · exact s.withdrawLeap_moves _
    · exact .refl _
  cases l with
  | none => exact h
  | some l => exact h.trans (makePending_moves _ _ _)

theorem compareLeap_moves : Moves num s s.compareLeap := .ite (fun _ => s.ask_moves _) fun _ => .refl _

theorem correctOffset_moves (n src) : Moves num s (s.correctOffset n src) :=
  .ite (fun _ => .refl _) fun _ =>
    Moves.after (reportLeap_moves _ _)

theorem beginLeap_moves : Moves num s s.beginLeap := by
  unfold beginLeap
  split
  · exact Moves.after (reportLeap_moves _ _)
  · exact .refl _

theorem executeLeap_moves : Moves num s s.executeLeap := by
  unfold executeLeap
  split
  · exact Moves.after (reportLeap_moves _ _)
  · exact .refl _

theorem actOnLeap_moves : Moves num s s.actOnLeap := by
  unfold actOnLeap
  have h : Moves num s (if s.leap.beginDue s.now then s.beginLeap else s) := .ite (fun _ => s.beginLeap_moves) fun _ => .refl _
  exact h.trans (.ite (fun _ => executeLeap_moves _) fun _ => .refl _)

theorem storeLeap_moves (l) : Moves num s (s.storeLeap l) := by
  unfold storeLeap
  refine Moves.after (.ite (fun _ => compareLeap_moves _) fun _ => agreeLeap_moves _ _ _)

theorem setLeap_moves (p tag l) : Moves num s (s.setLeap p tag l) := by
  refine .ite (fun _ => s.done_moves _ _ _ _) fun _ => ?_
  split
  · exact s.done_moves _ _ _ _
  · exact (s.storeLeap_moves _).trans (done_moves _ _ _ _ _)

/-! ### Changes of the timescale state -/

theorem tellLeap_moves (old) : Moves num s (s.tellLeap old) := by
  unfold tellLeap
  split
  · exact .of_eq rfl rfl rfl
  · split
    · exact .ite (fun _ => .refl _) fun _ => s.agreeLeap_moves _ _
    · exact .refl _
  · split
    · exact .ite (fun _ => .refl _) fun _ => s.agreeLeap_moves _ _
    · exact .refl _
  · exact .refl _

theorem enterState_moves (st) : Moves num s (s.enterState st) :=
  Moves.after (tellLeap_moves _ _)

theorem mainLoss_moves : Moves num s s.mainLoss := by
  unfold mainLoss
  dsimp only
  split
  · exact (Moves.after (enterState_moves _ _)).trans
      (reportTimescale_moves _ _ _)
  · exact (Moves.after (enterState_moves _ _)).trans (reportTimescale_moves _ _ _)
  · exact (Moves.after (enterState_moves _ _)).trans (reportTimescale_moves _ _ _)
  · exact .refl _

theorem finishReturn_moves : Moves num s s.finishReturn :=
  .ite (fun _ => (Moves.after (enterState_moves _ _)).trans
    (reportTimescale_moves _ _ _)) fun _ => .refl _

theorem withdrawSteps_moves : Moves num s s.withdrawSteps := by
  refine (Moves.foldl (fun s st => ?_) s.steer.pendingSteps s).trans (.of_eq rfl rfl rfl)
  split
  · exact s.done_moves _ _ _ _
  · exact .refl _

theorem missSegment_moves (i) : Moves num s (s.missSegment i) := by
  unfold missSegment
  dsimp only
  split
  · exact .ite (fun _ => .of_eq rfl rfl rfl) fun _ => .refl _
  · exact .refl _

theorem openStamping_moves : Moves num s s.openStamping := by
  unfold openStamping
  split
  · exact .refl _
  · exact s.withdrawSteps_moves.trans (Moves.after (.foldl (fun s i => missSegment_moves s i) _ _))

theorem expireAcquisition_moves : Moves num s s.expireAcquisition :=
  .ite (fun _ => ((Moves.after (enterState_moves _ _)).trans
    (openStamping_moves _)).trans (reportTimescale_moves _ _ _)) fun _ => .of_eq rfl rfl rfl

/-! ### The port reset -/

theorem emptyFifos_moves (p) : Moves num s (s.emptyFifos p) := by
  refine (s.withCapture_moves fun l hl => ?_).trans (count_moves _ _)
  rw [Bank.get_map]
  split
  · exact Nat.zero_le _
  · exact hl

theorem resetPort_moves (p c) : Moves num s (s.resetPort p c) :=
  ((s.withPort_moves PortCtl.reset_moves).trans (Moves.after (emptyFifos_moves _ _))).trans (ask_moves _ _)

/-! ### Reference Monitors and the second mark -/

theorem changeRef_moves (r n) : Moves num s (s.changeRef r n) :=
  (Moves.after (ask_moves _ _)).trans (raiseStatus_moves _ _)

theorem recordVerdict_moves (r v m) : Moves num s (s.recordVerdict r v m) := by
  unfold recordVerdict
  dsimp only
  have h : Moves num s ((s.withRef r ((s.refs.get r).record v m s.now)).count fun c => c.verdict r v) :=
    Moves.after (count_moves _ _)
  split
  · exact h
  · exact h.trans (changeRef_moves _ _ _)

theorem select_moves : Moves num s s.select :=
  .ite (fun _ => .refl _) fun _ => ((Moves.after (ask_moves _ _)).trans
    (raiseStatus_moves _ _)).trans (.of_eq rfl rfl rfl)

theorem crossCheck_moves (v) : Moves num s (s.crossCheck v) := by
  unfold crossCheck
  split
  · exact .refl _
  · exact .of_eq rfl rfl rfl

theorem markReferences_moves : Moves num s s.markReferences :=
  (Moves.after (select_moves _)).trans (crossCheck_moves _ _)

theorem decideState_moves (ch g) : Moves num s (s.decideState ch g) := by
  unfold decideState
  split
  · unfold decideAcquire
    split
    · exact .of_eq rfl rfl rfl
    · exact .ite (fun _ => .of_eq rfl rfl rfl) fun _ => .ite (fun _ => .of_eq rfl rfl rfl) fun _ =>
        (Moves.after (enterState_moves _ _)).trans (openStamping_moves _)
  · unfold decideLocked
    split
    · exact Moves.after (enterState_moves _ _)
    · split
      · exact .of_eq rfl rfl rfl
      · exact .refl _
  · unfold decideHoldover
    split
    · exact Moves.after (enterState_moves _ _)
    · exact .refl _
  · exact .refl _

theorem markSteer_moves (ch g) : Moves num s (s.markSteer ch g) :=
  (Moves.after (decideState_moves _ ch g)).trans (.of_eq rfl rfl rfl)

theorem reportMark_moves (o t) : Moves num s (s.reportMark o t) :=
  .ite (fun _ => s.reportTimescale_moves _ _) fun _ => .ite (fun _ => s.reportTimescale_moves _ _) fun _ => .refl _

theorem evidenceStage_moves (e) : Moves num s (s.evidenceStage e) := (s.ask_moves _).trans (count_moves _ _)

theorem readMessage_moves (m) : Moves num s (s.readMessage m) := by
  unfold readMessage
  dsimp only
  have h : Moves num s (if s.leapNow = .none ∧ s.leap.pending = none then s.correctOffset m.offset .reference else s) :=
    .ite (fun _ => s.correctOffset_moves _ _) fun _ => .refl _
  exact h.trans (.ite (fun _ => .refl _) fun _ =>
    (Moves.after (agreeLeap_moves _ _ _)).trans (compareLeap_moves _))

theorem leapHandOver_moves (g) : Moves num s (s.leapHandOver g) := by
  unfold leapHandOver
  split
  · split
    · exact .ite (fun _ => s.readMessage_moves _) fun _ => .refl _
    · exact .refl _
  · exact .refl _

theorem trailMark_moves : Moves num s s.trailMark := s.withTrail_moves (TrailUnit.mark_moves _)

theorem steerMark_moves : Moves num s s.steerMark :=
  (((s.markReferences_moves.trans (markSteer_moves _ _ _)).trans (reportMark_moves _ _ _)).trans (evidenceStage_moves _ _)).trans
    (leapHandOver_moves _ _)

/-! ### Captures, segment grants and writes, outputs -/

theorem remap_moves (l q) : Moves num s (s.remap l q) :=
  .ite (fun _ => .refl _) fun _ => (s.withLine_moves fun _ => Nat.zero_le _).trans (count_moves _ _)

theorem setEdges_moves (p l e) : Moves num s (s.setEdges p l e) :=
  .ite (fun _ => .refl _) fun _ =>
    (s.withLine_moves (l := l) (c := { s.capture.get l with edgeSel := e }) id).trans (ask_moves _ _)

theorem setMapping_moves (p l q) : Moves num s (s.setMapping p l q) :=
  .ite (fun _ => .refl _) fun _ => (s.remap_moves _ _).trans (ask_moves _ _)

theorem applyCapture_moves (p l e q) : Moves num s (s.applyCapture p l e q) := by
  have hedges : Moves num s (match e with | .value v => s.setEdges p l v | _ => s) := by
    split
    · exact s.setEdges_moves _ _ _
    · exact .refl _
  unfold applyCapture
  dsimp only
  split
  · exact hedges.trans (setMapping_moves _ _ _ _)
  · exact hedges

theorem notifySubscribers_moves (n) : Moves num s (s.notifySubscribers n) := by
  unfold notifySubscribers
  split
  · refine s.withPorts_moves fun p => ?_
    rw [Bank.get_mapFin]
    split
    · exact PortCtl.notifySegment_moves _
    · exact .refl _
  · exact .refl _

theorem report_moves (i e c r n) : Moves num s (s.report i e c r n) :=
  ((s.ask_moves _).trans (notifySubscribers_moves _ _)).trans (.of_eq rfl rfl rfl)

/-- The grant of the oldest event, a new record of its segment, and the report. -/
theorem grantHead_withSeg_report_moves (i g j b e r x) : Moves num s ((s.grantHead.withSeg i g).report j b e r x) :=
  Moves.after (report_moves _ _ _ _ _ _)

theorem endCycle_moves (i o x d v p c) : Moves num s (s.endCycle i o x d v p c) :=
  Moves.after (report_moves _ _ _ _ _ _)

theorem followCloses_moves : Moves num s s.followCloses := .of_frame s.followCloses_frame

theorem withSeg_commit_followCloses_moves (i g e c) : Moves num s ((s.withSeg i g).commit e c).followCloses :=
  .trans (.of_frame (withSeg_commit_frame s i g e c)) (followCloses_moves _)

theorem applyWrite_moves (i swap p d e) : Moves num s (s.applyWrite i swap p d e) := by
  cases e
  case remove => exact (Moves.after (ask_moves _ _)).trans (followCloses_moves _)
  case refused => exact .refl _
  all_goals exact s.withSeg_commit_followCloses_moves _ _ _ _

theorem setOutput_moves (p tag l o c) : Moves num s (s.setOutput p tag l o c) := by
  unfold setOutput
  dsimp only
  refine Moves.trans ?_ (done_moves _ _ _ _ _)
  exact .ite (fun _ => .of_eq rfl rfl rfl) fun _ => Moves.after (ask_moves _ _)

theorem serveOutput_moves (p tag m f new) : Moves num s (s.serveOutput p tag m f new) := by
  refine takeWith_moves ?_
  split
  · exact s.done_moves _ _ _ _
  · exact s.setOutput_moves _ _ _ _ _

/-! ### Frames received -/

theorem overrun_moves (p) : Moves num s (s.overrun p) := by
  unfold overrun
  dsimp only
  have hcount : Moves num s (s.withPort p { s.port p with overrun := satAdd max16 (s.port p).overrun 1 }) := s.withPort_keep_moves
  exact (hcount.trans (.ite (fun _ => ask_moves _ _) fun _ => .refl _)).trans (withPort_moves _ PortCtl.notifyPort_moves)

theorem offer_moves (p q) : Moves num s (s.offer p q) := by
  refine .ite (fun hlen => s.withPort_moves ⟨fun ⟨_, hresp, hslots⟩ => ⟨?_, hresp, hslots⟩, fun _ _ _ h => .inl h⟩) fun _ =>
    s.overrun_moves _
  simpa [PortCtl.withRequests] using hlen

theorem linkUp_moves (p) : Moves num s (s.linkUp p) :=
  .ite (fun _ => .refl _) fun _ =>
    (s.withPort_keep_moves (pc := { s.port p with up := true, batchNumber := 0 })).trans (ask_moves _ _)

theorem receive_moves (p f) : Moves num s (s.receive p f) := by
  have htimer (t : State) : Moves num t (t.withPort p { t.port p with silence := some silenceCycles }) := t.withPort_keep_moves
  exact ((s.linkUp_moves p).trans (htimer _)).trans (.ite (fun _ => .refl _) fun _ => offer_moves _ _ _)

/-! ### SET_TIMING and the tick -/

theorem acceptItem_moves {p tag item v old} {write : Int → State → State} (h : ∀ x t, Moves num t (write x t)) :
    Moves num s (s.acceptItem p tag item v old write) :=
  ((s.ask_moves _).trans (h _ _)).trans (done_moves _ _ _ _ _)

theorem serveItem_moves {p tag item v old} {write : Int → State → State} (h : ∀ x t, Moves num t (write x t)) :
    Moves num s (s.serveItem p tag item v old write) := takeWith_moves (s.acceptItem_moves h)

theorem writeSettle_moves (n) : Moves num s (s.writeSettle n) := by
  have h := s.writeSettle_frame n
  exact .of_eq (h .trail (by decide)) (h .ports (by decide)) (h .capture (by decide))

theorem writeAcqTimeout_moves (n) : Moves num s (s.writeAcqTimeout n) :=
  Moves.after (.ite (fun _ => expireAcquisition_moves _) fun _ => .refl _)

theorem writeM_moves (n) : Moves num s (s.writeM n) :=
  Moves.after (.ite (fun _ => .refl _) fun _ => reportTimescale_moves _ _ _)

theorem elapse_moves : Moves num s s.elapse :=
  ⟨.refl _, fun p => by simpa [elapse, port] using PortCtl.elapse_moves _, fun _ => id⟩

theorem advance_moves : Moves num s s.advance := s.elapse_moves.trans (.of_eq rfl rfl rfl)

theorem answerStep_moves (o) : Moves num s (s.answerStep o) := by
  unfold answerStep
  split
  · exact s.done_moves _ _ _ _
  · exact .refl _

end State

end Sys2Proof.Machine
end

section
/-! PROOFS. Every command but a device reset moves the trail, the ports and the capture FIFOs on (R121, R133, R135, R152, R155), and a
grant adds the record of the number that it takes (R75, R83). -/

-- One proof after another: proofs elaborated side by side each hold a thread, more of them than the check has memory for.
set_option Elab.async false

namespace Sys2Proof.Machine

namespace State

variable {num : Nat → Prop} {s t : State}

/-- What a command does to `s`, when it completes, moves it on. -/
def Goes (num : Nat → Prop) (s : State) (o : Host.Outcome State Fault Refusal) : Prop := ∀ t, o = .next t → Moves num s t

theorem Goes.next (h : Moves num s t) : Goes num s (.next t) := fun _ h' => by cases h'; exact h

variable (s)

/-! ## Commands that touch neither the trail, the ports nor the lines -/

theorem exec_moves_of_untouched {c : Instr} (ht : Block.trail ∉ Instr.touches c) (hp : Block.ports ∉ Instr.touches c)
    (hc : Block.capture ∉ Instr.touches c) : Goes num s (exec c s) :=
  fun _ h => .of_eq (exec_same h ht) (exec_same h hp) (exec_same h hc)

/-! ## The Tick Unit and the Steering Unit -/

theorem execMainAbsent_moves : Goes num s (execMainAbsent s) :=
  .next (.ite (fun _ => .refl _) fun _ => s.finishReturn_moves.trans (.ite (fun _ => Moves.after (mainLoss_moves _)) fun _ =>
    .of_eq rfl rfl rfl))

theorem execPllLockFallen_moves : Goes num s (execPllLockFallen s) := by
  refine .next ?_
  split
  · exact .of_eq rfl rfl rfl
  · exact s.finishReturn_moves.trans (.ite (fun _ => .of_eq rfl rfl rfl) fun _ =>
      .ite (fun _ => Moves.after (mainLoss_moves _)) fun _ => .of_eq rfl rfl rfl)

theorem execLockWaitExpiry_moves : Goes num s (execLockWaitExpiry s) :=
  .next (.ite (fun _ => .refl _) fun _ => .ite
    (fun _ => (Moves.after (enterState_moves _ _)).trans (reportTimescale_moves _ _ _)) fun _ => .of_eq rfl rfl rfl)

theorem execSecondMark_moves (first : Bool) : Goes num s (execSecondMark first s) := by
  refine .next ?_
  split
  · exact .refl _
  · have hfirst : Moves num s (if first then (s.withXt { s.xt with markDue := none }).trailMark
        else s.withXt { s.xt with markDue := none }) :=
      .ite (fun _ => Moves.after (trailMark_moves _)) fun _ => .of_eq rfl rfl rfl
    exact (hfirst.trans (steerMark_moves _)).trans (.ite (fun _ => .of_eq rfl rfl rfl) fun _ => Moves.after (trailMark_moves _))

theorem stepTo_moves (value : Ns) : Moves num s (s.stepTo value) := s.elapse_moves.trans (.of_eq rfl rfl rfl)

theorem execStepApplied_moves : Goes num s (execStepApplied s) := by
  refine .next ?_
  split
  · exact .refl _
  · rename_i st _
    exact ((s.stepTo_moves st.value).trans (Moves.after (ask_moves _ _))).trans
      ((actOnLeap_moves _).trans (answerStep_moves _ _))

/-! ## Reference Monitors -/

theorem execReferencePulse_moves (r : RefId) : Goes num s (execReferencePulse r s) :=
  .next (.ite (fun _ => Moves.after (changeRef_moves _ _ _)) fun _ => Moves.after (recordVerdict_moves _ _ _ _))

theorem execMissingVerdict_moves (r : RefId) : Goes num s (execMissingVerdict r s) := by
  refine .next ?_
  split
  · exact Moves.after (recordVerdict_moves _ _ _ _)
  · exact .refl _

theorem execAbsenceDeadline_moves (r : RefId) : Goes num s (execAbsenceDeadline r s) :=
  .next (.ite (fun _ => Moves.after (changeRef_moves _ _ _)) fun _ => .refl _)

/-! ## Captures and segment grants -/

theorem execCaptureEdge_moves (l : Line) (k : EdgeKind) : Goes num s (execCaptureEdge l k s) := by
  refine .next (.ite (fun _ => .refl _) fun _ => .ite (fun hkeep => s.withLine_moves fun _ => ?_) fun _ =>
    (s.withLine_moves (c := (s.capture.get l).discard 1) id).trans (count_moves _ _))
  simp only [keepsEdge, Bool.and_eq_true, decide_eq_true_eq] at hkeep
  simpa using hkeep.2

theorem execArmGrant_moves : Goes num s (execArmGrant s) := by
  refine .next ?_
  split
  · exact grantHead_withSeg_report_moves _ _ _ _ _ _ _ _
  · exact .refl _

theorem execReviseGrant_moves : Goes num s (execReviseGrant s) := by
  refine .next ?_
  split
  · exact grantHead_withSeg_report_moves _ _ _ _ _ _ _ _
  · exact .refl _

theorem execDisarmGrant_moves : Goes num s (execDisarmGrant s) := by
  refine .next ?_
  split
  · exact grantHead_withSeg_report_moves _ _ _ _ _ _ _ _
  · exact .refl _

theorem execMissedGrant_moves : Goes num s (execMissedGrant s) := by
  refine .next ?_
  split
  · exact grantHead_withSeg_report_moves _ _ _ _ _ _ _ _
  · exact .refl _

theorem execOpenGrant_moves : Goes num s (execOpenGrant s) := by
  refine .next ?_
  split
  · exact grantHead_withSeg_report_moves _ _ _ _ _ _ _ _
  · exact .refl _

theorem execCallGrant_moves : Goes num s (execCallGrant s) := by
  refine .next ?_
  split
  · exact grantHead_withSeg_report_moves _ _ _ _ _ _ _ _
  · exact .refl _

theorem execDrawGrant_moves : Goes num s (execDrawGrant s) := by
  refine .next ?_
  split
  · exact Moves.after (report_moves _ _ _ _ _ _)
  · exact .refl _

theorem execEndGrant_moves : Goes num s (execEndGrant s) := by
  refine .next ?_
  split
  · exact .ite (fun _ => Moves.trans (Moves.after (endCycle_moves _ _ _ _ _ _ _ _)) (.of_eq rfl rfl rfl)) fun _ =>
      grantHead_withSeg_report_moves _ _ _ _ _ _ _ _
  · exact .refl _

theorem execExtendGrant_moves : Goes num s (execExtendGrant s) := by
  refine .next ?_
  split
  · exact grantHead_withSeg_report_moves _ _ _ _ _ _ _ _
  · exact .refl _

theorem execReleaseGrant_moves : Goes num s (execReleaseGrant s) := by
  refine .next ?_
  split
  · exact Moves.after (endCycle_moves _ _ _ _ _ _ _ _)
  · exact .refl _

theorem execHaltGrant_moves : Goes num s (execHaltGrant s) := by
  refine .next ?_
  split
  · exact Moves.after (endCycle_moves _ _ _ _ _ _ _ _)
  · exact .refl _

/-! ## Port Controllers -/

theorem execClientFrame_moves (p : Port) (bytes : List Byte) : Goes num s (execClientFrame p bytes s) := by
  refine .next ?_
  split
  · exact s.count_moves _
  · exact .ite (fun _ => .ite (fun _ => s.resetPort_moves _ _) fun _ => .refl _) fun _ => s.receive_moves _ _

theorem execIdleFrame_moves (p : Port) : Goes num s (execIdleFrame p s) :=
  .next (.ite (fun _ => s.withPort_keep_moves) fun _ => .refl _)

theorem execBatchFrame_moves (p : Port) : Goes num s (execBatchFrame p s) :=
  .next (.ite (fun _ => s.withPort_keep_moves) fun _ => .refl _)

theorem execBatchFrameSent_moves (p : Port) : Goes num s (execBatchFrameSent p s) := by
  refine .next (.ite (fun _ => s.withPort_moves (.of_shorter Nat.le.refl (List.drop_sublist _ _) rfl fun r b h => ?_))
    fun _ => .refl _)
  revert h
  cases hserv : (s.port p).service <;> simp [Service.sent]

theorem execWaitingAnswer_moves (p : Port) : Goes num s (execWaitingAnswer p s) := by
  refine .next ?_
  dsimp only
  split
  · rename_i r ofDrain hserv
    refine .ite (fun hroom => s.withPort_moves ?_) fun _ => .refl _
    have henter : PortCtl.Moves num (s.port p) (((s.port p).enqueue r).complete) :=
      .of_enqueue hroom (by simp [PortCtl.complete, PortCtl.withRequests, PortCtl.enqueue]) rfl rfl (fun _ _ h => nomatch h)
        fun _ _ => .inl (.inr ⟨_, hserv⟩)
    split
    · exact henter.trans (.of_shorter Nat.le.refl (List.Sublist.refl _) rfl fun _ _ h => h)
    · exact henter
  · exact .refl _

theorem execPendingNoticeDrain_moves (p : Port) : Goes num s (execPendingNoticeDrain p s) :=
  .next (.ite (fun _ => s.withPort_moves (((PortCtl.drainStatus_moves _).trans (PortCtl.drainSegs_moves _)).trans
    PortCtl.drainPort_moves)) fun _ => .refl _)

theorem execDrainComplete_moves (p : Port) : Goes num s (execDrainComplete p s) := by
  refine .next ?_
  split
  · exact s.withPort_moves (PortCtl.answerDrain_moves _)
  · exact .refl _

/-! ## Requests -/

/-- The head of a port's queue under service, but for an answer that waits. -/
theorem withPort_service_moves {p : Port} {x : Service} (hx : ∀ r b, x ≠ .waiting r b) :
    Moves num s (s.withPort p { s.port p with service := x }) :=
  s.withPort_moves (.of_shorter Nat.le.refl (List.Sublist.refl _) rfl fun r b h => absurd h (hx r b))

theorem execStamp_moves (p : Port) (tag : Tag) (seg : Option Byte) : Goes num s (execStamp p tag seg s) := by
  have hpresent (g : Option SegId) : Moves num s
      (if s.steer.stampingOpen then s.withPort p { s.port p with service := .stamping tag g }
        else s.done p tag .notReady false) :=
    .ite (fun _ => s.withPort_service_moves (by simp)) fun _ => s.done_moves _ _ _ _
  refine .next (takeWith_moves ?_)
  dsimp only
  split
  · exact hpresent none
  · split
    · exact s.done_moves _ _ _ _
    · exact hpresent _

theorem execSetTime_moves (p : Port) (tag : Tag) (sec : BitVec 64) : Goes num s (execSetTime p tag sec s) :=
  .next (takeWith_moves (.ite (fun _ => s.done_moves _ _ _ _) fun _ => .ite (fun _ => s.done_moves _ _ _ _) fun _ =>
    Moves.after (withPort_service_moves _ (by simp))))

theorem execReadEvidence_moves (p : Port) (tag : Tag) : Goes num s (execReadEvidence p tag s) :=
  .next (takeWith_moves (Moves.after (answer_moves _ rfl)))

theorem execSetLeapWithdraw_moves (p : Port) (tag : Tag) (day : BitVec 32) : Goes num s (execSetLeapWithdraw p tag day s) :=
  .next (takeWith_moves (.ite (fun _ => s.done_moves _ _ _ _) fun _ => (s.storeLeap_moves _).trans (done_moves _ _ _ _ _)))

theorem execProfileWrite_moves (p : Port) (tag : Tag) (k m : Byte) (ext : BitVec 16) (w : BitVec 32) :
    Goes num s (execProfileWrite p tag k m ext w s) := by
  refine .next (takeWith_moves ?_)
  split
  · exact s.done_moves _ _ _ _
  · exact .ite (fun _ => s.done_moves _ _ _ _) fun _ => (Moves.after (ask_moves _ _)).trans (done_moves _ _ _ _ _)

theorem execSegmentWrite_moves (p : Port) (tag : Tag) (seg k : Byte) (d : Definition) :
    Goes num s (execSegmentWrite p tag seg k d s) := by
  refine .next (takeWith_moves ?_)
  split
  · exact (s.applyWrite_moves _ _ _ _ _).trans (done_moves _ _ _ _ _)
  · exact s.done_moves _ _ _ _

theorem execSegmentSwap_moves (p : Port) (tag : Tag) (seg k : Byte) (d : Definition) :
    Goes num s (execSegmentSwap p tag seg k d s) := by
  refine .next (takeWith_moves ?_)
  split
  · split
    · exact s.done_moves _ _ _ _
    · exact (s.applyWrite_moves _ _ _ _ _).trans (answer_moves _ rfl)
  · exact s.done_moves _ _ _ _

theorem execSegmentRead_moves (p : Port) (tag : Tag) (seg : Byte) : Goes num s (execSegmentRead p tag seg s) := by
  refine .next (takeWith_moves ?_)
  split
  · exact s.done_moves _ _ _ _
  · exact s.answer_moves rfl

/-- A request event committed, and the answer (R94). -/
theorem commit_done_moves (e : SegEvent) (c : Committed) (p : Port) (tag : Tag) (code : ResultCode) (b : Bool) :
    Moves num s ((s.commit e c).done p tag code b) := Moves.after (done_moves _ _ _ _ _)

theorem execExtend_moves (p : Port) (tag : Tag) (seg : Byte) : Goes num s (execExtend p tag seg s) := by
  refine .next (takeWith_moves ?_)
  repeat' split
  · exact s.done_moves _ _ _ _
  · exact s.done_moves _ _ _ _
  · exact s.commit_done_moves _ _ _ _ _ _

theorem execRelease_moves (p : Port) (tag : Tag) (seg : Byte) : Goes num s (execRelease p tag seg s) := by
  refine .next (takeWith_moves ?_)
  repeat' split
  · exact s.done_moves _ _ _ _
  · exact s.done_moves _ _ _ _
  · exact s.commit_done_moves _ _ _ _ _ _

theorem execHalt_moves (p : Port) (tag : Tag) (seg : Byte) : Goes num s (execHalt p tag seg s) := by
  refine .next (takeWith_moves ?_)
  repeat' split
  · exact s.done_moves _ _ _ _
  · exact s.done_moves _ _ _ _
  · exact s.commit_done_moves _ _ _ _ _ _

theorem execCaptureSet_moves (p : Port) (tag : Tag) (line edge port : Byte) :
    Goes num s (execCaptureSet p tag line edge port s) := by
  refine .next (take_moves ?_)
  split
  · exact s.done_moves _ _ _ _
  · exact (s.applyCapture_moves _ _ _ _).trans (done_moves _ _ _ _ _)
  · exact s.done_moves _ _ _ _

theorem execOutputSetAtInstant_moves (p : Port) (tag : Tag) (f : OutputFields) :
    Goes num s (execOutputSetAtInstant p tag f s) := by
  refine .next ?_
  split
  · exact takeWith_moves (s.done_moves _ _ _ _)
  · exact s.serveOutput_moves _ _ _ _ _

theorem execTrailRead_moves (p : Port) (tag : Tag) (start : BitVec 64) (n : Byte) :
    Goes num s (execTrailRead p tag start n s) :=
  .next (takeWith_moves (.ite (fun _ => s.done_moves _ _ _ _) fun _ => .ite (fun _ => s.done_moves _ _ _ _) fun _ =>
    s.answer_moves rfl))

/-- The entries below an index between K and W_ix released (R144). -/
theorem release_moves {n : Nat} (h1 : s.trail.k ≤ n) (h2 : n ≤ s.trail.wIx) : Moves num s (s.withTrail (s.trail.release n)) :=
  s.withTrail_moves (TrailUnit.release_moves h1 h2)

theorem release_wIx_moves : Moves num s (s.withTrail (s.trail.release s.trail.wIx)) :=
  s.withTrail_moves fun h => TrailUnit.release_moves h.2.1 Nat.le.refl h

theorem execTrailAck_moves (p : Port) (tag : Tag) (n : BitVec 64) : Goes num s (execTrailAck p tag n s) :=
  .next (takeWith_moves (.ite (fun _ => s.done_moves _ _ _ _) fun hk => .ite
    (fun _ => s.release_wIx_moves.trans (done_moves _ _ _ _ _)) fun hw =>
      (s.release_moves (Nat.le_of_not_lt hk) (Nat.le_of_not_lt hw)).trans (done_moves _ _ _ _ _)))

theorem execSummaryNow_moves (p : Port) (tag : Tag) : Goes num s (execSummaryNow p tag s) :=
  .next (takeWith_moves ((s.withTrail_moves (TrailUnit.summarise_moves _ _)).trans (done_moves _ _ _ _ _)))

theorem execSubscribe_moves (p : Port) (tag : Tag) (b : Byte) (n : BitVec 16) : Goes num s (execSubscribe p tag b n s) := by
  refine .next (takeWith_moves ?_)
  split
  · exact s.done_moves _ _ _ _
  · exact s.withPort_keep_moves.trans (done_moves _ _ _ _ _)

theorem execDrain_moves (p : Port) (tag : Tag) : Goes num s (execDrain p tag s) := by
  refine .next (take_moves ?_)
  dsimp only
  split
  · exact s.withPort_moves (PortCtl.answerDrain_moves _)
  · exact s.withPort_service_moves (by simp)

theorem execSetTimingUtcOffset_moves (p : Port) (tag : Tag) (v : BitVec 64) :
    Goes num s (execSetTimingUtcOffset p tag v s) := by
  refine .next (takeWith_moves ?_)
  split
  · exact s.done_moves _ _ _ _
  · exact s.acceptItem_moves fun x t => (t.correctOffset_moves _ _).trans (actOnLeap_moves _)

/-- A SET_TIMING that writes outside the trail, the ports and the lines. -/
theorem serveItem_moves_of_eq {p tag item v old} {write : Int → State → State}
    (h : ∀ x t, (write x t).trail = t.trail ∧ (write x t).ports = t.ports ∧ (write x t).capture = t.capture) :
    Goes num s (.next (s.serveItem p tag item v old write)) :=
  .next (s.serveItem_moves fun x t => .of_eq (h x t).1 (h x t).2.1 (h x t).2.2)

/-- A SET_TIMING of the Trail Unit, outside its entries and numbers (R141). -/
theorem serveItem_moves_of_trail {p tag item v old} {write : Int → TrailUnit → TrailUnit}
    (h : ∀ x t, (write x t).entries = t.entries ∧ (write x t).k = t.k ∧ (write x t).wIx = t.wIx ∧
      (write x t).evidence = t.evidence ∧ (write x t).prevSummary = t.prevSummary) :
    Goes num s (.next (s.serveItem p tag item v old fun x t => t.withTrail (write x t.trail))) :=
  .next (s.serveItem_moves fun x t => t.withTrail_moves
    (.of_eq (h x _).1 (h x _).2.1 (h x _).2.2.1 (h x _).2.2.2.1 (h x _).2.2.2.2))

/-! ## Every command -/

/-- Every command but a device reset and the grants of stamps and captures moves the state on without a new numbered record. -/
theorem exec_moves {c : Instr} (hreset : ∀ a b d, c ≠ .deviceReset a b d) (hstamp : ∀ p, c ≠ .stampGrant p)
    (hcap : ∀ l, c ≠ .captureGrant l) : Goes num s (exec c s) := by
  cases c with
  | deviceReset => exact absurd rfl (hreset _ _ _)
  | stampGrant => exact absurd rfl (hstamp _)
  | captureGrant => exact absurd rfl (hcap _)
  | mainAbsent => exact s.execMainAbsent_moves
  | pllLockFallen => exact s.execPllLockFallen_moves
  | lockWaitExpiry => exact s.execLockWaitExpiry_moves
  | mainReturn => exact .next s.finishReturn_moves
  | secondMark first => exact s.execSecondMark_moves first
  | stepApplied => exact s.execStepApplied_moves
  | acqTimeout => exact .next (.ite (fun _ => s.expireAcquisition_moves) fun _ => .refl _)
  | referencePulse r => exact s.execReferencePulse_moves r
  | missingVerdict r => exact s.execMissingVerdict_moves r
  | absenceDeadline r => exact s.execAbsenceDeadline_moves r
  | leapBegin => exact .next (.ite (fun _ => s.beginLeap_moves) fun _ => .refl _)
  | leapExecuted => exact .next (.ite (fun _ => s.executeLeap_moves) fun _ => .refl _)
  | captureEdge l k => exact s.execCaptureEdge_moves l k
  | armGrant => exact s.execArmGrant_moves
  | reviseGrant => exact s.execReviseGrant_moves
  | disarmGrant => exact s.execDisarmGrant_moves
  | missedGrant => exact s.execMissedGrant_moves
  | openGrant => exact s.execOpenGrant_moves
  | callGrant => exact s.execCallGrant_moves
  | drawGrant => exact s.execDrawGrant_moves
  | endGrant => exact s.execEndGrant_moves
  | extendGrant => exact s.execExtendGrant_moves
  | releaseGrant => exact s.execReleaseGrant_moves
  | haltGrant => exact s.execHaltGrant_moves
  | clientFrame p bytes => exact s.execClientFrame_moves p bytes
  | frameAbandoned p => exact .next (s.count_moves _)
  | linkTimeout p => exact .next (.ite (fun _ => s.resetPort_moves _ _) fun _ => .refl _)
  | idleFrame p => exact s.execIdleFrame_moves p
  | batchFrame p => exact s.execBatchFrame_moves p
  | batchFrameSent p => exact s.execBatchFrameSent_moves p
  | waitingAnswer p => exact s.execWaitingAnswer_moves p
  | pendingNoticeDrain p => exact s.execPendingNoticeDrain_moves p
  | drainComplete p => exact s.execDrainComplete_moves p
  | stamp p tag seg => exact s.execStamp_moves p tag seg
  | readTime p tag => exact .next (takeWith_moves (s.answer_moves rfl))
  | readEvidence p tag => exact s.execReadEvidence_moves p tag
  | setTime p tag sec => exact s.execSetTime_moves p tag sec
  | setLeapInsert => exact .next (takeWith_moves (s.setLeap_moves _ _ _))
  | setLeapDelete => exact .next (takeWith_moves (s.setLeap_moves _ _ _))
  | setLeapWithdraw p tag day => exact s.execSetLeapWithdraw_moves p tag day
  | profileWrite p tag k m ext w => exact s.execProfileWrite_moves p tag k m ext w
  | segmentWrite p tag seg k d => exact s.execSegmentWrite_moves p tag seg k d
  | segmentSwap p tag seg k d => exact s.execSegmentSwap_moves p tag seg k d
  | segmentRead p tag seg => exact s.execSegmentRead_moves p tag seg
  | extend p tag seg => exact s.execExtend_moves p tag seg
  | release p tag seg => exact s.execRelease_moves p tag seg
  | halt p tag seg => exact s.execHalt_moves p tag seg
  | captureSet p tag line edge port => exact s.execCaptureSet_moves p tag line edge port
  | outputSetOff => exact .next (s.serveOutput_moves _ _ _ _ _)
  | outputSetSecondPulse => exact .next (s.serveOutput_moves _ _ _ _ _)
  | outputSetCloseFollow => exact .next (s.serveOutput_moves _ _ _ _ _)
  | outputSetAtInstant p tag f => exact s.execOutputSetAtInstant_moves p tag f
  | trailRead p tag start n => exact s.execTrailRead_moves p tag start n
  | trailAck p tag n => exact s.execTrailAck_moves p tag n
  | summaryNow p tag => exact s.execSummaryNow_moves p tag
  | subscribe p tag b n => exact s.execSubscribe_moves p tag b n
  | drain p tag => exact s.execDrain_moves p tag
  | malformedRequest => exact .next (take_moves (s.done_moves _ _ _ _))
  | setTimingUnknownItem => exact .next (takeWith_moves (s.done_moves _ _ _ _))
  | setTimingSettlePeriod => exact .next (s.serveItem_moves fun x t => t.writeSettle_moves _)
  | setTimingAcquisitionTimeout => exact .next (s.serveItem_moves fun x t => t.writeAcqTimeout_moves _)
  | setTimingM => exact .next (s.serveItem_moves fun x t => t.writeM_moves _)
  | setTimingUtcOffset p tag v => exact s.execSetTimingUtcOffset_moves p tag v
  | setTimingSummaryInterval => exact s.serveItem_moves_of_trail (write := fun x t => { t with interval := x.toNat }) fun _ _ =>
      ⟨rfl, rfl, rfl, rfl, rfl⟩
  | setTimingSummaryMode => exact s.serveItem_moves_of_trail (write := fun x t => { t with mode := summaryModeOf x }) fun _ _ =>
      ⟨rfl, rfl, rfl, rfl, rfl⟩
  | setTimingRefProfile | setTimingRefPriority | setTimingCableDelay | setTimingPWin | setTimingMinimumQuality | setTimingD
  | setTimingRevertiveMode | setTimingKp | setTimingKi | setTimingL | setTimingH | setTimingHRing | setTimingWLock
  | setTimingUFixed | setTimingUManual => exact s.serveItem_moves_of_eq fun _ _ => ⟨rfl, rfl, rfl⟩
  | mainPresent | pllLockRaised | settleComplete | timeOfDayMessage | messageFramingError | openInstantDue | callInstantDue
  | armedCloseDue | drawnCloseDue | pulseEnd | atInstantFire =>
    exact s.exec_moves_of_untouched (by simp [Instr.touches]) (by simp [Instr.touches]) (by simp [Instr.touches])

end State

end Sys2Proof.Machine
end

section
/-! PROOFS. What is due, and what the arbiter grants: the model's tests and the spec's conditions agree (R77 to R82, R95). -/

-- One proof after another: proofs elaborated side by side each hold a thread, more of them than the check has memory for.
set_option Elab.async false

namespace Sys2Proof

open Machine

/-! ## The instants of the segments (R95) -/

theorem ofRequest_eq_false_iff {k : SegEventKind} :
    k.ofRequest = false ↔ k = .opening ∨ k = .call ∨ k = .draw ∨ k = .ending ∨ ∃ day x, k = .missed day x := by
  cases k <;> simp [SegEventKind.ofRequest]

theorem requestWaits_eq_false_iff {s : State} {i : SegId} : s.requestWaits i = false ↔ noRequestWaits s i := by
  simp only [State.requestWaits, Bool.or_eq_false_iff, decide_eq_false_iff_not, List.any_eq_false, noRequestWaits,
    Bool.and_eq_true, beq_iff_eq, not_and, Bool.not_eq_true, ofRequest_eq_false_iff, ne_eq]

theorem instant_due_iff {i : Instant} {now : Ns} : i.due now = true ↔ i.xt ≤ now ∧ i.taken = false := by
  simp [Instant.due]

theorem openDue_iff {s : State} {i : SegId} : s.openDue i = true ↔ takesInstants s i ∧ openReached s i := by
  cases ha : (s.segs.get i).armed <;>
    simp [State.openDue, takesInstants, openReached, ha, requestWaits_eq_false_iff, instant_due_iff, and_assoc]

theorem callDue_iff {s : State} {i : SegId} : s.callDue i = true ↔ takesInstants s i ∧ callReached s i := by
  cases ha : (s.segs.get i).armed <;>
    simp [State.callDue, takesInstants, callReached, ha, requestWaits_eq_false_iff, instant_due_iff, and_assoc]

theorem closeDue_iff {s : State} {i : SegId} : s.closeDue i = true ↔ takesInstants s i ∧ closeReached s i := by
  cases ha : (s.segs.get i).armed <;>
    simp [State.closeDue, takesInstants, closeReached, ha, requestWaits_eq_false_iff, instant_due_iff, and_assoc]

theorem drawnDue_iff {s : State} {i : SegId} : s.drawnDue i = true ↔ takesInstants s i ∧ drawnReached s i := by
  cases hd : (s.segs.get i).drawn <;>
    simp [State.drawnDue, takesInstants, drawnReached, hd, requestWaits_eq_false_iff, and_assoc]

theorem instantDue_iff {s : State} : s.instantDue = true ↔ someInstantDue s := by
  simp only [State.instantDue, List.any_eq_true, List.mem_finRange, true_and, Bool.or_eq_true, openDue_iff, callDue_iff,
    closeDue_iff, drawnDue_iff, someInstantDue, ← and_or_left, or_assoc]

theorem instantDue_eq_false_iff {s : State} : s.instantDue = false ↔ ¬ someInstantDue s := by
  rw [← instantDue_iff, Bool.not_eq_true]

/-! ## The arbiter's choice (R79 to R82) -/

/-- The number at place `d` of a round-robin search. -/
theorem mem_roundFrom (ptr n : Fin 8) : n ∈ roundFrom ptr := by
  revert ptr n; decide

/-- The round-robin search goes from near to far. -/
theorem roundFrom_pairwise (ptr : Fin 8) :
    (roundFrom ptr).Pairwise fun a b => searchDistance ptr a < searchDistance ptr b := by
  revert ptr; decide

/-- The first number from the pointer up is the nearest that satisfies the test. -/
theorem firstFrom_eq_some_iff {ptr n : Fin 8} {ok : Fin 8 → Bool} :
    firstFrom ptr ok = some n ↔ ok n = true ∧ ∀ k, ok k = true → searchDistance ptr n ≤ searchDistance ptr k := by
  have hnear {l : List (Fin 8)} (hl : l.Pairwise fun a b => searchDistance ptr a < searchDistance ptr b) :
      l.find? ok = some n ↔ n ∈ l ∧ ok n = true ∧ ∀ k ∈ l, ok k = true → searchDistance ptr n ≤ searchDistance ptr k := by
    induction l with
    | nil => simp
    | cons a l ih =>
      obtain ⟨ha, hl⟩ := List.pairwise_cons.1 hl
      by_cases hok : ok a = true
      · rw [List.find?_cons_of_pos hok, Option.some.injEq]
        constructor
        · rintro rfl
          refine ⟨List.mem_cons_self, hok, fun k hk _ => ?_⟩
          rcases List.mem_cons.1 hk with rfl | hk
          · exact Nat.le_refl _
          · exact (ha k hk).le
        · rintro ⟨hn, -, hmin⟩
          rcases List.mem_cons.1 hn with rfl | hn
          · rfl
          · exact absurd (hmin a List.mem_cons_self hok) (Nat.not_le.2 (ha n hn))
      · rw [List.find?_cons_of_neg hok, ih hl]
        constructor
        · rintro ⟨hn, hokn, hmin⟩
          refine ⟨List.mem_cons_of_mem _ hn, hokn, fun k hk hokk => ?_⟩
          rcases List.mem_cons.1 hk with rfl | hk
          · exact absurd hokk hok
          · exact hmin k hk hokk
        · rintro ⟨hn, hokn, hmin⟩
          refine ⟨(List.mem_cons.1 hn).resolve_left ?_, hokn, fun k hk => hmin k (List.mem_cons_of_mem _ hk)⟩
          rintro rfl
          exact hok hokn
  simp [firstFrom, hnear (roundFrom_pairwise ptr), mem_roundFrom]

theorem firstFrom_eq_none_iff {ptr : Fin 8} {ok : Fin 8 → Bool} : firstFrom ptr ok = none ↔ ∀ k, ok k = false := by
  simp [firstFrom, mem_roundFrom]

theorem captureEligible_iff {s : State} {l : Line} : s.captureEligible l = true ↔ captureReady s l := by
  simp [State.captureEligible, captureReady, PortCtl.hasRoom_iff, and_assoc]

theorem stamping_iff {pc : PortCtl} : pc.stamping = true ↔ ∃ tag seg, pc.service = .stamping tag seg := by
  unfold PortCtl.stamping
  split <;> simp_all

theorem stampEligible_iff {s : State} {p : Port} : s.stampEligible p = true ↔ stampReady s p := by
  simp [State.stampEligible, stampReady, PortCtl.hasRoom_iff, stamping_iff, and_assoc]

theorem high_eq_highClass (r : Role) : r.high = highClass r := by cases r <;> rfl

theorem stampFrom_eq_some_iff {s : State} {high : Bool} {ptr p : Port} :
    s.stampFrom high ptr = some p ↔ (highClass (s.port p).role = high ∧ stampReady s p) ∧
      ∀ q : Port, highClass (s.port q).role = high → stampReady s q → searchDistance ptr p ≤ searchDistance ptr q := by
  simp [State.stampFrom, firstFrom_eq_some_iff, stampEligible_iff, high_eq_highClass]

theorem stampFrom_eq_none_iff {s : State} {high : Bool} {ptr : Port} :
    s.stampFrom high ptr = none ↔ ∀ q : Port, highClass (s.port q).role = high → ¬ stampReady s q := by
  simp only [State.stampFrom, firstFrom_eq_none_iff, Bool.and_eq_false_imp, beq_iff_eq, high_eq_highClass,
    ← stampEligible_iff, Bool.not_eq_true]

/-- Nothing is granted while stamping is closed, or for a second time at one tick (R78, R79). -/
theorem arbiterChoice_of_closed {s : State} (h : ¬ (s.steer.stampingOpen = true ∧ s.arb.grantedThisTick = false)) :
    s.arbiterChoice = none := by
  rw [State.arbiterChoice, if_pos]
  simp only [not_and, Bool.not_eq_false] at h
  cases hopen : s.steer.stampingOpen <;> simp [h, hopen]

/-- The classes behind the segment events, on the turn on which none of them is presented (R80 to R82). -/
theorem arbiterChoice_of_noSegmentTurn {s : State} (h : noSegmentTurn s) :
    s.arbiterChoice =
      match firstFrom s.arb.capturePtr s.captureEligible with
      | some l => some (.capture l)
      | none =>
        match s.stampFrom true s.arb.highPtr with
        | some p => some (.stamp p)
        | none => (s.stampFrom false s.arb.normalPtr).map .stamp := by
  obtain ⟨hopen, hfirst, hcommits, hinst⟩ := h
  simp only [State.arbiterChoice, hopen, hfirst, hcommits, instantDue_eq_false_iff.2 hinst]
  rfl

/-- A capture or a stamp is chosen only on such a turn. -/
theorem noSegmentTurn_of_arbiterChoice {s : State} {x : Grantee} (h : s.arbiterChoice = some x) (hx : x ≠ .segment) :
    noSegmentTurn s := by
  by_cases hopen : s.steer.stampingOpen = true ∧ s.arb.grantedThisTick = false
  · unfold State.arbiterChoice at h
    rw [if_neg (by simp [hopen])] at h
    split at h
    · exact absurd (Option.some.inj h).symm hx
    · rename_i hcommits
      split at h
      · cases h
      · rename_i hinst
        exact ⟨hopen.1, hopen.2, by simpa using hcommits, by simpa [instantDue_iff] using hinst⟩
  · rw [arbiterChoice_of_closed hopen] at h
    cases h

theorem arbiterChoice_capture_iff {s : State} {l : Line} : s.arbiterChoice = some (.capture l) ↔ captureTurn s l := by
  have hiff : noSegmentTurn s → (s.arbiterChoice = some (.capture l) ↔
      captureReady s l ∧ ∀ k : Line, captureReady s k → searchDistance s.arb.capturePtr l ≤ searchDistance s.arb.capturePtr k) := by
    intro hturn
    simp only [← captureEligible_iff, ← firstFrom_eq_some_iff]
    rw [arbiterChoice_of_noSegmentTurn hturn]
    cases firstFrom s.arb.capturePtr s.captureEligible <;> cases s.stampFrom true s.arb.highPtr <;> simp
  exact ⟨fun h => have hturn := noSegmentTurn_of_arbiterChoice h (by simp); ⟨hturn, (hiff hturn).1 h⟩, fun h => (hiff h.1).2 h.2⟩

theorem arbiterChoice_stamp_iff {s : State} {p : Port} : s.arbiterChoice = some (.stamp p) ↔ stampTurn s p := by
  have hiff : noSegmentTurn s → (s.arbiterChoice = some (.stamp p) ↔ (∀ l, ¬ captureReady s l) ∧
      (s.stampFrom true s.arb.highPtr = some p ∨
        s.stampFrom true s.arb.highPtr = none ∧ s.stampFrom false s.arb.normalPtr = some p)) := by
    intro hturn
    simp only [← captureEligible_iff, Bool.not_eq_true, ← firstFrom_eq_none_iff (ptr := s.arb.capturePtr)]
    rw [arbiterChoice_of_noSegmentTurn hturn]
    cases firstFrom s.arb.capturePtr s.captureEligible <;> cases s.stampFrom true s.arb.highPtr <;> simp
  have hclass : (s.stampFrom true s.arb.highPtr = some p ∨
      s.stampFrom true s.arb.highPtr = none ∧ s.stampFrom false s.arb.normalPtr = some p) ↔
      stampReady s p ∧ (highClass (s.port p).role = false → ∀ q, highClass (s.port q).role = true → ¬ stampReady s q) ∧
        ∀ q, highClass (s.port q).role = highClass (s.port p).role → stampReady s q →
          searchDistance (if highClass (s.port p).role then s.arb.highPtr else s.arb.normalPtr) p ≤
            searchDistance (if highClass (s.port p).role then s.arb.highPtr else s.arb.normalPtr) q := by
    cases hp : highClass (s.port p).role
    · simp only [stampFrom_eq_some_iff, stampFrom_eq_none_iff, hp]; simp; tauto
    · simp only [stampFrom_eq_some_iff, stampFrom_eq_none_iff, hp]; simp
  rw [stampTurn]
  exact ⟨fun h => have hturn := noSegmentTurn_of_arbiterChoice h (by simp)
      ⟨hturn, ((hiff hturn).1 h).1, hclass.1 ((hiff hturn).1 h).2⟩,
    fun ⟨hturn, hcap, hrest⟩ => (hiff hturn).2 ⟨hcap, hclass.2 hrest⟩⟩

theorem arbiterChoice_segment_iff {s : State} : s.arbiterChoice = some .segment ↔
    s.steer.stampingOpen = true ∧ s.arb.grantedThisTick = false ∧ s.commits ≠ [] := by
  by_cases hopen : s.steer.stampingOpen = true ∧ s.arb.grantedThisTick = false
  · constructor
    · intro h
      refine ⟨hopen.1, hopen.2, fun hcommits => ?_⟩
      unfold State.arbiterChoice at h
      rw [if_neg (by simp [hopen]), if_neg (by simp [hcommits])] at h
      repeat' split at h
      all_goals simp at h
    · intro ⟨_, _, hcommits⟩
      rw [State.arbiterChoice, if_neg (by simp [hopen]), if_pos (by simpa using hcommits)]
  · rw [arbiterChoice_of_closed hopen]
    exact ⟨nofun, fun h => absurd ⟨h.1, h.2.1⟩ hopen⟩

/-- The segment event that the arbiter grants (R77, R80). -/
theorem presented_eq_some_iff {s : State} {e : SegEvent} : s.presented = some e ↔ segmentTurn s e := by
  unfold State.presented segmentTurn
  split
  · rename_i h
    obtain ⟨hopen, hfirst, -⟩ := arbiterChoice_segment_iff.1 h
    simp [hopen, hfirst]
  · rename_i h
    refine ⟨nofun, fun ⟨hopen, hfirst, hhead⟩ => absurd (arbiterChoice_segment_iff.2 ⟨hopen, hfirst, ?_⟩) h⟩
    rintro hnil
    simp [hnil] at hhead

end Sys2Proof
end

section
/-! PROOFS. The step as a run of one command on a state that differs in the queue and the free values alone, the order sequence at
every command, and the invariants of the queues, of the trail and of the order sequence (O53, O57, O58). -/

-- One proof after another: proofs elaborated side by side each hold a thread, more of them than the check has memory for.
set_option Elab.async false

namespace Sys2Proof.Machine

open State.differsIn

/-! ## The order sequence -/

namespace State

/-- The arbiter has granted one record: the first of its tick, while stamping was open (R75, R77, R79). -/
def Granted (s t : State) : Prop :=
  t.arb.seq = s.arb.seq + 1 ∧ s.steer.stampingOpen = true ∧ s.arb.grantedThisTick = false ∧ t.arb.grantedThisTick = true

/-- The order sequence goes on without a gap: no number is taken, or the next one. -/
def CountsOn (s t : State) : Prop := t.arb.seq = s.arb.seq ∨ s.Granted t

/-- A numbered record that a port comes to hold carries the next number, and the counter has taken it. -/
def nextNumber (s t : State) (n : Nat) : Prop := n = s.arb.seq + 1 ∧ t.arb.seq = s.arb.seq + 1

variable {s t u : State}

theorem CountsOn.of_arb (h : t.arb = s.arb) : s.CountsOn t := .inl (by rw [h])

theorem CountsOn.ite {c : Prop} [Decidable c] (h1 : c → s.CountsOn t) (h2 : ¬c → s.CountsOn u) :
    s.CountsOn (if c then t else u) := by
  split
  · exact h1 ‹_›
  · exact h2 ‹_›

/-- The grant of a segment event, after which the arbiter is left as it is. -/
theorem granted_of_grantHead {e : SegEvent} (hp : s.presented = some e) (h : t.arb = s.grantHead.arb) : s.Granted t := by
  obtain ⟨hopen, hfirst, -⟩ := presented_eq_some_iff.1 hp
  exact ⟨by rw [h]; rfl, hopen, hfirst, by rw [h]; rfl⟩

theorem report_arb (s : State) (i e c r n) : (s.report i e c r n).arb = s.arb := s.report_frame i e c r n .arb (by decide)

theorem endCycle_arb (s : State) (i o x d v p c) : (s.endCycle i o x d v p c).arb = s.arb :=
  s.endCycle_frame i o x d v p c .arb (by decide)

/-- The order sequence after a command, when it completes. -/
def Counting (s : State) (o : Host.Outcome State Fault Refusal) : Prop := ∀ t, o = .next t → s.CountsOn t

theorem Counting.next (h : s.CountsOn t) : s.Counting (.next t) := fun _ h' => by cases h'; exact h

variable (s)

theorem execArmGrant_counting : s.Counting (execArmGrant s) := by
  refine .next ?_
  split
  · exact .inr (granted_of_grantHead ‹_› (report_arb _ _ _ _ _ _))
  · exact .inl rfl

theorem execReviseGrant_counting : s.Counting (execReviseGrant s) := by
  refine .next ?_
  split
  · exact .inr (granted_of_grantHead ‹_› (report_arb _ _ _ _ _ _))
  · exact .inl rfl

theorem execDisarmGrant_counting : s.Counting (execDisarmGrant s) := by
  refine .next ?_
  split
  · exact .inr (granted_of_grantHead ‹_› (report_arb _ _ _ _ _ _))
  · exact .inl rfl

theorem execMissedGrant_counting : s.Counting (execMissedGrant s) := by
  refine .next ?_
  split
  · exact .inr (granted_of_grantHead ‹_› (report_arb _ _ _ _ _ _))
  · exact .inl rfl

theorem execOpenGrant_counting : s.Counting (execOpenGrant s) := by
  refine .next ?_
  split
  · exact .inr (granted_of_grantHead ‹_› (report_arb _ _ _ _ _ _))
  · exact .inl rfl

theorem execCallGrant_counting : s.Counting (execCallGrant s) := by
  refine .next ?_
  split
  · exact .inr (granted_of_grantHead ‹_› (report_arb _ _ _ _ _ _))
  · exact .inl rfl

theorem execDrawGrant_counting : s.Counting (execDrawGrant s) := by
  refine .next ?_
  split
  · exact .inr (granted_of_grantHead ‹_› (report_arb _ _ _ _ _ _))
  · exact .inl rfl

theorem execEndGrant_counting : s.Counting (execEndGrant s) := by
  refine .next ?_
  split
  · exact .ite (fun _ => .inr (granted_of_grantHead ‹_› (endCycle_arb _ _ _ _ _ _ _ _))) fun _ =>
      .inr (granted_of_grantHead ‹_› (report_arb _ _ _ _ _ _))
  · exact .inl rfl

theorem execExtendGrant_counting : s.Counting (execExtendGrant s) := by
  refine .next ?_
  split
  · exact .inr (granted_of_grantHead ‹_› (report_arb _ _ _ _ _ _))
  · exact .inl rfl

theorem execReleaseGrant_counting : s.Counting (execReleaseGrant s) := by
  refine .next ?_
  split
  · exact .inr (granted_of_grantHead ‹_› (endCycle_arb _ _ _ _ _ _ _ _))
  · exact .inl rfl

theorem execHaltGrant_counting : s.Counting (execHaltGrant s) := by
  refine .next ?_
  split
  · exact .inr (granted_of_grantHead ‹_› (endCycle_arb _ _ _ _ _ _ _ _))
  · exact .inl rfl

theorem execStampGrant_counting (p : Port) : s.Counting (execStampGrant p s) := by
  refine .next ?_
  split
  · rename_i hchoice
    obtain ⟨⟨hopen, hfirst, -⟩, -⟩ := arbiterChoice_stamp_iff.1 hchoice
    split
    · dsimp only
      refine .inr ⟨?_, hopen, hfirst, ?_⟩ <;> unfold Arbiter.stampGranted <;> split <;> rfl
    · exact .inl rfl
  · exact .inl rfl

theorem execCaptureGrant_counting (l : Line) : s.Counting (execCaptureGrant l s) := by
  refine .next ?_
  split
  · rename_i hchoice
    obtain ⟨⟨hopen, hfirst, -⟩, -⟩ := arbiterChoice_capture_iff.1 hchoice
    dsimp only
    split
    · exact .inr ⟨rfl, hopen, hfirst, rfl⟩
    · exact .inl rfl
  · exact .inl rfl

theorem execStepApplied_counting : s.Counting (execStepApplied s) := by
  refine .next ?_
  split
  · exact .inl rfl
  · refine .inl ?_
    dsimp only
    rw [(answerStep_frame _ _ : differsIn _ _ _) .arb (by decide), (actOnLeap_frame _ : differsIn _ _ _) .arb (by decide)]
    rfl

theorem exec_counting {c : Instr} (hreset : ∀ a b d, c ≠ .deviceReset a b d) : s.Counting (exec c s) := by
  cases c with
  | deviceReset => exact absurd rfl (hreset _ _ _)
  | stepApplied => exact s.execStepApplied_counting
  | stampGrant p => exact s.execStampGrant_counting p
  | captureGrant l => exact s.execCaptureGrant_counting l
  | armGrant => exact s.execArmGrant_counting
  | reviseGrant => exact s.execReviseGrant_counting
  | disarmGrant => exact s.execDisarmGrant_counting
  | missedGrant => exact s.execMissedGrant_counting
  | openGrant => exact s.execOpenGrant_counting
  | callGrant => exact s.execCallGrant_counting
  | drawGrant => exact s.execDrawGrant_counting
  | endGrant => exact s.execEndGrant_counting
  | extendGrant => exact s.execExtendGrant_counting
  | releaseGrant => exact s.execReleaseGrant_counting
  | haltGrant => exact s.execHaltGrant_counting
  | _ => exact fun _ h => .of_arb (exec_same h (b := .arb) (by simp [Instr.touches]))

theorem withArb_moves {num : Nat → Prop} (x) : Moves num s (s.withArb x) := .of_eq rfl rfl rfl

/-! ## The grants of stamps and captures on the queues -/

/-- A STAMPED record of the next number enters the port's queue (R83, R87). -/
theorem enqueueStamped_moves {num : Nat → Prop} {p : Port} {tag : Tag} {seg : Option SegId}
    (hroom : (s.port p).responses.length < 64) (hnum : num (s.arb.seq + 1)) :
    Moves num s (s.grant.withPort p ((s.grant.port p).enqueue (s.grant.stampedRecord tag seg)).complete) := by
  have hport : PortCtl.Moves num (s.port p) ((s.port p).enqueue (s.grant.stampedRecord tag seg)).complete := by
    refine .of_enqueue ((PortCtl.hasRoom_iff _).2 hroom) ?_ rfl rfl (fun _ _ h => nomatch h) fun n hn => .inr ?_
    · simp [PortCtl.complete, PortCtl.withRequests, PortCtl.enqueue]
    · exact Option.some.inj hn ▸ hnum
  exact Moves.after (s.grant.withPort_moves hport)

/-- A CAPTURED notice of the next number enters the mapped port's queue (R83, R123). -/
theorem enqueueCaptured_moves {num : Nat → Prop} {p : Port} {l : Line} {e : EdgeRecord}
    (hroom : (s.port p).responses.length < 64) (hnum : num (s.arb.seq + 1)) :
    Moves num s (s.grant.withPort p ((s.grant.port p).enqueue (s.grant.capturedRecord l e))) := by
  have hport : PortCtl.Moves num (s.port p) ((s.port p).enqueue (s.grant.capturedRecord l e)) :=
    .of_enqueue ((PortCtl.hasRoom_iff _).2 hroom) Nat.le.refl rfl rfl (fun _ _ h => h) fun n hn =>
      .inr (Option.some.inj hn ▸ hnum)
  exact Moves.after (s.grant.withPort_moves hport)

theorem execStampGrant_moves {p : Port} (h : execStampGrant p s = .next t) : Moves (s.nextNumber t) s t := by
  cases h
  split
  · rename_i hchoice
    obtain ⟨-, -, ⟨-, -, hroom, -⟩, -⟩ := arbiterChoice_stamp_iff.1 hchoice
    split
    · exact ((s.enqueueStamped_moves hroom ⟨rfl, by dsimp only; rw [Arbiter.stampGranted]; split <;> rfl⟩).trans
        (count_moves _ _)).trans (withArb_moves _ _)
    · exact .refl _
  · exact .refl _

theorem execCaptureGrant_moves {l : Line} (h : execCaptureGrant l s = .next t) : Moves (s.nextNumber t) s t := by
  cases h
  split
  · rename_i hchoice
    obtain ⟨-, ⟨-, -, hroom⟩, -⟩ := arbiterChoice_capture_iff.1 hchoice
    dsimp only
    split
    · rename_i e rest hfifo
      have hline (t : State) (ht : t.capture = s.capture) : Moves (s.nextNumber t) t
          (t.withCapture (t.capture.set l { s.capture.get l with fifo := rest, overflow := 0 })) := by
        refine t.withLine_moves fun hlen => ?_
        rw [ht, hfifo, List.length_cons] at hlen
        exact Nat.le_of_succ_le hlen
      exact (((s.enqueueCaptured_moves hroom ⟨rfl, rfl⟩).trans (hline _ rfl)).trans (count_moves _ _)).trans (withArb_moves _ _)
    · exact .refl _
  · exact .refl _

/-- Every command but a device reset moves the state on, and a new numbered record carries the next number. -/
theorem exec_moves_nextNumber {c : Instr} (hreset : ∀ a b d, c ≠ .deviceReset a b d) (h : exec c s = .next t) :
    Moves (s.nextNumber t) s t := by
  by_cases hstamp : ∃ p, c = .stampGrant p
  · obtain ⟨p, rfl⟩ := hstamp
    exact s.execStampGrant_moves h
  · by_cases hcap : ∃ l, c = .captureGrant l
    · obtain ⟨l, rfl⟩ := hcap
      exact s.execCaptureGrant_moves h
    · exact s.exec_moves hreset (not_exists.1 hstamp) (not_exists.1 hcap) t h

end State

/-! ## One step -/

/-- The part's own events hold no device reset. -/
theorem mem_dueIf {b : Bool} {c d : Instr} : c ∈ dueIf b d ↔ b = true ∧ c = d := by
  unfold dueIf
  split <;> simp_all

theorem deviceReset_ne_requestCommand (p : Port) (q : Request) {a b d} : Instr.deviceReset a b d ≠ requestCommand p q := by
  intro h
  have := asked_requestCommand p q
  rw [← h] at this
  cases this

theorem deviceReset_notMem_dueEvents (s : State) {a b d} : Instr.deviceReset a b d ∉ s.dueEvents := by
  have hgrant : Instr.deviceReset a b d ∉ s.grantDue := by
    unfold State.grantDue
    repeat' split
    all_goals simp
  have hhead (p : Port) : Instr.deviceReset a b d ∉ s.headDue p := by
    unfold State.headDue
    split
    · simp [mem_dueIf, deviceReset_ne_requestCommand]
    · simp
  simp [State.dueEvents, State.timeDue, State.refDue, State.segDue, State.lineDue, State.portDue, mem_dueIf, hgrant, hhead]

theorem withPending_frame (s : State) (x : List Instr) : State.differsIn [.pending, .freeIndex] s (s.withPending x) := by
  intro b hb
  cases b <;> simp_all [Block.same]

theorem withFreeIndex_frame (s : State) (x : Nat) : State.differsIn [.pending, .freeIndex] s (s.withFreeIndex x) := by
  intro b hb
  cases b <;> simp_all [Block.same]

/-- What a step does: one command on a state that differs in the queue and the free values alone, or one tick. -/
theorem step_cases {s t : State} (h : step s = .next t) :
    (∃ c u, State.differsIn [.pending, .freeIndex] s u ∧ exec c u = .next t ∧
      ∀ a b d, c = .deviceReset a b d → resetsNext s) ∨ t = s.advance := by
  unfold step at h
  split at h
  · rename_i c rest hpending
    exact .inl ⟨c, _, withPending_frame s _, h, fun a b d hc => ⟨a, b, d, rest, hc ▸ hpending⟩⟩
  · unfold idle at h
    split at h
    · rename_i c hown
      refine .inl ⟨c, _, withFreeIndex_frame s _, h, fun a b d hc => ?_⟩
      subst hc
      refine absurd ?_ (deviceReset_notMem_dueEvents s (a := a) (b := b) (d := d))
      unfold State.ownEvent at hown
      split at hown
      · cases hown
      · rename_i c cs hdue
        exact hdue ▸ List.mem_of_getElem? hown
    · unfold State.nextTick at h
      split at h
      · exact .inl ⟨.stepApplied, s, rfl', h, nofun⟩
      · exact .inr (Host.Outcome.next.inj h).symm

/-- A step that is no device reset: its command is none, and it moves the state on with the next number. -/
theorem step_moves {s t : State} (h : step s = .next t) (hreset : ¬ resetsNext s) :
    State.Moves (s.nextNumber t) s t ∧ s.CountsOn t := by
  obtain ⟨c, u, hsu, hexec, hc⟩ | rfl := step_cases h
  · have hne : ∀ a b d, c ≠ .deviceReset a b d := fun a b d h => hreset (hc a b d h)
    have harb : u.arb = s.arb := hsu .arb (by decide)
    have hsteer : u.steer = s.steer := hsu .steer (by decide)
    have hmoves : State.Moves (s.nextNumber t) u t :=
      (u.exec_moves_nextNumber hne hexec).mono fun n hn => by rwa [State.nextNumber, harb] at hn
    have hcount := u.exec_counting hne t hexec
    simp only [State.CountsOn, State.Granted, harb, hsteer] at hcount
    exact ⟨(State.Moves.of_eq (hsu .trail (by decide)) (hsu .ports (by decide)) (hsu .capture (by decide))).trans hmoves,
      hcount⟩
  · exact ⟨s.advance_moves, .inl rfl⟩

theorem resetsNext_step {s t : State} (hreset : resetsNext s) (h : step s = .next t) :
    ∃ (straps : Bank 8 Straps) (epoch : EpochStore), t.trail = .reset epoch ∧ t.ports = (.ofFn fun p => .reset (roleOf (straps.get p))) ∧
      t.capture = .ofFn .reset := by
  obtain ⟨straps, storeLost, writeLost, rest, hpending⟩ := hreset
  unfold step at h
  rw [hpending] at h
  cases h
  exact ⟨straps, _, rfl, rfl, rfl⟩

end Sys2Proof.Machine

namespace Sys2Proof

open Machine

theorem reset_inBounds (r : Role) : (PortCtl.reset r).InBounds := ⟨Nat.zero_le _, Nat.zero_le _, List.Pairwise.nil⟩

theorem reset_trail_ok (e : EpochStore) : (TrailUnit.reset e).Ok := by
  refine ⟨rfl, ?_, ?_, ?_, ?_⟩ <;> simp [TrailUnit.reset, trailPlaces]

/-- Settles O53: a step other than a device reset moves every queue on within its places, and a device reset empties them. -/
theorem everyStepKeepsTheQueuesWithinTheirPlaces : Obligations.EveryStepKeepsTheQueuesWithinTheirPlaces := by
  intro s t ⟨hports, hlines⟩ h
  by_cases hreset : resetsNext s
  · obtain ⟨straps, epoch, -, hp, hc⟩ := resetsNext_step hreset h
    refine ⟨fun p => ?_, fun l => ?_⟩
    · rw [State.port, hp, Bank.get_ofFn]
      exact reset_inBounds _
    · rw [hc, Bank.get_ofFn]
      exact Nat.zero_le _
  · obtain ⟨⟨-, hport, hfifo⟩, -⟩ := step_moves h hreset
    exact ⟨fun p => (hport p).bounds (hports p), fun l => hfifo l (hlines l)⟩

/-- Settles O57: the counter goes on by grants alone, and a numbered record that a port comes to hold carries the new number. -/
theorem everyGrantTakesTheNextNumber : Obligations.EveryGrantTakesTheNextNumber := by
  intro s t hreset h
  obtain ⟨⟨-, hport, -⟩, hcount⟩ := step_moves h hreset
  refine ⟨hcount, fun p r n hmem hnew hwait hnum => ?_⟩
  rcases (hport p).held r n hnum (.inl hmem) with (hold | ⟨ofDrain, hserv⟩) | ⟨hn, hseq⟩
  · exact absurd hold hnew
  · exact absurd hserv (hwait ofDrain)
  · exact ⟨hseq, by omega⟩

/-- Settles O58: the relation `TrailUnit.Moves` gives both, and a device reset starts a trail that is in order. -/
theorem everyStepKeepsTheTrail : Obligations.EveryStepKeepsTheTrail := by
  refine ⟨fun s t hok h => ?_, fun s t hok hreset h => ?_⟩
  · by_cases hreset : resetsNext s
    · obtain ⟨-, epoch, ht, -⟩ := resetsNext_step hreset h
      exact ht ▸ reset_trail_ok epoch
    · exact ((step_moves h hreset).1.trail hok).1
  · exact ((step_moves h hreset).1.trail hok).2

end Sys2Proof
end

section
/-! PROOFS. What the shared operations do to the Steering Unit and the Tick Unit, said once: equations for each change of the timescale
state, for the opening of stamping, and for the stages of a second mark. -/

-- One proof after another: proofs elaborated side by side each hold a thread, more of them than the check has memory for.
set_option Elab.async false

namespace Sys2Proof.Machine

open State.differsIn

/-! ## The units after a change of state -/

/-- The Steering Unit after a main loss (R4, R44). -/
def SteeringUnit.lost (x : SteeringUnit) : SteeringUnit :=
  match x.state with
  | .acquire => { x with lockCount := 0, acqTimer := none, state := .cold }
  | .locked => { x with state := .fallback }
  | .holdover => { x with state := .fallback }
  | _ => x

/-- The Tick Unit after a main loss in the state `st` (R4, R13). -/
def TickUnit.lost (t : TickUnit) (st : TimescaleState) (now : Ns) : TickUnit :=
  match st with
  | .acquire => { t with source := .ring, calibCount := none }
  | .locked => TickUnit.afterLoss { t with source := .ring, calibCount := none } now
  | .holdover => TickUnit.afterLoss { t with source := .ring, calibCount := none } now
  | _ => t

/-- The Steering Unit once stamping is open (R46, R47). -/
def SteeringUnit.opened (x : SteeringUnit) : SteeringUnit :=
  if x.stampingOpen then x else { x with pendingSteps := [], stampingOpen := true }

/-- The Steering Unit in HOLDOVER on U_manual (R43). -/
def SteeringUnit.onManual (x : SteeringUnit) : SteeringUnit :=
  { x with
    acqTimer := none
    bEntry := x.uManual
    bound := x.uManual
    hSeconds := 0
    traceable := withinLimit x.uManual x.limitM
    state := .holdover }

/-- The Steering Unit after an accepted SET_TIME (R45). -/
def SteeringUnit.askManual (x : SteeringUnit) (st : PendingStep) : SteeringUnit :=
  { x with lockCount := if x.state = .acquire then 0 else x.lockCount, pendingSteps := x.pendingSteps ++ [st] }

/-- The Steering Unit after stage 5 in ACQUIRE with a GOOD second (R41, R42). -/
def SteeringUnit.counted (x : SteeringUnit) (changed : Bool) (m : Measure) (now : Ns) : SteeringUnit :=
  let y := { x with eHeld := some m.acquired }
  let count := (if changed then 0 else x.lockCount) + 1
  if x.wLock < (m.c - m.expected).natAbs then y.askStep m now
  else if count < 3 then { y with lockCount := count }
  else ({ y with lockCount := 3, acqTimer := none, integ := 0, state := .locked } : SteeringUnit).opened

/-- The Steering Unit after stage 5 of a second mark (R41, R48, R49). -/
def SteeringUnit.decided (x : SteeringUnit) (changed : Bool) (good : Option Measure) (now : Ns) : SteeringUnit :=
  match x.state with
  | .acquire =>
    match good with
    | none => { x with lockCount := 0 }
    | some m => x.counted changed m now
  | .locked =>
    match x.selection, good with
    | none, _ => { x with bEntry := x.bound, hSeconds := 0, adj := x.integ, state := .holdover }
    | some _, some m => { x with eHeld := some m.e }
    | some _, none => x
  | .holdover =>
    match good with
    | some m => { x with eHeld := some m.e, state := .locked }
    | none => x
  | _ => x

namespace SteeringUnit

variable {x : SteeringUnit} {changed : Bool} {now : Ns} {m : Measure} {good : Option Measure} {r : RefId}

theorem decided_acquire_none (h : x.state = .acquire) : x.decided changed none now = { x with lockCount := 0 } := by
  simp only [decided, h]

theorem decided_acquire_some (h : x.state = .acquire) : x.decided changed (some m) now = x.counted changed m now := by
  simp only [decided, h]

theorem decided_locked_none (h : x.state = .locked) (hsel : x.selection = none) : x.decided changed good now =
    { x with bEntry := x.bound, hSeconds := 0, adj := x.integ, state := .holdover } := by
  simp only [decided, h, hsel]

theorem decided_locked_good (h : x.state = .locked) (hsel : x.selection = some r) :
    x.decided changed (some m) now = { x with eHeld := some m.e } := by
  simp only [decided, h, hsel]

theorem decided_locked_poor (h : x.state = .locked) (hsel : x.selection = some r) : x.decided changed none now = x := by
  simp only [decided, h, hsel]

theorem decided_holdover_good (h : x.state = .holdover) :
    x.decided changed (some m) now = { x with eHeld := some m.e, state := .locked } := by
  simp only [decided, h]

theorem decided_holdover_poor (h : x.state = .holdover) : x.decided changed none now = x := by
  simp only [decided, h]

theorem decided_other (h : x.state = .cold ∨ x.state = .fallback) : x.decided changed good now = x := by
  rcases h with h | h <;> simp only [decided, h]

end SteeringUnit

namespace State

variable (s : State)

theorem tellLeap_steer (old) : (s.tellLeap old).steer = s.steer := s.tellLeap_frame old .steer (by decide)

@[simp] theorem enterState_steer (st) : (s.enterState st).steer = { s.steer with state := st } := tellLeap_steer _ _

@[simp] theorem enterState_tick (st) : (s.enterState st).tick = s.tick := s.enterState_frame st .tick (by decide)

@[simp] theorem enterState_xt (st) : (s.enterState st).xt = s.xt := s.enterState_frame st .xt (by decide)

@[simp] theorem enterState_refs (st) : (s.enterState st).refs = s.refs := s.enterState_frame st .refs (by decide)

@[simp] theorem enterState_arb (st) : (s.enterState st).arb = s.arb := s.enterState_frame st .arb (by decide)

@[simp] theorem reportTimescale_steer (old c) : (s.reportTimescale old c).steer = s.steer := rfl

@[simp] theorem reportTimescale_tick (old c) : (s.reportTimescale old c).tick = s.tick := rfl

@[simp] theorem reportTimescale_xt (old c) : (s.reportTimescale old c).xt = s.xt := rfl

@[simp] theorem reportTimescale_refs (old c) : (s.reportTimescale old c).refs = s.refs := rfl

@[simp] theorem reportTimescale_arb (old c) : (s.reportTimescale old c).arb = s.arb := rfl

@[simp] theorem reportTimescale_leap (old c) : (s.reportTimescale old c).leap = s.leap := rfl

@[simp] theorem reportTimescale_segs (old c) : (s.reportTimescale old c).segs = s.segs := rfl

theorem mainLoss_steer : s.mainLoss.steer = s.steer.lost := by
  unfold mainLoss SteeringUnit.lost
  cases s.steer.state <;> simp

theorem mainLoss_tick : s.mainLoss.tick = s.tick.lost s.steer.state s.now := by
  unfold mainLoss TickUnit.lost
  cases s.steer.state <;> simp

theorem finishReturn_of_due (h : s.returnDue = true) : s.finishReturn =
    (((s.withTick { s.tick with returnPhase := .none }).withSteer s.steer.resume).enterState .holdover).reportTimescale .fallback
      .mainReturn := if_pos h

theorem finishReturn_of_not_due (h : s.returnDue = false) : s.finishReturn = s := if_neg (by simp [h])

/-! ## The opening of stamping -/

theorem foldl_steer {α : Type} {f : State → α → State} (h : ∀ s x, (f s x).steer = s.steer) (l : List α) :
    (l.foldl f s).steer = s.steer := by
  induction l generalizing s with
  | nil => rfl
  | cons x l ih => rw [List.foldl_cons, ih, h]

theorem withdrawSteps_steer : s.withdrawSteps.steer = { s.steer with pendingSteps := [] } := by
  unfold withdrawSteps
  dsimp only [withSteer_steer]
  rw [foldl_steer]
  intro u st
  split <;> exact rfl

theorem missSegment_steer (i) : (s.missSegment i).steer = s.steer := s.missSegment_frame i .steer (by decide)

theorem openStamping_steer : s.openStamping.steer = s.steer.opened := by
  unfold openStamping SteeringUnit.opened
  split
  · exact rfl
  · dsimp only
    rw [foldl_steer _ missSegment_steer, withSteer_steer, withdrawSteps_steer]

@[simp] theorem openStamping_tick : s.openStamping.tick = s.tick := s.openStamping_frame .tick (by decide)

@[simp] theorem openStamping_xt : s.openStamping.xt = s.xt := s.openStamping_frame .xt (by decide)

theorem expireAcquisition_steer : s.expireAcquisition.steer =
    if s.steer.timeSet then s.steer.onManual.opened else { s.steer with acqTimer := some 0 } := by
  unfold expireAcquisition
  split
  · simp [openStamping_steer, SteeringUnit.onManual, SteeringUnit.retrace]
  · exact rfl

theorem expireAcquisition_tick : s.expireAcquisition.tick = s.tick := s.expireAcquisition_frame .tick (by decide)

theorem resetPort_steer (p c) :
    (s.resetPort p c).steer = { s.steer with pendingSteps := s.steer.pendingSteps.map (PendingStep.forget p) } := rfl

/-! ## The stages of a second mark -/

theorem select_steer : s.select.steer = { s.steer with selection := s.newSelection } := by
  unfold select
  dsimp only
  split
  · rename_i h
    rw [h]
  · exact rfl

theorem crossCheck_steer (v) : (s.crossCheck v).steer = s.steer := s.crossCheck_frame v .steer (by decide)

theorem markReferences_steer : s.markReferences.steer = { s.steer with selection := s.handOver.newSelection } := by
  rw [markReferences, crossCheck_steer, select_steer]
  exact rfl

theorem decideAcquire_steer (changed) (m : Measure) :
    (s.decideAcquire changed (some m)).steer = s.steer.counted changed m s.now := by
  dsimp only [decideAcquire, SteeringUnit.counted]
  generalize (if changed = true then 0 else s.steer.lockCount) + 1 = count
  split
  · exact rfl
  · split
    · exact rfl
    · rw [openStamping_steer, enterState_steer]
      exact rfl

theorem decideState_steer (changed good) : (s.decideState changed good).steer = s.steer.decided changed good s.now := by
  cases hst : s.steer.state with
  | acquire =>
    cases good with
    | none => rw [decideState, hst, SteeringUnit.decided_acquire_none hst]; exact rfl
    | some m => rw [decideState, hst, SteeringUnit.decided_acquire_some hst]; exact s.decideAcquire_steer changed m
  | locked =>
    rw [decideState, hst]
    dsimp only [decideLocked]
    cases hsel : s.steer.selection with
    | none => rw [SteeringUnit.decided_locked_none hst hsel, enterState_steer]; simp [hsel]
    | some r =>
      cases good with
      | none => rw [SteeringUnit.decided_locked_poor hst hsel]
      | some m => rw [SteeringUnit.decided_locked_good hst hsel]; simp [hsel]
  | holdover =>
    rw [decideState, hst]
    cases good with
    | none => rw [SteeringUnit.decided_holdover_poor hst]; exact rfl
    | some m => rw [SteeringUnit.decided_holdover_good hst]; exact enterState_steer _ _
  | cold => rw [decideState, hst, SteeringUnit.decided_other (.inl hst)]
  | fallback => rw [decideState, hst, SteeringUnit.decided_other (.inr hst)]

theorem decideState_refs (changed good) : (s.decideState changed good).refs = s.refs :=
  s.decideState_frame changed good .refs (by decide)

/-- The Steering Unit after stages 4 to 8 of a second mark. -/
theorem markSteer_steer (changed good) : (s.markSteer changed good).steer =
    (State.boundStage (s.withSteer ((s.steer.takeItems.decided changed good s.now).loopStage good))
      (decide (s.steer.state = .locked))).retrace := by
  have hdecide : ((s.withSteer s.steer.takeItems).decideState changed good).steer =
      s.steer.takeItems.decided changed good s.now := decideState_steer _ _ _
  have hrefs : ((s.withSteer s.steer.takeItems).decideState changed good).refs = s.refs := decideState_refs _ _ _
  unfold markSteer
  dsimp only [withSteer_steer]
  rw [hdecide]
  unfold boundStage lockedBound selectedUncertainty excess
  simp only [withSteer_steer, withSteer_refs, hrefs]

theorem reportMark_steer (o t) : (s.reportMark o t).steer = s.steer := s.reportMark_frame o t .steer (by decide)

theorem leapHandOver_steer (g) : (s.leapHandOver g).steer = s.steer := s.leapHandOver_frame g .steer (by decide)

/-- The second that the selected reference hands over at this mark, once the selection is re-made (R30, R31). -/
def markGood : Option Measure := s.markReferences.goodSecond s.seconds

/-- Whether this mark changes the selection (R41). -/
def selectionChanges : Bool := decide (s.markReferences.steer.selection ≠ s.steer.selection)

theorem steerMark_steer : s.steerMark.steer = (s.markReferences.markSteer s.selectionChanges s.markGood).steer := by
  unfold steerMark
  dsimp only
  rw [leapHandOver_steer]
  change (reportMark _ _ _).steer = _
  rw [reportMark_steer]
  exact rfl

theorem steerMark_tick : s.steerMark.tick = s.tick := s.steerMark_frame .tick (by decide)

theorem steerMark_xt : s.steerMark.xt = s.xt := s.steerMark_frame .xt (by decide)

end State

end Sys2Proof.Machine
end

section
/-! PROOFS. The invariants of stamping, of the tick source and of the bound at every step (O54, O55), and that XT never goes back while
stamping is open (O56). -/

-- One proof after another: proofs elaborated side by side each hold a thread, more of them than the check has memory for.
set_option Elab.async false

namespace Sys2Proof.Machine

open State.differsIn

/-! ## Stamping and the tick source with the timescale state -/

/-- `State.SourceOk` over what it looks at: the Steering Unit, the Tick Unit, and whether a second mark is due. -/
def SourceFits (x : SteeringUnit) (t : TickUnit) (mark : Option Nat) : Prop :=
  (t.source = .pll → x.state = .acquire ∨ x.state = .locked ∨ x.state = .holdover ∨
    x.state = .fallback ∧ t.returnPhase = .lockWait ∧ t.pllMonitor = .confirmed) ∧
  (x.state = .locked ∨ x.state = .holdover → t.source = .pll) ∧
  (t.returnPhase ≠ .none → x.state = .fallback) ∧
  (x.state = .acquire → t.source = .ring → x.acqTimer = some 0 ∧ x.lockCount + (if mark = none then 0 else 1) ≤ 1) ∧
  10 ≤ x.acqTimeout

/-- The invariant of O54 over what it looks at. -/
def Fits (x : SteeringUnit) (t : TickUnit) (mark : Option Nat) : Prop := x.StampingOk ∧ SourceFits x t mark ∧ t.RingOk

/-- The invariant of O54. -/
def State.TimescaleOk (s : State) : Prop := Fits s.steer s.tick s.xt.markDue

theorem tickSource_ring_of_ne {x : TickSource} (h : x ≠ .pll) : x = .ring := by cases x <;> simp_all

section Units

variable {x : SteeringUnit} {t u : TickUnit} {mark : Option Nat}

/-- A changed monitor, timer or count, where no return is pending and the return sequence goes on in FALLBACK alone. -/
theorem Fits.monitors (h : Fits x t mark) (hsource : u.source = t.source) (hring : u.ringIncrement = t.ringIncrement)
    (hphase : u.returnPhase = t.returnPhase ∨ x.state = .fallback)
    (hreturn : x.state = .fallback → t.source = .ring ∨ u.returnPhase = .lockWait ∧ u.pllMonitor = .confirmed) :
    Fits x u mark := by
  obtain ⟨hstamp, ⟨hpll, hrun, hphases, hacq, hlimit⟩, hrange⟩ := h
  refine ⟨hstamp, ⟨fun hs => ?_, ?_, fun hp => ?_, ?_, hlimit⟩, ?_⟩
  · rcases hpll (hsource ▸ hs) with hst | hst | hst | ⟨hst, -⟩
    · exact .inl hst
    · exact .inr (.inl hst)
    · exact .inr (.inr (.inl hst))
    · rcases hreturn hst with hring | hdue
      · simp [← hsource, hs] at hring
      · exact .inr (.inr (.inr ⟨hst, hdue⟩))
  · rwa [hsource]
  · exact hphase.elim (fun heq => hphases (heq ▸ hp)) id
  · rwa [hsource]
  · unfold TickUnit.RingOk
    rwa [hring]

/-- A main loss, once no return is pending. -/
theorem Fits.lost {now : Ns} (h : Fits x t mark) (hreturn : x.state = .fallback → t.source = .ring) :
    Fits x.lost (t.lost x.state now) mark := by
  have hcold : x.state = .cold → t.source = .ring := fun hst => tickSource_ring_of_ne fun hs => by
    have := h.2.1.1 hs
    simp [hst] at this
  obtain ⟨⟨hopen, hpend⟩, ⟨-, -, hphases, -, hlimit⟩, hrange⟩ := h
  cases hst : x.state with
  | acquire =>
    have hnone : t.returnPhase = .none := by_contra fun hp => by simp [hst] at hphases; exact hp hphases
    simp_all [SteeringUnit.lost, TickUnit.lost, Fits, SourceFits, SteeringUnit.StampingOk, TimescaleState.stamps, TickUnit.RingOk]
  | locked | holdover =>
    cases hm : t.mainMonitor <;>
      simp_all [SteeringUnit.lost, TickUnit.lost, TickUnit.afterLoss, TickUnit.settle, Fits, SourceFits,
        SteeringUnit.StampingOk, TimescaleState.stamps, TickUnit.RingOk]
  | cold | fallback =>
    simp_all [SteeringUnit.lost, TickUnit.lost, Fits, SourceFits, SteeringUnit.StampingOk, TimescaleState.stamps,
      TickUnit.RingOk]

/-- The Steering Unit with the same state, steps and timers. -/
structure SteeringUnit.SameCourse (x y : SteeringUnit) : Prop where
  state : y.state = x.state
  opened : y.stampingOpen = x.stampingOpen
  steps : y.pendingSteps = x.pendingSteps
  timer : y.acqTimer = x.acqTimer
  count : y.lockCount = x.lockCount
  limit : y.acqTimeout = x.acqTimeout

theorem Fits.course {y : SteeringUnit} (h : Fits x t mark) (hy : x.SameCourse y) : Fits y t mark := by
  obtain ⟨hstate, hopen, hsteps, htimer, hcount, hlimit⟩ := hy
  unfold Fits SourceFits SteeringUnit.StampingOk
  rw [hstate, hopen, hsteps, htimer, hcount, hlimit]
  exact h

/-- HOLDOVER after a completed return, at the PLL's edge. -/
theorem Fits.resumed (h : Fits x t mark) (hst : x.state = .fallback) (hpll : t.source = .pll) :
    Fits { x.resume with state := .holdover } { t with returnPhase := .none } mark := by
  obtain ⟨⟨hopen, hpend⟩, ⟨-, -, -, -, hlimit⟩, hrange⟩ := h
  rw [hst] at hopen
  exact ⟨⟨hopen, hpend⟩, ⟨fun _ => .inr (.inr (.inl rfl)), fun _ => hpll, fun h => absurd rfl h, nofun, hlimit⟩, hrange⟩

/-- In ACQUIRE on the ring the acquisition timer has not run out. -/
theorem Fits.pll_of_expired {n : Nat} (h : Fits x t mark) (hst : x.state = .acquire) (ht : x.acqTimer = some n)
    (hn : x.acqTimeout * ticksPerSecond ≤ n) : t.source = .pll := by
  obtain ⟨-, ⟨-, -, -, hacq, hlimit⟩, -⟩ := h
  by_contra hne
  obtain ⟨hzero, -⟩ := hacq hst (tickSource_ring_of_ne hne)
  rw [ht, Option.some.injEq] at hzero
  rw [hzero, ticksPerSecond] at hn
  omega

theorem Fits.phase_none (h : Fits x t mark) (hst : x.state ≠ .fallback) : t.returnPhase = .none :=
  by_contra fun hp => hst (h.2.1.2.2.1 hp)

/-- LOCKED or HOLDOVER entered from ACQUIRE on the PLL, with stamping opened. -/
theorem Fits.entered {y : SteeringUnit} (h : Fits x t mark) (hst : x.state = .acquire) (hpll : t.source = .pll)
    (hy : y.state = .locked ∨ y.state = .holdover) (hclosed : y.stampingOpen = x.stampingOpen) (hlimit : y.acqTimeout = x.acqTimeout)
    (new : Option Nat) : Fits y.opened t new := by
  have hphase := h.phase_none (by simp [hst])
  obtain ⟨⟨hopen, -⟩, ⟨-, -, -, -, htimeout⟩, hrange⟩ := h
  rw [hst] at hopen
  rw [SteeringUnit.opened, if_neg (by rw [hclosed, hopen]; decide)]
  refine ⟨⟨?_, fun _ => rfl⟩, ⟨fun _ => .inr (hy.imp_right .inl), fun _ => hpll, fun hp => absurd hphase hp, ?_, ?_⟩, hrange⟩
  · rcases hy with hy | hy <;> simp [hy, TimescaleState.stamps]
  · rcases hy with hy | hy <;> simp [hy]
  · exact hlimit ▸ htimeout

/-- The lock count goes on, while the state stays ACQUIRE (R41, R45). -/
theorem Fits.recount {y : SteeringUnit} {new : Option Nat} (h : Fits x t mark) (hst : x.state = .acquire) (hstate : y.state = x.state)
    (hopen : y.stampingOpen = x.stampingOpen) (htimer : y.acqTimer = x.acqTimer) (hlimit : y.acqTimeout = x.acqTimeout)
    (hcount : t.source = .ring → y.lockCount + (if new = none then 0 else 1) ≤ 1) : Fits y t new := by
  obtain ⟨⟨hstamp, -⟩, ⟨hpll, hrun, hphases, hacq, htimeout⟩, hrange⟩ := h
  refine ⟨⟨by rw [hopen, hstate, hstamp], fun h => ?_⟩, ⟨by rwa [hstate], by rwa [hstate], by rwa [hstate], fun _ hring => ?_, ?_⟩,
    hrange⟩
  · rw [hopen, hstamp, hst] at h
    cases h
  · exact ⟨htimer ▸ (hacq hst hring).1, hcount hring⟩
  · exact hlimit ▸ htimeout

/-- Stage 5 in ACQUIRE: the third GOOD second in a row comes on the PLL (R41). -/
theorem Fits.counted {changed : Bool} {m : Measure} {now : Ns} {due : Nat} (h : Fits x t (some due)) (hst : x.state = .acquire) :
    Fits (x.counted changed m now) t none := by
  have hring : t.source = .ring → x.lockCount = 0 := fun hs => by
    have := (h.2.1.2.2.2.1 hst hs).2
    simpa using this
  have hfirst : t.source = .ring → (if changed = true then 0 else x.lockCount) + 1 ≤ 1 := fun hs => by simp [hring hs]
  unfold SteeringUnit.counted
  dsimp only
  generalize (if changed = true then 0 else x.lockCount) + 1 = count at hfirst ⊢
  split
  · exact h.recount hst rfl rfl rfl rfl fun _ => Nat.zero_le _
  · split
    · exact h.recount hst rfl rfl rfl rfl hfirst
    · rename_i hcount
      refine h.entered (y := { x with eHeld := _, lockCount := 3, acqTimer := none, integ := 0, state := .locked }) hst
        (by_contra fun hne => hcount ?_) (.inl rfl) rfl rfl none
      have := hfirst (tickSource_ring_of_ne hne)
      omega

/-- HOLDOVER and LOCKED turn into one another. -/
theorem Fits.between {y : SteeringUnit} {new : Option Nat} (h : Fits x t mark) (hx : x.state = .locked ∨ x.state = .holdover)
    (hy : y.state = .locked ∨ y.state = .holdover) (hopen : y.stampingOpen = x.stampingOpen)
    (hsteps : y.pendingSteps = x.pendingSteps) (hlimit : y.acqTimeout = x.acqTimeout) : Fits y t new := by
  have hphase := h.phase_none (by rcases hx with hx | hx <;> simp [hx])
  obtain ⟨⟨hstamp, hpend⟩, ⟨-, hrun, -, -, htimeout⟩, hrange⟩ := h
  refine ⟨⟨?_, hsteps ▸ hopen ▸ hpend⟩, ⟨fun _ => .inr (hy.imp_right .inl), fun _ => hrun hx, fun hp => absurd hphase hp, ?_, ?_⟩,
    hrange⟩
  · rw [hopen, hstamp]
    rcases hx with hx | hx <;> rcases hy with hy | hy <;> rw [hx, hy] <;> exact rfl
  · rcases hy with hy | hy <;> simp [hy]
  · exact hlimit ▸ htimeout

/-- A second mark that has been worked leaves nothing due. -/
theorem Fits.worked (h : Fits x t mark) : Fits x t none := by
  obtain ⟨hstamp, ⟨hpll, hrun, hphases, hacq, htimeout⟩, hrange⟩ := h
  exact ⟨hstamp, ⟨hpll, hrun, hphases, fun hst hs => ⟨(hacq hst hs).1, (Nat.le_add_right _ _).trans (hacq hst hs).2⟩, htimeout⟩, hrange⟩

/-- Stage 5 of a second mark (R41, R48, R49). -/
theorem Fits.decided {changed : Bool} {good : Option Measure} {now : Ns} {due : Nat} (h : Fits x t (some due)) :
    Fits (x.decided changed good now) t none := by
  cases hst : x.state with
  | acquire =>
    cases good with
    | none => rw [SteeringUnit.decided_acquire_none hst]; exact h.recount hst rfl rfl rfl rfl fun _ => Nat.zero_le _
    | some m => rw [SteeringUnit.decided_acquire_some hst]; exact h.counted hst
  | locked =>
    cases hsel : x.selection with
    | none => rw [SteeringUnit.decided_locked_none hst hsel]; exact h.between (.inl hst) (.inr rfl) rfl rfl rfl
    | some r =>
      cases good with
      | none => rw [SteeringUnit.decided_locked_poor hst hsel]; exact h.worked
      | some m => rw [SteeringUnit.decided_locked_good hst hsel]; exact h.between (.inl hst) (.inl hst) rfl rfl rfl
  | holdover =>
    cases good with
    | none => rw [SteeringUnit.decided_holdover_poor hst]; exact h.worked
    | some m => rw [SteeringUnit.decided_holdover_good hst]; exact h.between (.inr hst) (.inl rfl) rfl rfl rfl
  | cold => rw [SteeringUnit.decided_other (.inl hst)]; exact h.worked
  | fallback => rw [SteeringUnit.decided_other (.inr hst)]; exact h.worked

theorem SteeringUnit.SameCourse.trans {y z : SteeringUnit} (h1 : x.SameCourse y) (h2 : y.SameCourse z) : x.SameCourse z :=
  ⟨h2.1.trans h1.1, h2.2.trans h1.2, h2.3.trans h1.3, h2.4.trans h1.4, h2.5.trans h1.5, h2.6.trans h1.6⟩

theorem loopStage_course (x : SteeringUnit) (good) : x.SameCourse (x.loopStage good) := by
  unfold SteeringUnit.loopStage
  split
  · split <;> exact ⟨rfl, rfl, rfl, rfl, rfl, rfl⟩
  · exact ⟨rfl, rfl, rfl, rfl, rfl, rfl⟩

theorem boundStage_course (s : State) (entered) : s.steer.SameCourse (s.boundStage entered) := by
  unfold State.boundStage
  dsimp only
  repeat' split
  all_goals exact ⟨rfl, rfl, rfl, rfl, rfl, rfl⟩

/-- The ring calibration keeps the increment in range (R11). -/
theorem calibrate_ringOk (h : t.RingOk) : t.calibrate.RingOk := by
  unfold TickUnit.calibrate TickUnit.RingOk
  dsimp only
  split
  · rename_i n _
    split
    · rename_i hn
      simp only [ringCountLow, ringCountHigh] at hn
      simp only [ringDividend]
      constructor
      · rw [Nat.le_div_iff_mul_le (by omega)]; omega
      · exact Nat.div_le_of_le_mul (by omega)
    · exact h
  · exact h

theorem Fits.calibrate (h : Fits x t mark) : Fits x t.calibrate mark := by
  refine ⟨h.1, ?_, calibrate_ringOk h.2.2⟩
  have hsame : t.calibrate.source = t.source ∧ t.calibrate.returnPhase = t.returnPhase ∧ t.calibrate.pllMonitor = t.pllMonitor := by
    unfold TickUnit.calibrate
    dsimp only
    split
    · split <;> exact ⟨rfl, rfl, rfl⟩
    · exact ⟨rfl, rfl, rfl⟩
  obtain ⟨hsource, hphase, hmonitor⟩ := hsame
  unfold SourceFits
  rw [hsource, hphase, hmonitor]
  exact h.2.1

end Units

end Sys2Proof.Machine
end

section
/-! PROOFS. Every step keeps stamping and the tick source with the timescale state (O54). -/

-- One proof after another: proofs elaborated side by side each hold a thread, more of them than the check has memory for.
set_option Elab.async false

namespace Sys2Proof.Machine

open State.differsIn

/-- In FALLBACK the latest tick was the ring's, or a return waits for its PLL edge or has it. -/
theorem Fits.returning {x : SteeringUnit} {t : TickUnit} {mark : Option Nat} (h : Fits x t mark)
    (hst : x.state = .fallback) : t.source = .ring ∨ t.returnPhase = .lockWait ∧ t.pllMonitor = .confirmed := by
  by_cases hs : t.source = .pll
  · have := h.2.1.1 hs
    simp only [hst, reduceCtorEq, false_or, true_and] at this
    exact .inr this
  · exact .inl (tickSource_ring_of_ne hs)

namespace State

variable {s t : State}

theorem TimescaleOk.of_eq (h : s.TimescaleOk) (hsteer : t.steer = s.steer := by exact rfl) (htick : t.tick = s.tick := by exact rfl)
    (hxt : t.xt = s.xt := by exact rfl) : t.TimescaleOk := by
  unfold TimescaleOk
  rwa [hsteer, htick, hxt]

theorem TimescaleOk.of_steer {x : SteeringUnit} (h : Fits x s.tick s.xt.markDue) (hsteer : t.steer = x)
    (htick : t.tick = s.tick := by exact rfl) (hxt : t.xt = s.xt := by exact rfl) : t.TimescaleOk := by
  unfold TimescaleOk
  rwa [hsteer, htick, hxt]

theorem returnDue_iff : s.returnDue = true ↔
    s.steer.state = .fallback ∧ s.tick.returnPhase = .lockWait ∧ s.tick.pllMonitor = .confirmed ∧ s.tick.source = .pll := by
  simp [returnDue, returnPending, and_assoc]

/-! ## The Tick Unit's commands -/

theorem tryLockWait_ok (h : s.TimescaleOk) : s.tryLockWait.TimescaleOk := by
  unfold tryLockWait
  split
  · rename_i hopens
    have hunlocked : s.tick.pllMonitor = .unlocked := by
      simp only [lockWaitOpens, Bool.and_eq_true, decide_eq_true_eq] at hopens
      exact hopens.1.2
    exact Fits.monitors h rfl rfl (.inl rfl) fun hst => .inl ((h.returning hst).resolve_right (by simp [hunlocked]))
  · exact h

theorem finishReturn_ok (h : s.TimescaleOk) : s.finishReturn.TimescaleOk := by
  cases hdue : s.returnDue
  · rwa [finishReturn_of_not_due s hdue]
  · obtain ⟨hst, -, -, hpll⟩ := returnDue_iff.1 hdue
    rw [finishReturn_of_due s hdue]
    have hfits := h.resumed hst hpll
    unfold TimescaleOk
    simpa using hfits

/-- Once a return whose edge has come is complete, the latest tick in FALLBACK was the ring's. -/
theorem ring_of_finishReturn (h : s.TimescaleOk) (hst : s.finishReturn.steer.state = .fallback) :
    s.finishReturn.tick.source = .ring := by
  cases hdue : s.returnDue
  · rw [finishReturn_of_not_due s hdue] at hst ⊢
    rcases h.returning hst with hring | ⟨hphase, hmonitor⟩
    · exact hring
    · refine tickSource_ring_of_ne fun hpll => ?_
      rw [returnDue_iff.2 ⟨hst, hphase, hmonitor, hpll⟩] at hdue
      cases hdue
  · rw [finishReturn_of_due s hdue] at hst
    simp at hst

theorem mainLoss_ok (h : s.TimescaleOk) (hreturn : s.steer.state = .fallback → s.tick.source = .ring) :
    s.mainLoss.TimescaleOk := by
  have hxt : s.mainLoss.xt = s.xt := s.mainLoss_frame .xt (by decide)
  have hfits := h.lost (now := s.now) hreturn
  unfold TimescaleOk
  rwa [mainLoss_steer, mainLoss_tick, hxt]

/-- The monitors after the main oscillator is gone, once a return whose edge has come is complete. -/
theorem loseMonitors_ok {tick : TickUnit} (h : s.TimescaleOk) (hring : s.steer.state = .fallback → s.tick.source = .ring)
    (hsource : tick.source = s.tick.source) (hinc : tick.ringIncrement = s.tick.ringIncrement)
    (hphase : tick.returnPhase = s.tick.returnPhase ∨ s.steer.state = .fallback) : (s.withTick tick).TimescaleOk :=
  Fits.monitors h hsource hinc hphase fun hst => .inl (hring hst)

theorem mainGone_fields (t : TickUnit) : t.mainGone.source = t.source ∧ t.mainGone.ringIncrement = t.ringIncrement ∧
    (t.mainGone.returnPhase = t.returnPhase ∨ t.returnPhase ≠ .none) := by
  unfold TickUnit.mainGone
  split
  · rename_i hphase
    exact ⟨rfl, rfl, .inr (by simp [hphase])⟩
  · rename_i hphase
    exact ⟨rfl, rfl, .inr (by simp [hphase])⟩
  · exact ⟨rfl, rfl, .inl rfl⟩

/-- What a command makes of the invariant, when it completes. -/
def KeepsTimescale (o : Host.Outcome State Fault Refusal) : Prop := ∀ t, o = .next t → t.TimescaleOk

theorem KeepsTimescale.next (h : t.TimescaleOk) : KeepsTimescale (.next t) := fun _ h' => by cases h'; exact h

theorem execMainPresent_ok (h : s.TimescaleOk) : KeepsTimescale (execMainPresent s) := by
  refine .next ?_
  split
  · exact Fits.monitors h rfl rfl (.inl rfl) h.returning
  · refine tryLockWait_ok ?_
    split
    · rename_i hphase
      have hst : s.steer.state = .fallback := h.2.1.2.2.1 (by simp [hphase])
      exact Fits.monitors h rfl rfl (.inr hst) fun hst => .inl ((h.returning hst).resolve_right (by simp [hphase]))
    · exact Fits.monitors h rfl rfl (.inl rfl) h.returning

theorem execMainAbsent_ok (h : s.TimescaleOk) : KeepsTimescale (execMainAbsent s) := by
  refine .next ?_
  split
  · exact h
  · have hok := finishReturn_ok h
    have hring := ring_of_finishReturn h
    obtain ⟨hsource, hinc, hphase⟩ := mainGone_fields s.finishReturn.tick
    have htick := loseMonitors_ok (tick := { s.finishReturn.tick.mainGone with
      mainMonitor := .absent, mainGap := none, pllMonitor := .unlocked, lockWaitTimer := none }) hok hring hsource hinc
      (hphase.imp_right (hok.2.1.2.2.1 ·))
    dsimp only
    split
    · exact mainLoss_ok htick fun hst => hsource.trans (hring hst)
    · exact htick

theorem execPllLockFallen_ok (h : s.TimescaleOk) : KeepsTimescale (execPllLockFallen s) := by
  refine .next ?_
  split
  · exact Fits.monitors h rfl rfl (.inl rfl) h.returning
  · have hok := finishReturn_ok h
    have hring := ring_of_finishReturn h
    have htick := loseMonitors_ok (tick := { s.finishReturn.tick with lockFlag := false, pllMonitor := .unlocked, lockWaitTimer := none })
      hok hring rfl rfl (.inl rfl)
    dsimp only
    split
    · rename_i hphase
      exact loseMonitors_ok hok hring rfl rfl (.inr (hok.2.1.2.2.1 (by simp [hphase])))
    · split
      · exact mainLoss_ok htick hring
      · exact htick

theorem execPllLockRaised_ok (h : s.TimescaleOk) : KeepsTimescale (execPllLockRaised s) :=
  .next (tryLockWait_ok (s := s.withTick { s.tick with lockFlag := true }) (Fits.monitors h rfl rfl (.inl rfl) h.returning))

theorem execLockWaitExpiry_ok (h : s.TimescaleOk) : KeepsTimescale (execLockWaitExpiry s) := by
  refine .next ?_
  split
  · exact h
  · rename_i hover
    have hwait : s.tick.pllMonitor = .lockWait := by
      simp only [TickUnit.lockWaitOver, Bool.not_and, Bool.or_eq_true, Bool.not_eq_true', decide_eq_false_iff_not, not_or,
        not_not] at hover
      exact hover.1
    dsimp only
    split
    · rename_i hst
      have hphase := Fits.phase_none h (by simp [hst])
      have hnot : s.tick.source ≠ .pll := fun hs => by
        have := h.2.1.1 hs
        simp [hst] at this
      obtain ⟨⟨hopen, -⟩, ⟨-, -, -, -, hlimit⟩, hrange⟩ := h
      rw [hst] at hopen
      refine .of_steer (s := s.withTick { s.tick with pllMonitor := .confirmed, lockWaitTimer := none })
        (x := { s.steer.startAcquire with state := .acquire }) ?_ ?_ ?_ ?_
      · refine ⟨⟨hopen, fun ho => absurd (hopen.symm.trans ho) (by decide)⟩, ⟨fun hs => absurd hs hnot, by simp, ?_, ?_, hlimit⟩, hrange⟩
        · exact fun hp => absurd hphase hp
        · intro _ _
          refine ⟨rfl, ?_⟩
          simp only [SteeringUnit.startAcquire]
          split <;> decide
      · simp
      · simp
      · simp
    · exact Fits.monitors h rfl rfl (.inl rfl) fun hst => .inl ((h.returning hst).resolve_right (by simp [hwait]))

theorem completeSettle_ok (h : s.TimescaleOk) (hphase : s.tick.returnPhase = .settle) : s.completeSettle.TimescaleOk := by
  have hst : s.steer.state = .fallback := h.2.1.2.2.1 (by simp [hphase])
  exact tryLockWait_ok (Fits.monitors h rfl rfl (.inr hst) fun hst => .inl ((h.returning hst).resolve_right (by simp [hphase])))

theorem writeSettle_ok (h : s.TimescaleOk) (n : Nat) : (s.writeSettle n).TimescaleOk := by
  have hkeep {tick : TickUnit} (h1 : tick.source = s.tick.source) (h2 : tick.ringIncrement = s.tick.ringIncrement)
      (h3 : tick.returnPhase = s.tick.returnPhase) (h4 : tick.pllMonitor = s.tick.pllMonitor) : (s.withTick tick).TimescaleOk :=
    Fits.monitors h h1 h2 (.inl h3) fun hst => by
      change _ ∨ tick.returnPhase = _ ∧ tick.pllMonitor = _
      rw [h3, h4]
      exact h.returning hst
  unfold writeSettle
  dsimp only
  split
  · rename_i hphase
    split
    · exact completeSettle_ok (hkeep (tick := { s.tick with settlePeriod := n, settleDeadline := _ }) rfl rfl rfl rfl) hphase
    · exact hkeep rfl rfl rfl rfl
  · exact hkeep rfl rfl rfl rfl

/-! ## The Steering Unit's commands -/

theorem acqExpired_iff : s.acqExpired = true ↔
    s.steer.state = .acquire ∧ ∃ n, s.steer.acqTimer = some n ∧ s.steer.acqTimeout * ticksPerSecond ≤ n := by
  unfold acqExpired
  cases s.steer.acqTimer <;> simp

theorem expireAcquisition_ok (h : s.TimescaleOk) (hexp : s.acqExpired = true) : s.expireAcquisition.TimescaleOk := by
  obtain ⟨hst, n, htimer, hn⟩ := acqExpired_iff.1 hexp
  have hpll := Fits.pll_of_expired h hst htimer hn
  refine .of_steer ?_ (expireAcquisition_steer s) (expireAcquisition_tick s) (s.expireAcquisition_frame .xt (by decide))
  split
  · exact h.entered (y := s.steer.onManual) hst hpll (.inr rfl) rfl rfl _
  · refine ⟨h.1, ⟨h.2.1.1, h.2.1.2.1, h.2.1.2.2.1, fun _ hring => ?_, h.2.1.2.2.2.2⟩, h.2.2⟩
    rw [hpll] at hring
    cases hring

theorem writeAcqTimeout_ok (h : s.TimescaleOk) {n : Nat} (hn : 10 ≤ n) : (s.writeAcqTimeout n).TimescaleOk := by
  have hset : (s.withSteer { s.steer with acqTimeout := n }).TimescaleOk :=
    ⟨h.1, ⟨h.2.1.1, h.2.1.2.1, h.2.1.2.2.1, h.2.1.2.2.2.1, hn⟩, h.2.2⟩
  unfold writeAcqTimeout
  dsimp only
  split
  · exact expireAcquisition_ok hset ‹_›
  · exact hset

/-- What a request can come to: nothing, a refusal for want of the right, or its service. -/
theorem takeWith_of {P : State → Prop} {right : Right} {p : Port} {tag : Tag} {body : ReqBody} {serve : State → State} (hself : P s)
    (hrefuse : P (s.done p tag .noRight false)) (hserve : P (serve s)) : P (s.takeWith right p tag body serve) := by
  unfold takeWith take
  dsimp only
  split
  · split
    · exact hserve
    · exact hrefuse
  · exact hself

theorem execSetTime_ok (h : s.TimescaleOk) (p tag sec) : KeepsTimescale (execSetTime p tag sec s) := by
  refine .next (takeWith_of h h.of_eq ?_)
  split
  · exact h.of_eq
  · rename_i hclosed
    split
    · exact h.of_eq
    · refine .of_steer (x := s.steer.askManual _) ⟨⟨h.1.1, fun hopen => absurd hopen hclosed⟩,
        ⟨h.2.1.1, h.2.1.2.1, h.2.1.2.2.1, fun hst hring => ?_, h.2.1.2.2.2.2⟩, h.2.2⟩ rfl
      obtain ⟨htimer, hcount⟩ := h.2.1.2.2.2.1 hst hring
      refine ⟨htimer, ?_⟩
      change (if s.steer.state = .acquire then 0 else _) + _ ≤ 1
      rw [if_pos (show s.steer.state = .acquire from hst)]
      exact (Nat.add_le_add_right (Nat.zero_le _) _).trans hcount

theorem resetPort_ok (h : s.TimescaleOk) (p c) : (s.resetPort p c).TimescaleOk := by
  refine .of_steer (x := { s.steer with pendingSteps := s.steer.pendingSteps.map (PendingStep.forget p) })
    ⟨⟨h.1.1, fun hopen => ?_⟩, h.2.1, h.2.2⟩ (resetPort_steer s p c)
  exact (List.map_eq_nil_iff).2 (h.1.2 hopen)

/-! ## The second mark and the tick -/

theorem markSteer_fits {tick : TickUnit} {due : Nat} (h : Fits s.steer tick (some due)) (changed : Bool) (good : Option Measure) :
    Fits (s.markSteer changed good).steer tick none := by
  have hitems : s.steer.SameCourse s.steer.takeItems := ⟨rfl, rfl, rfl, rfl, rfl, rfl⟩
  have hretrace (x : SteeringUnit) : x.SameCourse x.retrace := ⟨rfl, rfl, rfl, rfl, rfl, rfl⟩
  rw [markSteer_steer]
  exact (((Fits.decided (h.course hitems)).course (loopStage_course _ good)).course (boundStage_course (s.withSteer _) _)).course
    (hretrace _)

theorem steerMark_fits {tick : TickUnit} {due : Nat} (h : Fits s.steer tick (some due)) : Fits s.steerMark.steer tick none := by
  rw [steerMark_steer]
  refine markSteer_fits (due := due) ?_ _ _
  rw [markReferences_steer]
  exact h.course ⟨rfl, rfl, rfl, rfl, rfl, rfl⟩

theorem execSecondMark_ok (h : s.TimescaleOk) (first : Bool) : KeepsTimescale (execSecondMark first s) := by
  refine .next ?_
  split
  · exact h
  · rename_i m hmark
    have hfits : Fits s.steer s.tick (some m) := hmark ▸ h
    have hworked {u : State} (hsteer : u.steer = s.steer) (htick : u.tick = s.tick) (hxt : u.xt.markDue = none) :
        Fits u.steerMark.steer u.steerMark.tick.calibrate u.steerMark.xt.markDue := by
      rw [steerMark_tick, steerMark_xt, htick, hxt]
      exact (steerMark_fits (hsteer ▸ hfits)).calibrate
    cases first
    · exact hworked (u := s.withXt { s.xt with markDue := none }) rfl rfl rfl
    · exact hworked (u := (s.withXt { s.xt with markDue := none }).trailMark) rfl rfl rfl

/-- A tick: the source is the one that the state gives (R1, R5, R15). -/
theorem elapse_fits (h : s.TimescaleOk) (mark : Option Nat) : Fits s.elapse.steer s.elapse.tick mark := by
  obtain ⟨⟨hopen, hpend⟩, ⟨-, hrun, hphases, -, hlimit⟩, hrange⟩ := h
  have hsource : s.elapse.tick.source = s.tickSource := rfl
  have hstate : s.elapse.steer.state = s.steer.state := by
    change s.acqElapsed.state = _
    unfold acqElapsed
    split <;> exact rfl
  have hsame : s.elapse.steer.stampingOpen = s.steer.stampingOpen ∧ s.elapse.steer.pendingSteps = s.steer.pendingSteps ∧
      s.elapse.steer.acqTimeout = s.steer.acqTimeout := by
    change s.acqElapsed.stampingOpen = _ ∧ s.acqElapsed.pendingSteps = _ ∧ s.acqElapsed.acqTimeout = _
    unfold acqElapsed
    split <;> exact ⟨rfl, rfl, rfl⟩
  obtain ⟨hopened, hsteps, htimeout⟩ := hsame
  refine ⟨⟨by rw [hopened, hstate, hopen], by rwa [hopened, hsteps]⟩, ⟨?_, ?_, hstate ▸ hphases, ?_, by rwa [htimeout]⟩, hrange⟩
  · rw [hsource, hstate]
    intro hpll
    unfold tickSource at hpll
    split at hpll
    · cases hpll
    · exact .inl ‹_›
    · exact .inr (.inl ‹_›)
    · exact .inr (.inr (.inl ‹_›))
    · split at hpll
      · rename_i hret
        simp only [returnPending, Bool.and_eq_true, decide_eq_true_eq] at hret
        exact .inr (.inr (.inr ⟨hret.1.1, hret.1.2, hret.2⟩))
      · cases hpll
  · rw [hsource, hstate]
    rintro (hst | hst) <;> rw [tickSource, hst]
  · rw [hsource, hstate]
    intro hst hring
    rw [tickSource, hst] at hring
    cases hring

theorem advance_ok (h : s.TimescaleOk) : s.advance.TimescaleOk := elapse_fits h _

theorem actOnLeap_steer (s : State) : s.actOnLeap.steer = s.steer := s.actOnLeap_frame .steer (by decide)

theorem actOnLeap_tick (s : State) : s.actOnLeap.tick = s.tick := s.actOnLeap_frame .tick (by decide)

theorem actOnLeap_xt (s : State) : s.actOnLeap.xt = s.xt := s.actOnLeap_frame .xt (by decide)

theorem answerStep_steer (s : State) (o) : (s.answerStep o).steer = s.steer := s.answerStep_frame o .steer (by decide)

theorem answerStep_tick (s : State) (o) : (s.answerStep o).tick = s.tick := s.answerStep_frame o .tick (by decide)

theorem answerStep_xt (s : State) (o) : (s.answerStep o).xt = s.xt := s.answerStep_frame o .xt (by decide)

theorem nextStep_iff {st : PendingStep} : s.nextStep = some st ↔ stepIsTaken s st := by
  unfold nextStep stepIsTaken
  cases s.steer.pendingSteps with
  | nil => simp
  | cons x xs =>
    have hlimit : stepLimit = 9223372036854775808 := rfl
    simp only [hlimit, List.head?_cons, Option.some.injEq, Bool.and_eq_true, Bool.not_eq_true', decide_eq_true_eq]
    constructor
    · intro h
      split at h
      · rename_i hx
        obtain rfl := Option.some.inj h
        exact ⟨rfl, hx.1.1, hx.1.2, by exact_mod_cast hx.2⟩
      · cases h
    · rintro ⟨rfl, hopen, hlow, hhigh⟩
      exact if_pos ⟨⟨hopen, hlow⟩, by exact_mod_cast hhigh⟩

/-- The Steering Unit and the Tick Unit after an applied step; XT has the step's value (R10). -/
theorem stepTo_fits (h : s.TimescaleOk) (hclosed : s.steer.stampingOpen = false) (value : Ns) (rest : List PendingStep)
    (origin : StepOrigin) (mark : Option Nat) :
    Fits ((s.stepTo value).steer.stepped rest origin) (s.stepTo value).tick mark := by
  obtain ⟨⟨hstamp, -⟩, hsource, hring⟩ := elapse_fits h mark
  have hopen : s.elapse.steer.stampingOpen = false := by
    change s.acqElapsed.stampingOpen = _
    unfold acqElapsed
    split <;> exact hclosed
  exact ⟨⟨hstamp, fun ho => by rw [show ((s.stepTo value).steer.stepped rest origin).stampingOpen = false from hopen] at ho; cases ho⟩,
    hsource, hring⟩

theorem execStepApplied_ok (h : s.TimescaleOk) : KeepsTimescale (execStepApplied s) := by
  refine .next ?_
  split
  · exact h
  · rename_i st hstep
    obtain ⟨-, hclosed, -, -⟩ := nextStep_iff.1 hstep
    have hfits := stepTo_fits h hclosed st.value s.elapse.steer.pendingSteps.tail st.origin (s.stepTo st.value).xt.markDue
    unfold TimescaleOk
    dsimp only
    rw [answerStep_steer, answerStep_tick, answerStep_xt, actOnLeap_steer, actOnLeap_tick, actOnLeap_xt]
    exact hfits

/-! ## Every command -/

theorem serveItem_ok {p tag item v old} {write : Int → State → State} (h : s.TimescaleOk)
    (hwrite : ∀ u : State, u.TimescaleOk → (write (itemValue item v) u).TimescaleOk) :
    KeepsTimescale (.next (s.serveItem p tag item v old write)) :=
  .next (takeWith_of h h.of_eq ((hwrite (s.ask (itemConfig p item (old s) v)) h.of_eq).of_eq))

/-- A written item of the Steering Unit that the state, the steps and the timers do not depend on. -/
theorem withSteer_ok {x : SteeringUnit} (h : s.TimescaleOk) (hx : s.steer.SameCourse x) : (s.withSteer x).TimescaleOk :=
  .of_steer (h.course hx) rfl

theorem itemValue_mem (item : TimingItem) (v : BitVec 64) :
    (itemRange item).1 ≤ itemValue item v ∧ itemValue item v ≤ (itemRange item).2 :=
  clampInt_mem (by cases item <;> simp [itemRange]) _

theorem deviceReset_ok (straps storeLost writeLost) : KeepsTimescale (exec (.deviceReset straps storeLost writeLost) s) :=
  .next ⟨reset_meets_the_invariants.2.2.1, reset_meets_the_invariants.2.2.2.2.2.2, reset_meets_the_invariants.2.2.2.2.2.1⟩

theorem exec_timescaleOk (h : s.TimescaleOk) (c : Instr) : KeepsTimescale (exec c s) := by
  cases c with
  | deviceReset => exact deviceReset_ok _ _ _
  | mainPresent => exact execMainPresent_ok h
  | mainAbsent => exact execMainAbsent_ok h
  | pllLockRaised => exact execPllLockRaised_ok h
  | pllLockFallen => exact execPllLockFallen_ok h
  | lockWaitExpiry => exact execLockWaitExpiry_ok h
  | settleComplete =>
    refine .next ?_
    split
    · rename_i hdue
      exact completeSettle_ok h hdue.1
    · exact h
  | mainReturn => exact .next (finishReturn_ok h)
  | secondMark first => exact execSecondMark_ok h first
  | stepApplied => exact execStepApplied_ok h
  | acqTimeout =>
    refine .next ?_
    split
    · exact expireAcquisition_ok h ‹_›
    · exact h
  | clientFrame p bytes =>
    refine .next ?_
    split
    · exact h.of_eq
    · split
      · split
        · exact resetPort_ok h _ _
        · exact h
      · have hframe := s.receive_frame p ‹_›
        exact h.of_eq (hframe .steer (by decide)) (hframe .tick (by decide)) (hframe .xt (by decide))
  | linkTimeout p =>
    refine .next ?_
    split
    · exact resetPort_ok h _ _
    · exact h
  | setTime p tag sec => exact execSetTime_ok h p tag sec
  | setTimingSettlePeriod => exact serveItem_ok h fun u hu => writeSettle_ok hu _
  | setTimingAcquisitionTimeout p tag v =>
    refine serveItem_ok h fun u hu => writeAcqTimeout_ok hu ?_
    have := (itemValue_mem .acquisitionTimeout v).1
    simp only [itemRange] at this
    omega
  | setTimingM =>
    refine serveItem_ok h fun u hu => ?_
    have hset (n : Nat) : (u.withSteer (SteeringUnit.retrace { u.steer with limitM := n })).TimescaleOk :=
      withSteer_ok hu ⟨rfl, rfl, rfl, rfl, rfl, rfl⟩
    unfold writeM
    dsimp only
    split
    · exact hset _
    · exact (hset _).of_eq
  | setTimingKp | setTimingKi | setTimingL | setTimingH | setTimingHRing | setTimingWLock | setTimingUFixed | setTimingUManual =>
    exact serveItem_ok h fun u hu => withSteer_ok hu ⟨rfl, rfl, rfl, rfl, rfl, rfl⟩
  | _ =>
    exact fun t ht => h.of_eq (exec_same ht (b := .steer) (by simp [Instr.touches]))
      (exec_same ht (b := .tick) (by simp [Instr.touches])) (exec_same ht (b := .xt) (by simp [Instr.touches]))

end State

end Sys2Proof.Machine

namespace Sys2Proof

open Machine

/-- Settles O54: `State.TimescaleOk` is kept by every command and by the tick. -/
theorem everyStepKeepsStampingAndTheSourceWithTheState : Obligations.EveryStepKeepsStampingAndTheSourceWithTheState := by
  intro s t hstamp hsource hring h
  have hok : s.TimescaleOk := ⟨hstamp, hsource, hring⟩
  obtain ⟨c, u, hsu, hexec, -⟩ | rfl := step_cases h
  · exact State.exec_timescaleOk
      (hok.of_eq (hsu .steer (by decide)) (hsu .tick (by decide)) (hsu .xt (by decide))) c t hexec
  · exact State.advance_ok hok

end Sys2Proof
end

section
/-! PROOFS. Every step keeps the bound, the traceable flag and the slew limit (O55), and XT does not go back while stamping is open
(O56). -/

-- One proof after another: proofs elaborated side by side each hold a thread, more of them than the check has memory for.
set_option Elab.async false

namespace Sys2Proof.Machine

open State.differsIn

/-! ## The bound and the slew limit -/

/-- The invariant of O55. -/
def SteeringUnit.Bounded (x : SteeringUnit) : Prop := x.BoundOk ∧ x.SlewOk

/-- The Steering Unit with the same state, bounds, limits and corrections. -/
structure SteeringUnit.SameBounds (x y : SteeringUnit) : Prop where
  state : y.state = x.state
  traceable : y.traceable = x.traceable
  bound : y.bound = x.bound
  limitM : y.limitM = x.limitM
  uManual : y.uManual = x.uManual
  adj : y.adj = x.adj
  integ : y.integ = x.integ
  inForce : y.inForce = x.inForce
  written : y.written = x.written

theorem withinLimit_max32 {m : Nat} (h : m ≤ 10000000) : withinLimit max32 m = false := by
  refine decide_eq_false ?_
  rw [max32]
  omega

namespace SteeringUnit

variable {x y : SteeringUnit}

theorem Bounded.same (h : x.Bounded) (hy : x.SameBounds y) : y.Bounded := by
  obtain ⟨hstate, htrace, hbound, hlimit, hmanual, hadj, hinteg, hforce, hwritten⟩ := hy
  unfold Bounded BoundOk SlewOk
  rw [hstate, htrace, hbound, hlimit, hmanual, hadj, hinteg, hforce, hwritten]
  exact h

theorem Bounded.lost (h : x.Bounded) : x.lost.Bounded := by
  obtain ⟨⟨htrace, hbound, hlimit, hmanual, hmax⟩, hslew⟩ := h
  unfold SteeringUnit.lost
  split
  · rename_i hst
    exact ⟨⟨htrace, hbound, hlimit, hmanual, fun _ => hmax (by rw [hst]; exact rfl)⟩, hslew⟩
  · exact ⟨⟨htrace, hbound, hlimit, hmanual, nofun⟩, hslew⟩
  · exact ⟨⟨htrace, hbound, hlimit, hmanual, nofun⟩, hslew⟩
  · exact ⟨⟨htrace, hbound, hlimit, hmanual, hmax⟩, hslew⟩

/-- HOLDOVER after a completed return (R50). -/
theorem Bounded.resumed (h : x.Bounded) : ({ x.resume with state := .holdover } : SteeringUnit).Bounded := by
  obtain ⟨⟨htrace, hbound, hlimit, hmanual, -⟩, ⟨-, -, hforce, hwritten⟩⟩ := h
  exact ⟨⟨htrace, hbound, hlimit, hmanual, nofun⟩, clampInt_natAbs _ _, clampInt_natAbs _ _, hforce, hwritten⟩

theorem opened_same : x.SameBounds x.opened := by
  unfold opened
  split <;> exact ⟨rfl, rfl, rfl, rfl, rfl, rfl, rfl, rfl, rfl⟩

theorem Bounded.onManual (h : x.Bounded) : x.onManual.Bounded := by
  obtain ⟨⟨-, -, hlimit, hmanual, -⟩, hslew⟩ := h
  exact ⟨⟨rfl, hmanual, hlimit, hmanual, nofun⟩, hslew⟩

theorem Bounded.startAcquire (h : x.Bounded) : ({ x.startAcquire with state := .acquire } : SteeringUnit).Bounded := by
  obtain ⟨⟨-, -, hlimit, hmanual, -⟩, ⟨-, -, hforce, hwritten⟩⟩ := h
  exact ⟨⟨(withinLimit_max32 hlimit).symm, Nat.le_refl _, hlimit, hmanual, fun _ => rfl⟩, Nat.zero_le _, Nat.zero_le _, hforce, hwritten⟩

/-- The traceable flag recomputed, with every other part of the invariant. -/
theorem Bounded.retrace (hbound : x.bound ≤ max32) (hlimit : x.limitM ≤ 10000000) (hmanual : x.uManual ≤ max32)
    (hmax : x.state.stamps = false → x.bound = max32) (hslew : x.SlewOk) : x.retrace.Bounded :=
  ⟨⟨rfl, hbound, hlimit, hmanual, hmax⟩, hslew⟩

/-! ### The stages of a second mark -/

theorem takeItems_slewOk (h : x.SlewOk) : x.takeItems.SlewOk :=
  ⟨clampInt_natAbs _ _, clampInt_natAbs _ _, h.2.2.2, h.2.2.2⟩

/-- What stage 5 leaves of the bound, the limits and the corrections (R41, R48, R49). -/
structure Kept (x y : SteeringUnit) : Prop where
  bound : y.bound = x.bound
  limitM : y.limitM = x.limitM
  uManual : y.uManual = x.uManual
  inForce : y.inForce = x.inForce
  written : y.written = x.written
  adj : y.adj = x.adj ∨ y.adj = x.integ
  integ : y.integ = x.integ ∨ y.integ = 0

theorem Kept.slewOk (h : x.Kept y) (hx : x.SlewOk) : y.SlewOk := by
  obtain ⟨-, -, -, hforce, hwritten, hadj, hinteg⟩ := h
  obtain ⟨ha, hi, hl, hw⟩ := hx
  unfold SlewOk
  rw [hforce, hwritten]
  refine ⟨?_, ?_, hl, hw⟩
  · rcases hadj with hadj | hadj <;> rwa [hadj]
  · rcases hinteg with hinteg | hinteg <;> rw [hinteg]
    · exact hi
    · exact Nat.zero_le _

theorem Kept.opened (h : x.Kept y) : x.Kept y.opened := by
  unfold SteeringUnit.opened
  split
  · exact h
  · exact ⟨h.1, h.2, h.3, h.4, h.5, h.6, h.7⟩

theorem decided_kept {changed good now} : x.Kept (x.decided changed good now) := by
  have hrefl : x.Kept x := ⟨rfl, rfl, rfl, rfl, rfl, .inl rfl, .inl rfl⟩
  cases hst : x.state with
  | acquire =>
    cases good with
    | none => rw [decided_acquire_none hst]; exact ⟨rfl, rfl, rfl, rfl, rfl, .inl rfl, .inl rfl⟩
    | some m =>
      rw [decided_acquire_some hst]
      unfold counted
      dsimp only
      generalize (if changed = true then 0 else x.lockCount) + 1 = count
      split
      · exact ⟨rfl, rfl, rfl, rfl, rfl, .inl rfl, .inl rfl⟩
      · split
        · exact ⟨rfl, rfl, rfl, rfl, rfl, .inl rfl, .inl rfl⟩
        · exact Kept.opened ⟨rfl, rfl, rfl, rfl, rfl, .inl rfl, .inr rfl⟩
  | locked =>
    cases hsel : x.selection with
    | none => rw [decided_locked_none hst hsel]; exact ⟨rfl, rfl, rfl, rfl, rfl, .inr rfl, .inl rfl⟩
    | some r =>
      cases good with
      | none => rwa [decided_locked_poor hst hsel]
      | some m => rw [decided_locked_good hst hsel]; exact ⟨rfl, rfl, rfl, rfl, rfl, .inl rfl, .inl rfl⟩
  | holdover =>
    cases good with
    | none => rwa [decided_holdover_poor hst]
    | some m => rw [decided_holdover_good hst]; exact ⟨rfl, rfl, rfl, rfl, rfl, .inl rfl, .inl rfl⟩
  | cold => rwa [decided_other (.inl hst)]
  | fallback => rwa [decided_other (.inr hst)]

theorem loopStage_slewOk {good} (h : x.SlewOk) : (x.loopStage good).SlewOk := by
  unfold loopStage
  split
  · split
    · exact ⟨clampInt_natAbs _ _, clampInt_natAbs _ _, h.2.2.1, h.2.2.2⟩
    · exact h
  · exact h

/-- Stage 6 changes A and I alone. -/
theorem loopStage_eq {good} : ∃ a i, x.loopStage good = { x with adj := a, integ := i } := by
  unfold loopStage
  split
  · split
    · exact ⟨_, _, rfl⟩
    · exact ⟨x.adj, x.integ, rfl⟩
  · exact ⟨x.adj, x.integ, rfl⟩

/-- HOLDOVER entered at this mark starts from the bound of LOCKED (R48). -/
theorem decided_bEntry {changed good now} (hx : x.state = .locked) (h : (x.decided changed good now).state = .holdover) :
    (x.decided changed good now).bEntry = x.bound := by
  cases hsel : x.selection with
  | none => rw [decided_locked_none hx hsel]
  | some r =>
    cases good with
    | none => rw [decided_locked_poor hx hsel, hx] at h; cases h
    | some m => rw [decided_locked_good hx hsel] at h; exact absurd (hx.symm.trans h) (by decide)

end SteeringUnit

namespace State

variable {s t : State}

theorem saturate_le (n : Nat) : saturate n ≤ max32 := Nat.min_le_right _ _

/-- Stage 7 leaves everything but the bound and the seconds of HOLDOVER, and B is within its range (R54 to R56). -/
theorem boundStage_eq {entered : Bool} (hentry : entered = true → s.steer.state = .holdover → s.steer.bEntry ≤ max32) :
    ∃ b n, s.boundStage entered = { s.steer with bound := b, hSeconds := n } ∧ b ≤ max32 ∧
      (s.steer.state.stamps = false → b = max32) := by
  unfold boundStage
  dsimp only
  cases hst : s.steer.state with
  | locked => exact ⟨_, _, rfl, saturate_le _, nofun⟩
  | holdover =>
    dsimp only
    split
    · rename_i he
      exact ⟨_, _, rfl, hentry he hst, nofun⟩
    · exact ⟨_, _, rfl, saturate_le _, nofun⟩
  | fallback => exact ⟨_, _, rfl, saturate_le _, nofun⟩
  | cold => exact ⟨_, _, rfl, Nat.le_refl _, fun _ => rfl⟩
  | acquire => exact ⟨_, _, rfl, Nat.le_refl _, fun _ => rfl⟩

theorem markSteer_bounded (h : s.steer.Bounded) (changed : Bool) (good : Option Measure) :
    (s.markSteer changed good).steer.Bounded := by
  obtain ⟨⟨-, hbound, hlimit, hmanual, -⟩, hslew⟩ := h
  rw [markSteer_steer]
  have hkept : s.steer.takeItems.Kept (s.steer.takeItems.decided changed good s.now) := SteeringUnit.decided_kept
  have hslew' := SteeringUnit.loopStage_slewOk (good := good) (hkept.slewOk (SteeringUnit.takeItems_slewOk hslew))
  obtain ⟨a, i, hloop⟩ := SteeringUnit.loopStage_eq (x := s.steer.takeItems.decided changed good s.now) (good := good)
  have hentry : decide (s.steer.state = .locked) = true →
      ((s.steer.takeItems.decided changed good s.now).loopStage good).state = .holdover →
        ((s.steer.takeItems.decided changed good s.now).loopStage good).bEntry ≤ max32 := by
    intro hold hnew
    rw [hloop] at hnew ⊢
    exact (SteeringUnit.decided_bEntry (x := s.steer.takeItems) (of_decide_eq_true hold) hnew).trans_le hbound
  obtain ⟨b, n, hstage, hb, hmax⟩ :=
    boundStage_eq (s := s.withSteer ((s.steer.takeItems.decided changed good s.now).loopStage good)) hentry
  rw [hstage]
  refine SteeringUnit.Bounded.retrace hb ?_ ?_ hmax hslew'
  · rw [withSteer_steer, hloop]
    exact hkept.limitM.trans_le hlimit
  · rw [withSteer_steer, hloop]
    exact hkept.uManual.trans_le hmanual

theorem steerMark_bounded (h : s.steer.Bounded) : s.steerMark.steer.Bounded := by
  rw [steerMark_steer]
  refine markSteer_bounded ?_ _ _
  rw [markReferences_steer]
  exact h.same ⟨rfl, rfl, rfl, rfl, rfl, rfl, rfl, rfl, rfl⟩

/-! ## Every command -/

theorem mainLoss_bounded (h : s.steer.Bounded) : s.mainLoss.steer.Bounded := by
  rw [mainLoss_steer]
  exact h.lost

theorem finishReturn_bounded (h : s.steer.Bounded) : s.finishReturn.steer.Bounded := by
  cases hdue : s.returnDue
  · rwa [finishReturn_of_not_due s hdue]
  · rw [finishReturn_of_due s hdue]
    simpa using h.resumed

theorem expireAcquisition_bounded (h : s.steer.Bounded) : s.expireAcquisition.steer.Bounded := by
  rw [expireAcquisition_steer]
  split
  · exact h.onManual.same SteeringUnit.opened_same
  · exact h.same ⟨rfl, rfl, rfl, rfl, rfl, rfl, rfl, rfl, rfl⟩

theorem acqElapsed_bounded (h : s.steer.Bounded) : s.acqElapsed.Bounded := by
  unfold acqElapsed
  split
  · exact h.same ⟨rfl, rfl, rfl, rfl, rfl, rfl, rfl, rfl, rfl⟩
  · exact h

theorem writeM_bounded (h : s.steer.Bounded) {n : Nat} (hn : n ≤ 10000000) : (s.writeM n).steer.Bounded := by
  obtain ⟨⟨-, hbound, -, hmanual, hmax⟩, hslew⟩ := h
  have hset : (SteeringUnit.retrace { s.steer with limitM := n }).Bounded := .retrace hbound hn hmanual hmax hslew
  unfold writeM
  dsimp only
  split
  · exact hset
  · exact hset

theorem writeAcqTimeout_bounded (h : s.steer.Bounded) (n : Nat) : (s.writeAcqTimeout n).steer.Bounded := by
  have hset : (s.withSteer { s.steer with acqTimeout := n }).steer.Bounded := h.same ⟨rfl, rfl, rfl, rfl, rfl, rfl, rfl, rfl, rfl⟩
  unfold writeAcqTimeout
  dsimp only
  split
  · exact expireAcquisition_bounded hset
  · exact hset

theorem writeL_bounded (h : s.steer.Bounded) {n : Nat} (hn : n ≤ 8388608) :
    (s.writeLoop fun w => { w with slewL := n }).steer.Bounded :=
  ⟨h.1, h.2.1, h.2.2.1, h.2.2.2.1, hn⟩

/-- A loop item but for the slew limit (R60). -/
theorem writeLoop_bounded (h : s.steer.Bounded) {f : LoopItems → LoopItems} (hf : ∀ w, (f w).slewL = w.slewL) :
    (s.writeLoop f).steer.Bounded :=
  ⟨h.1, h.2.1, h.2.2.1, h.2.2.2.1, (hf s.steer.written).trans_le h.2.2.2.2⟩

/-- What a command makes of the invariant, when it completes. -/
def KeepsBounded (o : Host.Outcome State Fault Refusal) : Prop := ∀ t, o = .next t → t.steer.Bounded

theorem KeepsBounded.next (h : t.steer.Bounded) : KeepsBounded (.next t) := fun _ h' => by cases h'; exact h

theorem serveItem_bounded {p tag item v old} {write : Int → State → State} (h : s.steer.Bounded)
    (hwrite : ∀ u : State, u.steer.Bounded → (write (itemValue item v) u).steer.Bounded) :
    KeepsBounded (.next (s.serveItem p tag item v old write)) :=
  .next (takeWith_of (P := fun u => u.steer.Bounded) h h (hwrite (s.ask (itemConfig p item (old s) v)) h))

theorem execSecondMark_bounded (h : s.steer.Bounded) (first : Bool) : KeepsBounded (execSecondMark first s) := by
  refine .next ?_
  split
  · exact h
  · cases first
    · exact steerMark_bounded (s := s.withXt { s.xt with markDue := none }) h
    · exact steerMark_bounded (s := (s.withXt { s.xt with markDue := none }).trailMark) h

theorem execStepApplied_bounded (h : s.steer.Bounded) : KeepsBounded (execStepApplied s) := by
  refine .next ?_
  split
  · exact h
  · dsimp only
    rw [answerStep_steer, actOnLeap_steer]
    exact (acqElapsed_bounded h).same ⟨rfl, rfl, rfl, rfl, rfl, rfl, rfl, rfl, rfl⟩

theorem itemValue_toNat_le {item : TimingItem} {limit : Nat} (hlimit : (itemRange item).2 = limit) (v : BitVec 64) :
    (itemValue item v).toNat ≤ limit := by
  have := (itemValue_mem item v).2
  omega

theorem exec_bounded (h : s.steer.Bounded) (c : Instr) : KeepsBounded (exec c s) := by
  cases c with
  | deviceReset => exact .next ⟨reset_meets_the_invariants.2.2.2.1, reset_meets_the_invariants.2.2.2.2.1⟩
  | mainAbsent =>
    refine .next ?_
    split
    · exact h
    · dsimp only
      split
      · exact mainLoss_bounded (s := s.finishReturn.withTick _) (finishReturn_bounded h)
      · exact finishReturn_bounded h
  | pllLockFallen =>
    refine .next ?_
    split
    · exact h
    · dsimp only
      split
      · exact finishReturn_bounded h
      · split
        · exact mainLoss_bounded (s := s.finishReturn.withTick _) (finishReturn_bounded h)
        · exact finishReturn_bounded h
  | lockWaitExpiry =>
    refine .next ?_
    split
    · exact h
    · dsimp only
      split
      · simpa using h.startAcquire
      · exact h
  | mainReturn => exact .next (finishReturn_bounded h)
  | secondMark first => exact execSecondMark_bounded h first
  | stepApplied => exact execStepApplied_bounded h
  | acqTimeout =>
    refine .next ?_
    split
    · exact expireAcquisition_bounded h
    · exact h
  | clientFrame p bytes =>
    refine .next ?_
    split
    · exact h
    · split
      · split
        · exact h.same ⟨rfl, rfl, rfl, rfl, rfl, rfl, rfl, rfl, rfl⟩
        · exact h
      · rwa [s.receive_frame p _ .steer (by decide)]
  | linkTimeout p =>
    refine .next ?_
    split
    · exact h.same ⟨rfl, rfl, rfl, rfl, rfl, rfl, rfl, rfl, rfl⟩
    · exact h
  | setTime p tag sec =>
    refine .next (takeWith_of (P := fun u => u.steer.Bounded) h h ?_)
    split
    · exact h
    · split
      · exact h
      · exact h.same ⟨rfl, rfl, rfl, rfl, rfl, rfl, rfl, rfl, rfl⟩
  | setTimingAcquisitionTimeout => exact serveItem_bounded h fun u hu => writeAcqTimeout_bounded hu _
  | setTimingM p tag v => exact serveItem_bounded h fun u hu => writeM_bounded hu (itemValue_toNat_le rfl v)
  | setTimingL p tag v => exact serveItem_bounded h fun u hu => writeL_bounded hu (itemValue_toNat_le rfl v)
  | setTimingUManual p tag v =>
    exact serveItem_bounded h fun u hu =>
      ⟨⟨hu.1.1, hu.1.2.1, hu.1.2.2.1, itemValue_toNat_le (item := .uManual) rfl v, hu.1.2.2.2.2⟩, hu.2⟩
  | setTimingWLock | setTimingUFixed =>
    exact serveItem_bounded h fun u hu => hu.same ⟨rfl, rfl, rfl, rfl, rfl, rfl, rfl, rfl, rfl⟩
  | setTimingKp | setTimingKi | setTimingH | setTimingHRing =>
    exact serveItem_bounded h fun u hu => writeLoop_bounded hu fun _ => rfl
  | _ => exact fun t ht => (exec_same ht (b := .steer) (by simp [Instr.touches]) : t.steer = s.steer) ▸ h

/-! ## While stamping is open (R10, R46, R78) -/

theorem lost_open (x : SteeringUnit) : x.lost.stampingOpen = x.stampingOpen := by
  unfold SteeringUnit.lost
  split <;> exact rfl

theorem opened_open (x : SteeringUnit) : x.opened.stampingOpen = true := by
  unfold SteeringUnit.opened
  split
  · assumption
  · exact rfl

theorem finishReturn_open : s.finishReturn.steer.stampingOpen = s.steer.stampingOpen := by
  cases hdue : s.returnDue
  · rw [finishReturn_of_not_due s hdue]
  · rw [finishReturn_of_due s hdue]
    simp [SteeringUnit.resume]

theorem expireAcquisition_open (h : s.steer.stampingOpen = true) : s.expireAcquisition.steer.stampingOpen = true := by
  rw [expireAcquisition_steer]
  split
  · exact opened_open _
  · exact h

theorem decided_open {x : SteeringUnit} {changed good now} (h : x.stampingOpen = true) :
    (x.decided changed good now).stampingOpen = true := by
  unfold SteeringUnit.decided SteeringUnit.counted
  dsimp only
  generalize (if changed = true then 0 else x.lockCount) + 1 = count
  repeat' split
  all_goals first | exact h | exact opened_open _

theorem boundStage_open (s : State) (entered) : (s.boundStage entered).stampingOpen = s.steer.stampingOpen :=
  (boundStage_course s entered).opened

theorem steerMark_open (h : s.steer.stampingOpen = true) : s.steerMark.steer.stampingOpen = true := by
  have hopen : (s.markReferences.steer.takeItems.decided s.selectionChanges s.markGood s.markReferences.now).stampingOpen = true :=
    decided_open (by rw [markReferences_steer]; exact h)
  rw [steerMark_steer, markSteer_steer]
  change (boundStage _ _).stampingOpen = true
  rw [boundStage_open, withSteer_steer, (loopStage_course _ _).opened]
  exact hopen

theorem mainLoss_open : s.mainLoss.steer.stampingOpen = s.steer.stampingOpen := by
  rw [mainLoss_steer, lost_open]

/-- Stamping stays open at a command that is no device reset, when it completes. -/
def StaysOpen (o : Host.Outcome State Fault Refusal) : Prop := ∀ t, o = .next t → t.steer.stampingOpen = true

theorem StaysOpen.next (h : t.steer.stampingOpen = true) : StaysOpen (.next t) := fun _ h' => by cases h'; exact h

theorem serveItem_staysOpen {p tag item v old} {write : Int → State → State} (h : s.steer.stampingOpen = true)
    (hwrite : ∀ x, ∀ u : State, u.steer.stampingOpen = true → (write x u).steer.stampingOpen = true) :
    StaysOpen (.next (s.serveItem p tag item v old write)) :=
  .next (takeWith_of (P := fun u => u.steer.stampingOpen = true) h h (hwrite _ (s.ask (itemConfig p item (old s) v)) h))

theorem nextStep_of_open (h : s.steer.stampingOpen = true) : s.nextStep = none := by
  cases hn : s.nextStep with
  | none => rfl
  | some st => exact absurd (h.symm.trans (nextStep_iff.1 hn).2.1) (by decide)

theorem exec_staysOpen {c : Instr} (hreset : ∀ a b d, c ≠ .deviceReset a b d) (h : s.steer.stampingOpen = true) :
    StaysOpen (exec c s) := by
  cases c with
  | deviceReset => exact absurd rfl (hreset _ _ _)
  | mainAbsent =>
    refine .next ?_
    split
    · exact h
    · dsimp only
      split
      · exact mainLoss_open.trans (finishReturn_open.trans h)
      · exact finishReturn_open.trans h
  | pllLockFallen =>
    refine .next ?_
    split
    · exact h
    · dsimp only
      split
      · exact finishReturn_open.trans h
      · split
        · exact mainLoss_open.trans (finishReturn_open.trans h)
        · exact finishReturn_open.trans h
  | lockWaitExpiry =>
    refine .next ?_
    split
    · exact h
    · dsimp only
      split
      · simpa [SteeringUnit.startAcquire] using h
      · exact h
  | mainReturn => exact .next (finishReturn_open.trans h)
  | secondMark first =>
    refine .next ?_
    split
    · exact h
    · cases first
      · exact steerMark_open (s := s.withXt { s.xt with markDue := none }) h
      · exact steerMark_open (s := (s.withXt { s.xt with markDue := none }).trailMark) h
  | stepApplied =>
    intro t ht
    change execStepApplied s = .next t at ht
    rw [execStepApplied, nextStep_of_open h] at ht
    cases ht
    exact h
  | acqTimeout =>
    refine .next ?_
    split
    · exact expireAcquisition_open h
    · exact h
  | clientFrame p bytes =>
    refine .next ?_
    split
    · exact h
    · split
      · split
        · exact h
        · exact h
      · rwa [s.receive_frame p _ .steer (by decide)]
  | linkTimeout p =>
    refine .next ?_
    split
    · exact h
    · exact h
  | setTime p tag sec =>
    refine .next (takeWith_of (P := fun u => u.steer.stampingOpen = true) h h ?_)
    rw [if_pos h]
    exact h
  | setTimingAcquisitionTimeout =>
    refine serveItem_staysOpen h fun x u hu => ?_
    unfold writeAcqTimeout
    dsimp only
    split
    · exact expireAcquisition_open hu
    · exact hu
  | setTimingM =>
    refine serveItem_staysOpen h fun x u hu => ?_
    unfold writeM
    dsimp only
    split
    · exact hu
    · exact hu
  | setTimingKp | setTimingKi | setTimingL | setTimingH | setTimingHRing | setTimingWLock | setTimingUFixed | setTimingUManual =>
    exact serveItem_staysOpen h fun x u hu => hu
  | _ => exact fun t ht => (exec_same ht (b := .steer) (by simp [Instr.touches]) : t.steer = s.steer) ▸ h

/-- While stamping is open only the advance moves XT (R6, R10). -/
theorem exec_ns {c : Instr} (hreset : ∀ a b d, c ≠ .deviceReset a b d) (h : s.steer.stampingOpen = true)
    (hexec : exec c s = .next t) : t.xt.ns = s.xt.ns := by
  cases c with
  | deviceReset => exact absurd rfl (hreset _ _ _)
  | secondMark first =>
    cases hexec
    split
    · exact rfl
    · have hmark (u : State) : u.steerMark.xt.ns = u.xt.ns := by rw [steerMark_xt]
      cases first
      · exact hmark (s.withXt { s.xt with markDue := none })
      · exact hmark (s.withXt { s.xt with markDue := none }).trailMark
  | stepApplied =>
    change execStepApplied s = .next t at hexec
    rw [execStepApplied, nextStep_of_open h] at hexec
    cases hexec
    exact rfl
  | _ => exact congrArg XtCounter.ns (exec_same hexec (b := .xt) (by simp [Instr.touches]))

end State

end Sys2Proof.Machine

namespace Sys2Proof

open Machine

/-- Settles O55: `SteeringUnit.Bounded` is kept by every command and by the tick. -/
theorem everyStepKeepsTheBoundAndTheSlewLimit : Obligations.EveryStepKeepsTheBoundAndTheSlewLimit := by
  intro s t hbound hslew h
  have hs : s.steer.Bounded := ⟨hbound, hslew⟩
  obtain ⟨c, u, hsu, hexec, -⟩ | rfl := step_cases h
  · have hu : u.steer = s.steer := hsu .steer (by decide)
    exact State.exec_bounded (hu ▸ hs) c t hexec
  · exact State.acqElapsed_bounded hs

/-- Settles O56: with stamping open no command but a device reset moves XT or closes stamping, and the advance carries XT forward. -/
theorem xtNeverGoesBackWhileStampingIsOpen : Obligations.XtNeverGoesBackWhileStampingIsOpen := by
  intro s t hopen hreset hend h
  obtain ⟨c, u, hsu, hexec, hc⟩ | rfl := step_cases h
  · have hne : ∀ a b d, c ≠ .deviceReset a b d := fun a b d h => hreset (hc a b d h)
    have hsteer : u.steer = s.steer := hsu .steer (by decide)
    have hxt : u.xt = s.xt := hsu .xt (by decide)
    have hu : u.steer.stampingOpen = true := hsteer ▸ hopen
    exact ⟨State.exec_staysOpen hne hu t hexec, (hxt ▸ State.exec_ns hne hu hexec).ge⟩
  · refine ⟨?_, ?_⟩
    · change s.acqElapsed.stampingOpen = true
      unfold State.acqElapsed
      split <;> exact hopen
    · change s.xt.ns ≤ (s.xt.ns + (s.xt.frac + s.increment) / fracUnits) % xtModulus
      have hmod : (s.xt.ns + (s.xt.frac + s.increment) / fracUnits) % xtModulus =
          s.xt.ns + (s.xt.frac + s.increment) / fracUnits := Nat.mod_eq_of_lt hend
      rw [hmod]
      exact Nat.le_add_right _ _

end Sys2Proof
end

section
/-! PROOFS. The Tick Unit and the Timescale Counter (chapter 1): the tick, the monitors and the return sequence, the main loss, the lock
wait and the completed return, and the device reset (O6 to O10). -/

-- One proof after another: proofs elaborated side by side each hold a thread, more of them than the check has memory for.
set_option Elab.async false

namespace Sys2Proof

open Machine

/-! ## The tick (R1, R6, R8) -/

theorem nextStep_eq_none_iff {s : State} : s.nextStep = none ↔ ∀ st, ¬ stepIsTaken s st := by
  rw [Option.eq_none_iff_forall_ne_some]
  simp only [ne_eq, State.nextStep_iff]

/-- On an empty queue with nothing due, the next tick. -/
theorem step_of_nothing_due {s : State} (hp : s.pending = []) (hd : s.dueEvents = []) : step s = s.nextTick := by
  simp only [step, hp, idle, State.ownEvent, hd]

theorem step_eq_advance {s : State} (hp : s.pending = []) (hd : s.dueEvents = []) (hs : ∀ st, ¬ stepIsTaken s st) :
    step s = .next s.advance := by
  rw [step_of_nothing_due hp hd, State.nextTick, nextStep_eq_none_iff.2 hs]

theorem tickSource_eq_pll_iff {s : State} : s.tickSource = .pll ↔ pllDrives s := by
  unfold State.tickSource pllDrives State.returnPending
  cases s.steer.state <;> simp

theorem tickSource_eq_ring_of_not {s : State} (h : ¬ pllDrives s) : s.tickSource = .ring :=
  tickSource_ring_of_ne fun hp => h (tickSource_eq_pll_iff.1 hp)

theorem increment_of_ticksBy {s : State} {inc : Nat} (h : ticksBy s inc) : s.increment = inc := by
  obtain ⟨hpll, hreturn, hring⟩ := h
  unfold State.increment
  by_cases hd : pllDrives s
  · rw [tickSource_eq_pll_iff.2 hd]
    dsimp only [State.tickAdj, nominalIncrement]
    split
    · rename_i hst
      have : (inc : Int) = 17179869184 + s.steer.resumed := hreturn hd hst
      omega
    · rename_i hst
      have := hpll hd hst
      omega
  · rw [tickSource_eq_ring_of_not hd]
    exact (hring hd).symm

theorem cycles_le (s : State) : s.cycles ≤ 2 := by
  unfold State.cycles
  split
  · omega
  · omega

/-- XT after an increment: exact, with the second mark reached (R6, R8). -/
theorem advance_exact (x : XtCounter) (inc : Nat) (hfrac : x.frac < 4294967296)
    (hend : x.ns + inc / 4294967296 + 1 < 18446744073709551616) :
    (x.advance inc).frac < 4294967296 ∧
      (x.advance inc).ns * 4294967296 + (x.advance inc).frac = x.ns * 4294967296 + x.frac + inc ∧
      (∀ m : Nat, m % 1000000000 = 0 → x.ns < m → m ≤ (x.advance inc).ns → (x.advance inc).ns < m + 1000000000 →
        (x.advance inc).markDue = some m) ∧
      ((∀ m : Nat, m % 1000000000 = 0 → x.ns < m → (x.advance inc).ns < m) → (x.advance inc).markDue = x.markDue) := by
  have hsum : x.ns + (x.frac + inc) / 4294967296 < 18446744073709551616 := by omega
  have hns : (x.advance inc).ns = x.ns + (x.frac + inc) / 4294967296 := Nat.mod_eq_of_lt hsum
  have hrest : (x.advance inc).frac = (x.frac + inc) % 4294967296 := rfl
  have hmark : (x.advance inc).markDue =
      if x.ns / 1000000000 < (x.ns + (x.frac + inc) / 4294967296) / 1000000000
      then some ((x.ns + (x.frac + inc) / 4294967296) / 1000000000 * 1000000000) else x.markDue := rfl
  have hsplit := Nat.div_add_mod (x.frac + inc) 4294967296
  rw [hns, hrest, hmark]
  refine ⟨Nat.mod_lt _ (by decide), by omega, ?_⟩
  generalize x.ns + (x.frac + inc) / 4294967296 = n at *
  refine ⟨fun m hm hlt hle hnext => ?_, fun hnone => if_neg fun hlt => ?_⟩
  · rw [if_pos (by omega), Option.some.injEq]
    omega
  · have := hnone (n / 1000000000 * 1000000000) (by omega) (by omega)
    omega

theorem acqElapsed_eq (s : State) : s.acqElapsed =
    { s.steer with acqTimer := if s.steer.state = .acquire then s.steer.acqTimer.map (· + 1) else s.steer.acqTimer } := by
  unfold State.acqElapsed
  by_cases hst : s.steer.state = .acquire
  · simp [hst, tickSource_eq_pll_iff.2 (.inl hst : pllDrives s)]
  · simp [hst]

theorem advance_ticked (s : State) : Ticked s s.advance s.cycles (s.tick.calibCount.map (· + s.cycles)) := by
  refine ⟨cycles_le s, fun h => tickSource_eq_pll_iff.2 h, fun h => ⟨tickSource_eq_ring_of_not h, ?_⟩, rfl⟩
  rw [State.cycles, tickSource_eq_ring_of_not h]

theorem advance_port (s : State) (p : Port) : s.advance.port p = portTicked s.cycles (s.port p) := by
  simp [State.advance, State.elapse, State.port, PortCtl.elapse, portTicked]

/-- Settles O6: the tick is `State.advance`. -/
theorem tickAdvancesXt : Obligations.TickAdvancesXt := by
  intro s inc hp hd hs hfrac hby hend
  obtain ⟨hfrac', hexact, hmark, hnone⟩ := advance_exact s.xt inc hfrac hend
  have hxt : s.advance.xt = s.xt.advance inc := by rw [← increment_of_ticksBy hby]; exact rfl
  refine ⟨s.advance, s.cycles, step_eq_advance hp hd hs, ?_⟩
  rw [hxt]
  exact ⟨hfrac', hexact, hmark, hnone, advance_ticked s, advance_port s, acqElapsed_eq s, rfl,
    s.advance_frame.mono (by decide)⟩

/-! ## Monitors and the return sequence (R2, R3, R14) -/

theorem tryLockWait_opened {s : State} {tick : TickUnit} (hmonitor : tick.pllMonitor = s.tick.pllMonitor)
    (htimer : tick.lockWaitTimer = s.tick.lockWaitTimer) :
    LockWaitOpened s (s.withTick tick).tryLockWait ∧ (s.withTick tick).tryLockWait.tick = { tick with
      pllMonitor := (s.withTick tick).tryLockWait.tick.pllMonitor
      lockWaitTimer := (s.withTick tick).tryLockWait.tick.lockWaitTimer } := by
  have hopens : (s.withTick tick).lockWaitOpens = true ↔ tick.lockFlag = true ∧ tick.mainMonitor = .present ∧
      s.tick.pllMonitor = .unlocked ∧ (s.steer.state = .cold ∨ s.steer.state = .fallback ∧ tick.returnPhase = .lockWait) := by
    simp only [State.lockWaitOpens, Bool.and_eq_true, Bool.or_eq_true, decide_eq_true_eq, and_assoc]
    rw [← hmonitor]
    exact Iff.rfl
  unfold LockWaitOpened State.tryLockWait
  split
  · rename_i h
    exact ⟨(if_pos (hopens.1 h)).mpr ⟨rfl, rfl⟩, rfl⟩
  · rename_i h
    exact ⟨(if_neg fun hc => h (hopens.2 hc)).mpr ⟨hmonitor, htimer⟩, rfl⟩

theorem tryLockWait_withTick_frame (s : State) (tick : TickUnit) :
    State.differsIn [.tick] s (s.withTick tick).tryLockWait :=
  (s.withTick_frame tick).trans (State.tryLockWait_frame _)

theorem monitorsOpenTheLockWait : MonitorsOpenTheLockWait := by
  refine ⟨fun s hm => ⟨_, ?_, s.withTick_frame { s.tick with mainGap := some 250 }, rfl⟩, fun s hm => ?_, fun s => ?_,
    fun s d hphase hdeadline hd => ?_⟩
  · change execMainPresent s = _
    rw [execMainPresent, hm]
    exact rfl
  · let tick : TickUnit := { s.tick with mainMonitor := .present, mainGap := some gapCycles }
    let settled : TickUnit := if s.tick.returnPhase = .waitMain then tick.settle s.now else tick
    have hsettled : settled = { tick with
        returnPhase := if s.tick.returnPhase = .waitMain then .settle else s.tick.returnPhase
        settleDeadline := if s.tick.returnPhase = .waitMain then
          some (s.now + ((s.tick.settlePeriod * 1000000000 : Nat) : Int)) else s.tick.settleDeadline } := by
      simp only [settled]
      split <;> exact rfl
    obtain ⟨hopened, htick⟩ := tryLockWait_opened (s := s) (tick := settled) (by rw [hsettled]) (by rw [hsettled])
    refine ⟨_, ?_, hopened, tryLockWait_withTick_frame s settled, htick.trans ?_⟩
    · change execMainPresent s = _
      rw [execMainPresent, hm]
    · rw [hsettled]
      exact rfl
  · obtain ⟨hopened, htick⟩ := tryLockWait_opened (s := s) (tick := { s.tick with lockFlag := true }) rfl rfl
    exact ⟨_, rfl, hopened, tryLockWait_withTick_frame s _, htick⟩
  · obtain ⟨hopened, htick⟩ :=
      tryLockWait_opened (s := s) (tick := { s.tick with returnPhase := .lockWait, settleDeadline := none }) rfl rfl
    refine ⟨_, ?_, hopened, tryLockWait_withTick_frame s _, htick⟩
    change execSettleComplete s = _
    rw [execSettleComplete, if_pos ⟨hphase, by simp [reached, hdeadline, hd]⟩]
    exact rfl

theorem returnDue_iff_returnEdge {s : State} : s.returnDue = true ↔ returnEdge s := State.returnDue_iff

theorem finishReturn_of_no_edge {s : State} (h : ¬ returnEdge s) : s.finishReturn = s :=
  State.finishReturn_of_not_due s (by rw [← Bool.not_eq_true, returnDue_iff_returnEdge]; exact h)

theorem mainSilent_iff {t : TickUnit} : t.mainSilent = true ↔ t.mainMonitor = .present ∧ t.mainGap = some 0 := by
  simp [TickUnit.mainSilent]

/-- A main loss does nothing in COLD and in FALLBACK (R4). -/
theorem mainLoss_of_ring {s : State} (h : s.steer.state = .cold ∨ s.steer.state = .fallback) : s.mainLoss = s := by
  unfold State.mainLoss
  rcases h with h | h <;> simp [h]

/-- The Tick Unit once the main oscillator is found absent (R2, R3, Table 1-4). -/
def tickMainAbsent (t : TickUnit) : TickUnit :=
  { t.mainGone with mainMonitor := .absent, mainGap := none, pllMonitor := .unlocked, lockWaitTimer := none }

/-- The Tick Unit once the lock flag has fallen (R3). -/
def tickLockFallen (t : TickUnit) : TickUnit := { t with lockFlag := false, pllMonitor := .unlocked, lockWaitTimer := none }

theorem exec_mainAbsent {s : State} (hm : s.tick.mainMonitor = .present) (hg : s.tick.mainGap = some 0) :
    exec .mainAbsent s = .next
      (if s.finishReturn.tick.pllMonitor = .confirmed then (s.finishReturn.withTick (tickMainAbsent s.finishReturn.tick)).mainLoss
        else s.finishReturn.withTick (tickMainAbsent s.finishReturn.tick)) := by
  change execMainAbsent s = _
  rw [execMainAbsent, if_neg (by simp [mainSilent_iff.2 ⟨hm, hg⟩])]
  exact rfl

theorem exec_pllLockFallen {s : State} (hm : s.tick.mainMonitor = .present) :
    exec .pllLockFallen s = .next
      (if s.finishReturn.tick.returnPhase = .lockWait then
        s.finishReturn.withTick ((tickLockFallen s.finishReturn.tick).settle s.finishReturn.now)
      else if s.finishReturn.tick.pllMonitor = .confirmed then
        (s.finishReturn.withTick (tickLockFallen s.finishReturn.tick)).mainLoss
      else s.finishReturn.withTick (tickLockFallen s.finishReturn.tick)) := by
  change execPllLockFallen s = _
  rw [execPllLockFallen, hm]
  exact rfl

theorem tickMainAbsent_eq (t : TickUnit) : tickMainAbsent t = { t with
    mainMonitor := .absent
    mainGap := none
    pllMonitor := .unlocked
    lockWaitTimer := none
    returnPhase := if t.returnPhase = .settle ∨ t.returnPhase = .lockWait then .waitMain else t.returnPhase
    settleDeadline := if t.returnPhase = .settle ∨ t.returnPhase = .lockWait then none else t.settleDeadline } := by
  unfold tickMainAbsent TickUnit.mainGone
  cases hp : t.returnPhase <;> simp [hp]

theorem lossOutsideOperationIsNoMainLoss : LossOutsideOperationIsNoMainLoss := by
  refine ⟨fun s hm hg hedge hloss => ?_, fun s hm hedge hloss => ?_, fun s hm => ?_⟩
  · refine ⟨s.withTick (tickMainAbsent s.tick), ?_, s.withTick_frame _, tickMainAbsent_eq _⟩
    rw [exec_mainAbsent hm hg, finishReturn_of_no_edge hedge]
    split
    · rename_i hconf
      exact congrArg Host.Outcome.next (mainLoss_of_ring (s := s.withTick (tickMainAbsent s.tick)) (hloss.resolve_left (not_not.2 hconf)))
    · rfl
  · by_cases hphase : s.tick.returnPhase = .lockWait
    · refine ⟨s.withTick ((tickLockFallen s.tick).settle s.now), ?_, s.withTick_frame _, ?_⟩
      · rw [exec_pllLockFallen hm, finishReturn_of_no_edge hedge, if_pos hphase]
      · simp only [if_pos hphase]
        exact rfl
    · refine ⟨s.withTick (tickLockFallen s.tick), ?_, s.withTick_frame _, ?_⟩
      · rw [exec_pllLockFallen hm, finishReturn_of_no_edge hedge, if_neg hphase]
        split
        · rename_i hconf
          exact congrArg Host.Outcome.next (mainLoss_of_ring (s := s.withTick (tickLockFallen s.tick)) (hloss.resolve_left (not_not.2 hconf)))
        · rfl
      · simp only [if_neg hphase]
        exact rfl
  · refine ⟨s.withTick { s.tick with lockFlag := false }, ?_, s.withTick_frame _, rfl⟩
    change execPllLockFallen s = _
    rw [execPllLockFallen, hm]

/-- Settles O7: each command is an update of the Tick Unit, and where a lock wait may open, `State.tryLockWait`. -/
theorem monitorsFollowTheMainInputAndTheLockFlag : Obligations.MonitorsFollowTheMainInputAndTheLockFlag :=
  ⟨monitorsOpenTheLockWait, lossOutsideOperationIsNoMainLoss⟩

/-! ## Reports of a change (R38, R133) -/

/-- The entry just written is the newest. -/
theorem newestEntry_of_wrote {t : State} {tr : TrailUnit} {b : TrailBody} (h : TrailUnit.Wrote tr t.trail b t.writing) :
    t.newestEntry b := by
  obtain ⟨hstore, hwIx, -⟩ := h
  unfold State.newestEntry
  split at hstore <;> rw [hstore.1, hwIx] <;> simp

theorem reportTimescale_wrote (u : State) (old : TimescaleState) (c : TimescaleCause) :
    State.wrote (.timescale old u.steer.state c u.steer.bound u.steer.traceable none) u (u.reportTimescale old c) :=
  TrailUnit.request_wrote _ _ _ rfl

theorem reportTimescale_newest (u : State) (old : TimescaleState) (c : TimescaleCause) :
    (u.reportTimescale old c).newestEntry (.timescale old u.steer.state c u.steer.bound u.steer.traceable none) :=
  newestEntry_of_wrote (TrailUnit.request_wrote _ _ _ rfl)

theorem reportTimescale_told (u : State) (old : TimescaleState) (c : TimescaleCause) :
    State.toldStatus (.timescale c) u (u.reportTimescale old c) :=
  State.raiseStatus_toldStatus (u.ask _) _

/-- An entry written after a change in other blocks. -/
theorem wrote_of_same {s u t : State} {b : TrailBody} (h : State.wrote b u t) (htrail : u.trail = s.trail := by exact rfl)
    (hxt : u.xt = s.xt := by exact rfl) (harb : u.arb = s.arb := by exact rfl) : State.wrote b s t := by
  unfold State.wrote State.writingTo State.now at h ⊢
  rwa [htrail, hxt, harb] at h

/-- A notice raised after a change in other blocks. -/
theorem toldStatus_of_same {s u t : State} {c : StatusCause} (h : State.toldStatus c u t) (hports : u.ports = s.ports := by exact rfl) :
    State.toldStatus c s t := by
  unfold State.toldStatus State.port at h ⊢
  rwa [hports] at h

/-- Nothing is told to the Leap Unit where its store is empty (R71). -/
theorem tellLeap_of_no_store {s : State} {old : TimescaleState} (h : s.leap.store = none) (hst : s.steer.state ≠ .locked) :
    s.tellLeap old = s := by
  unfold State.tellLeap
  cases hs : s.steer.state <;> simp_all

theorem enterState_of_no_store {s : State} {st : TimescaleState} (h : s.leap.store = none) (hst : st ≠ .locked) :
    s.enterState st = s.withSteer { s.steer with state := st } := tellLeap_of_no_store h hst

/-! ## The main loss (R4, R13, R44) -/

/-- The part in its new state, before the change is reported. -/
def lossEntered (s : State) : State :=
  ((s.withTick (s.tick.lost s.steer.state s.now)).withSteer
    (if s.steer.state = .acquire then { s.steer with lockCount := 0, acqTimer := none } else s.steer)).enterState
      (if s.steer.state = .acquire then .cold else .fallback)

theorem mainLoss_eq {s : State} (h : s.steer.state = .acquire ∨ s.steer.state = .locked ∨ s.steer.state = .holdover) :
    s.mainLoss = (lossEntered s).reportTimescale s.steer.state .mainLoss := by
  unfold State.mainLoss lossEntered TickUnit.lost
  rcases h with h | h | h <;> rw [h] <;> exact rfl

theorem lossEntered_steer (s : State) :
    (lossEntered s).steer = (if s.steer.state = .acquire then { s.steer with state := .cold, lockCount := 0, acqTimer := none }
      else { s.steer with state := .fallback }) := by
  unfold lossEntered
  rw [State.enterState_steer]
  split <;> exact rfl

theorem lossEntered_tick (s : State) : (lossEntered s).tick = s.tick.lost s.steer.state s.now := by
  unfold lossEntered
  rw [State.enterState_tick]
  exact rfl

theorem lossEntered_of_no_store {s : State} (h : s.leap.store = none) :
    (lossEntered s).leap = s.leap ∧ (lossEntered s).segs = s.segs ∧ (lossEntered s).trail = s.trail ∧
      (lossEntered s).ports = s.ports := by
  have hst : (if s.steer.state = .acquire then TimescaleState.cold else .fallback) ≠ .locked := by split <;> simp
  have heq : lossEntered s = State.withSteer _ _ := enterState_of_no_store h hst
  rw [heq]
  exact ⟨rfl, rfl, rfl, rfl⟩

theorem lossEntered_clock (s : State) : (lossEntered s).xt = s.xt ∧ (lossEntered s).arb = s.arb := by
  unfold lossEntered
  rw [State.enterState_xt, State.enterState_arb]
  exact ⟨rfl, rfl⟩

/-- A report of a change made in other blocks, with the bound and the flag that stood (R38). -/
theorem reportTimescale_after {s u : State} {old new : TimescaleState} {c : TimescaleCause} {bound : Nat} {flag : Bool}
    (hstate : u.steer.state = new) (hbound : u.steer.bound = bound) (hflag : u.steer.traceable = flag)
    (hxt : u.xt = s.xt) (harb : u.arb = s.arb) (htrail : u.trail = s.trail) (hports : u.ports = s.ports) :
    State.wrote (.timescale old new c bound flag none) s (u.reportTimescale old c) ∧
      State.toldStatus (.timescale c) s (u.reportTimescale old c) := by
  subst hstate hbound hflag
  exact ⟨wrote_of_same (reportTimescale_wrote u old c) htrail hxt harb, toldStatus_of_same (reportTimescale_told u old c) hports⟩

theorem mainLoss_frame_after {s : State} (tick : TickUnit) :
    State.differsIn [.tick, .steer, .leap, .segs, .trail, .ports, .lastCause] s (s.withTick tick).mainLoss :=
  .trans ((s.withTick_frame tick).mono (by decide)) (State.mainLoss_frame _)

/-- What a main loss in operation writes, whatever the monitors that made it (R4, R13, R44). -/
theorem mainLoss_report {s : State} (h : s.steer.state = .acquire ∨ s.steer.state = .locked ∨ s.steer.state = .holdover) :
    s.mainLoss.newestEntry (.timescale s.steer.state s.mainLoss.steer.state .mainLoss s.steer.bound s.steer.traceable none) ∧
      s.mainLoss.lastCause = some (.timescale .mainLoss) ∧
      (s.leap.store = none → s.mainLoss.leap = s.leap ∧ s.mainLoss.segs = s.segs ∧
        State.wrote (.timescale s.steer.state s.mainLoss.steer.state .mainLoss s.steer.bound s.steer.traceable none) s s.mainLoss ∧
        State.toldStatus (.timescale .mainLoss) s s.mainLoss) := by
  have hsteer := lossEntered_steer s
  have hbound : (lossEntered s).steer.bound = s.steer.bound := by rw [hsteer]; split <;> exact rfl
  have hflag : (lossEntered s).steer.traceable = s.steer.traceable := by rw [hsteer]; split <;> exact rfl
  obtain ⟨hxt, harb⟩ := lossEntered_clock s
  have hstore := @lossEntered_of_no_store s
  rw [mainLoss_eq h]
  generalize lossEntered s = u at *
  rw [State.reportTimescale_steer, ← hbound, ← hflag]
  refine ⟨reportTimescale_newest u _ _, State.raiseStatus_lastCause _ _, fun hno => ?_⟩
  obtain ⟨hleap, hsegs, htrail, hports⟩ := hstore hno
  exact ⟨hleap, hsegs, reportTimescale_after rfl rfl rfl hxt harb htrail hports⟩

theorem mainLoss_blocks {s : State} (h : s.steer.state = .acquire ∨ s.steer.state = .locked ∨ s.steer.state = .holdover) :
    s.mainLoss.tick = s.tick.lost s.steer.state s.now ∧
      s.mainLoss.steer = (if s.steer.state = .acquire then { s.steer with state := .cold, lockCount := 0, acqTimer := none }
        else { s.steer with state := .fallback }) := by
  rw [mainLoss_eq h, State.reportTimescale_tick, State.reportTimescale_steer]
  exact ⟨lossEntered_tick s, lossEntered_steer s⟩

theorem not_returnEdge_of_phase {s : State} (h : s.tick.returnPhase = .none) : ¬ returnEdge s := fun hedge => by
  have := hedge.2.1
  simp [h] at this

/-- The Tick Unit after the loss of the main oscillator and after a fall of the lock flag, in operation (R2, R3, R13). -/
theorem tickMainAbsent_lost {t : TickUnit} {st : TimescaleState} {now : Ns} (hphase : t.returnPhase = .none)
    (h : st = .acquire ∨ st = .locked ∨ st = .holdover) : (tickMainAbsent t).lost st now = { t with
      mainMonitor := .absent
      mainGap := none
      pllMonitor := .unlocked
      lockWaitTimer := none
      source := .ring
      calibCount := none
      returnPhase := if st = .acquire then .none else .waitMain
      settleDeadline := if st = .acquire then t.settleDeadline else none } := by
  rw [tickMainAbsent_eq]
  rcases h with rfl | rfl | rfl <;> simp [TickUnit.lost, TickUnit.afterLoss, hphase]

theorem tickLockFallen_lost {t : TickUnit} {st : TimescaleState} {now : Ns} (hm : t.mainMonitor = .present)
    (hphase : t.returnPhase = .none) (h : st = .acquire ∨ st = .locked ∨ st = .holdover) : (tickLockFallen t).lost st now = { t with
      lockFlag := false
      pllMonitor := .unlocked
      lockWaitTimer := none
      source := .ring
      calibCount := none
      returnPhase := if st = .acquire then .none else .settle
      settleDeadline := if st = .acquire then t.settleDeadline
        else some (now + ((t.settlePeriod * 1000000000 : Nat) : Int)) } := by
  rcases h with rfl | rfl | rfl <;>
    simp [TickUnit.lost, TickUnit.afterLoss, tickLockFallen, hm, hphase, TickUnit.settle, secondNs]

/-- Settles O8: both commands come to `State.mainLoss` after their monitors. -/
theorem mainLossGoesToTheRing : Obligations.MainLossGoesToTheRing := by
  intro c s hc hm hgap hconf hphase hst
  have hfin := finishReturn_of_no_edge (not_returnEdge_of_phase hphase)
  rcases hc with rfl | rfl
  · obtain ⟨htick, hsteer⟩ := mainLoss_blocks (s := s.withTick (tickMainAbsent s.tick)) hst
    refine ⟨_, ?_, mainLoss_frame_after _, htick.trans ((tickMainAbsent_lost hphase hst).trans ?_), hsteer,
      mainLoss_report (s := s.withTick _) hst⟩
    · rw [exec_mainAbsent hm (hgap rfl), hfin, if_pos hconf]
    · simp
  · obtain ⟨htick, hsteer⟩ := mainLoss_blocks (s := s.withTick (tickLockFallen s.tick)) hst
    refine ⟨_, ?_, mainLoss_frame_after _, htick.trans ((tickLockFallen_lost hm hphase hst).trans ?_), hsteer,
      mainLoss_report (s := s.withTick _) hst⟩
    · rw [exec_pllLockFallen hm, hfin, if_neg (by simp [hphase]), if_pos hconf]
    · simp [hm]

/-! ## The lock wait and the completed return (R3, R5, R15, R40, R50) -/

theorem enterState_of_fallback {s : State} (h : s.steer.state = .fallback) :
    s.enterState .holdover = s.withSteer { s.steer with state := .holdover } := by
  unfold State.enterState
  rw [h]
  exact rfl

theorem lockWaitExpiryConfirms : LockWaitExpiryConfirms := by
  intro s hwait htimer
  have hover : s.tick.lockWaitOver = true := by simp [TickUnit.lockWaitOver, hwait, htimer]
  have hexec : exec .lockWaitExpiry s = .next (if s.steer.state = .cold then
      ((s.withTick { s.tick with pllMonitor := .confirmed, lockWaitTimer := none }).withSteer
        { s.steer.startAcquire with state := .acquire }).reportTimescale .cold .lockConfirmed
      else s.withTick { s.tick with pllMonitor := .confirmed, lockWaitTimer := none }) := by
    change execLockWaitExpiry s = _
    rw [execLockWaitExpiry, if_neg (by simp [hover])]
    exact rfl
  rw [hexec]
  refine ⟨fun hst => ?_, fun hst => ⟨_, by rw [if_neg hst], s.withTick_frame _, rfl⟩⟩
  rw [if_pos hst]
  exact ⟨_, rfl, .trans (.trans ((s.withTick_frame _).mono (by decide)) ((State.withSteer_frame _ _).mono (by decide)))
      ((State.reportTimescale_frame _ _ _).mono (by decide)), rfl, rfl,
    reportTimescale_after rfl rfl rfl rfl rfl rfl rfl⟩

theorem finishReturn_of_edge {s : State} (h : returnEdge s) : s.finishReturn =
    ((s.withTick { s.tick with returnPhase := .none }).withSteer { s.steer.resume with state := .holdover }).reportTimescale .fallback
      .mainReturn := by
  rw [State.finishReturn_of_due s (returnDue_iff_returnEdge.2 h),
    enterState_of_fallback (s := (s.withTick _).withSteer s.steer.resume) h.1]
  exact rfl

/-- A loss at the edge's tick is a loss after the completed return (log entry 22). -/
theorem losses_after_return {s t : State} (ht : t = s.finishReturn) (hphase : t.tick.returnPhase = .none)
    (hmon : t.tick.mainMonitor = s.tick.mainMonitor) (hgap : t.tick.mainGap = s.tick.mainGap) (hm : s.tick.mainMonitor = .present) :
    exec .pllLockFallen s = exec .pllLockFallen t ∧ (s.tick.mainGap = some 0 → exec .mainAbsent s = exec .mainAbsent t) := by
  have hfin : t.finishReturn = t := finishReturn_of_no_edge (not_returnEdge_of_phase hphase)
  refine ⟨?_, fun hg => ?_⟩
  · rw [exec_pllLockFallen hm, exec_pllLockFallen (hmon.trans hm), hfin, ← ht]
  · rw [exec_mainAbsent hm hg, exec_mainAbsent (hmon.trans hm) (hgap.trans hg), hfin, ← ht]

theorem mainReturnGoesToHoldover : MainReturnGoesToHoldover := by
  intro s hedge
  refine ⟨s.finishReturn, rfl, ?_⟩
  have hafter := finishReturn_of_edge hedge
  refine ⟨?_, ?_, ?_, ?_, ?_, fun hm => losses_after_return rfl ?_ ?_ ?_ hm⟩ <;> rw [hafter]
  case refine_1 =>
    exact .trans (.trans ((s.withTick_frame _).mono (by decide)) ((State.withSteer_frame _ _).mono (by decide)))
      ((State.reportTimescale_frame _ _ _).mono (by decide))
  case refine_4 => exact And.left (reportTimescale_after rfl rfl rfl rfl rfl rfl rfl)
  case refine_5 => exact And.right (reportTimescale_after rfl rfl rfl rfl rfl rfl rfl)
  all_goals exact rfl

/-- Settles O9: the end of a lock wait, and the return's edge with a loss at its tick. -/
theorem lockWaitExpiryAndMainReturnGiveThePll : Obligations.LockWaitExpiryAndMainReturnGiveThePll :=
  ⟨lockWaitExpiryConfirms, mainReturnGoesToHoldover⟩

/-! ## The device reset (R17, R76) -/

theorem advance_of_stored {x : EpochStore} {n : Nat} {writeLost : Bool} (h : x.stored = some n) :
    x.advance false writeLost = { epoch := (n + 1) % 65536, reinitialised := false
                                  stored := some (if writeLost then n else (n + 1) % 65536) } := by
  simp [EpochStore.advance, h]

theorem advance_of_lost {x : EpochStore} {storeLost writeLost : Bool} (h : storeLost = true ∨ x.stored = none) :
    x.advance storeLost writeLost = { epoch := 0, reinitialised := true, stored := if writeLost then none else some 0 } := by
  rcases h with rfl | h
  · rfl
  · cases storeLost <;> simp [EpochStore.advance, h]

/-- Settles O10: `State.afterReset` block by block, and the Epoch Store's two cases. -/
theorem deviceResetRestoresEveryBlock : Obligations.DeviceResetRestoresEveryBlock := by
  intro straps storeLost writeLost s
  refine ⟨_, rfl, rfl, rfl, rfl, rfl, rfl, rfl, rfl, rfl, rfl, rfl, rfl, rfl, ?_, advance_of_lost, rfl, fun p => ?_, ?_⟩
  · rintro n rfl hn
    exact advance_of_stored hn
  · exact Bank.get_ofFn _ p
  · exact fun b hb => by cases b <;> simp_all [Block.same]

end Sys2Proof
end


section
/-! PROOFS. The Reference Monitors: the serial receiver (R18, R19), the verdicts and their recording (R21 to R27), and the absence of
a reference (R25). -/

-- One proof after another: proofs elaborated side by side each hold a thread, more of them than the check has memory for.
set_option Elab.async false

namespace Sys2Proof

open Machine

/-! ## The serial receiver (R18, R19) -/

theorem byteSum_eq (bs : List Byte) : byteSum bs = (bs.map fun b => b.toNat).sum % 256 := by
  have hfold : ∀ (bs : List Byte) (n : Nat), bs.foldl (fun acc b => acc + b.toNat) n = n + (bs.map fun b => b.toNat).sum := by
    intro bs
    induction bs with
    | nil => simp
    | cons b bs ih =>
      intro n
      simp [ih, Nat.add_assoc]
  simp [byteSum, hfold]

theorem leapCodeOf_eq_some_iff {b : Byte} {a : LeapCode} : leapCodeOf b = some a ↔ b.toNat ≤ 2 ∧
    (a = .none ↔ b.toNat = 0) ∧ (a = .insert ↔ b.toNat = 1) ∧ (a = .delete ↔ b.toNat = 2) := by
  unfold leapCodeOf
  split <;> rename_i h
  · rw [h]; cases a <;> simp
  · rw [h]; cases a <;> simp
  · rw [h]; cases a <;> simp
  · have : ¬ b.toNat ≤ 2 := by
      intro hle
      interval_cases b.toNat <;> simp_all
    simp [this]

/-- What the receiver keeps as the last message when a message is complete (R19). -/
def messageKept (all : List Byte) (arrival : Ns) (before : Option Message) : Option Message :=
  match parseMessage all arrival with
  | some m => some m
  | none => before

theorem messageKept_spec (all : List Byte) (arrival : Ns) (before : Option Message) :
    LastMessageAfter all arrival before (messageKept all arrival before) := by
  unfold messageKept parseMessage LastMessageAfter messagePasses
  rw [byteSum_eq]
  cases hcode : leapCodeOf (byteAt all 6) with
  | none =>
    have hbad : ¬ (byteAt all 6).toNat ≤ 2 := by
      intro hle
      interval_cases h : (byteAt all 6).toNat <;> simp [leapCodeOf, h] at hcode
    exact ⟨fun _ => rfl, fun hp => absurd hp.2.1 hbad⟩
  | some a =>
    obtain ⟨hle, hnone, hins, hdel⟩ := leapCodeOf_eq_some_iff.1 hcode
    by_cases hpass : (all.map fun b => b.toNat).sum % 256 = 0 ∧ (byteAt all 7).toNat ≤ 15 ∧ fieldAt all 0 5 < secondsLimit
    · simp only [if_pos hpass]
      exact ⟨fun hn => absurd ⟨hpass.1, hle, hpass.2⟩ hn, fun _ => ⟨a, hnone, hins, hdel, rfl⟩⟩
    · simp only [if_neg hpass]
      exact ⟨fun _ => trivial, fun hp => absurd ⟨hp.1, hp.2.2⟩ hpass⟩

section

variable {x : RefRecord} {now : Ns} {b : LineByte} {held : List Byte}

theorem hearByte_of_short (h : x.underAssembly b (now - (b.ago : Int)) = some held) (hlt : (held ++ [b.value]).length < 16) :
    x.hearByte now b = { x with assembly := some (held ++ [b.value]), busyUntil := now - (b.ago : Int) } := by
  unfold RefRecord.hearByte
  dsimp only
  rw [h]
  exact if_pos hlt

theorem hearByte_of_complete (h : x.underAssembly b (now - (b.ago : Int)) = some held) (hle : 16 ≤ (held ++ [b.value]).length) :
    x.hearByte now b = { x with
      assembly := none
      busyUntil := now - (b.ago : Int)
      lastMessage := messageKept (held ++ [b.value]) (now - (b.ago : Int)) x.lastMessage } := by
  unfold RefRecord.hearByte
  dsimp only
  rw [h]
  exact if_neg (Nat.not_lt.2 hle)

theorem underAssembly_of_idle {stop : Ns} (h : 500000 ≤ b.high ∧ x.busyUntil + 500000 ≤ stop - 82465) :
    x.underAssembly b stop = some [] := if_pos ((x.idleBefore_iff b stop).2 h)

theorem underAssembly_of_busy {stop : Ns} (h : ¬ (500000 ≤ b.high ∧ x.busyUntil + 500000 ≤ stop - 82465)) :
    x.underAssembly b stop = x.assembly := if_neg (fun hi => h ((x.idleBefore_iff b stop).1 hi))

end

/-- The bytes that follow one taken without an idle line between them are taken too, and the 16th completes the message. -/
theorem hear_run {now : Int} : ∀ (run : LineRun) (prev : LineByte) (held : List Byte) (x : RefRecord) (last : LineByte),
    x.assembly = some held → x.busyUntil = now - (prev.ago : Int) → held.length + run.length = 16 → run.getLast? = some last →
    (∀ (n : Nat) (a b : LineByte), (prev :: run)[n]? = some a → (prev :: run)[n + 1]? = some b →
      b.high < 500000 ∨ a.ago < b.ago + 582465) →
    run.foldl (RefRecord.hearByte now) x = { x with
      assembly := none
      busyUntil := now - (last.ago : Int)
      lastMessage := messageKept (held ++ run.map LineByte.value) (now - (last.ago : Int)) x.lastMessage }
  | [], _, _, _, _, _, _, _, hlast, _ => by simp at hlast
  | b :: rest, prev, held, x, last, hheld, hbusy, hlen, hlast, hgap => by
    have hunder : x.underAssembly b (now - (b.ago : Int)) = some held := by
      rw [underAssembly_of_busy, hheld]
      rw [hbusy]
      rintro ⟨hhigh, hquiet⟩
      have hquiet' : now - (prev.ago : Int) + 500000 ≤ now - (b.ago : Int) - 82465 := hquiet
      have := hgap 0 prev b rfl rfl
      omega
    rw [List.foldl_cons]
    cases rest with
    | nil =>
      obtain rfl : b = last := by simpa using hlast
      rw [hearByte_of_complete hunder (by simp at hlen ⊢; omega)]
      rfl
    | cons c rest =>
      rw [hearByte_of_short hunder (by simp at hlen ⊢; omega),
        hear_run (c :: rest) b (held ++ [b.value]) _ last rfl rfl (by simp at hlen ⊢; omega) (by simpa using hlast)
          fun n => hgap (n + 1)]
      simp

theorem exec_timeOfDayMessage (r : RefId) (run : LineRun) (s : State) :
    exec (.timeOfDayMessage r run) s = .next (s.withRef r (run.foldl (RefRecord.hearByte s.now) (s.refs.get r))) := rfl

/-- Bytes heard change their reference's record alone. -/
theorem heard_of_eq {r : RefId} {run : LineRun} {s : State} {x : RefRecord}
    (h : run.foldl (RefRecord.hearByte s.now) (s.refs.get r) = x) :
    ∃ t : State, exec (.timeOfDayMessage r run) s = .next t ∧ t.refs.get r = x ∧ State.otherRefs r s t ∧
      State.differsIn [.refs] s t :=
  ⟨_, exec_timeOfDayMessage r run s, by rw [State.withRef_get_same, h], s.withRef_otherRefs r _, s.withRef_frame r _⟩

/-- A whole message that begins after an idle line and has no such gap within it is heard and checked. -/
theorem hear_message {x : RefRecord} {now : Ns} {run : LineRun} {first last : LineByte} (hlen : run.length = 16)
    (hfirst : run.head? = some first) (hlast : run.getLast? = some last)
    (hidle : 500000 ≤ first.high ∧ x.busyUntil + 500000 ≤ now - first.ago - 82465)
    (hgap : ∀ (n : Nat) (a b : LineByte), run[n]? = some a → run[n + 1]? = some b →
      b.high < 500000 ∨ a.ago < b.ago + 582465) :
    run.foldl (RefRecord.hearByte now) x = { x with
      assembly := none
      busyUntil := now - last.ago
      lastMessage := messageKept (run.map LineByte.value) (now - last.ago) x.lastMessage } := by
  cases run with
  | nil => simp at hfirst
  | cons b rest =>
    obtain rfl : b = first := by simpa using hfirst
    have hrest : rest ≠ [] := by rintro rfl; simp at hlen
    rw [List.foldl_cons, hearByte_of_short (underAssembly_of_idle hidle) (by simp),
      hear_run rest b [b.value] _ last rfl rfl (by simp at hlen ⊢; omega) (by rw [← hlast, List.getLast?_cons_of_ne_nil hrest]) hgap]
    rfl

/-- Settles O11: one byte by its three cases, a run as its bytes one after another, a whole message by `hear_message`. -/
theorem timeOfDayMessageIsChecked : Obligations.TimeOfDayMessageIsChecked := by
  refine ⟨fun r b s => ⟨fun hbusy hwait => ?_, fun held hheld => ?_⟩, fun r b rest s t hexec => ?_,
    fun r run s first last hlen hfirst hlast hhigh hquiet hgap => ?_, fun r s => ?_⟩
  · refine heard_of_eq (RefRecord.hearByte_of_busy hwait ?_)
    rw [← Bool.not_eq_true, RefRecord.idleBefore_iff]
    exact hbusy
  · have hunder : (s.refs.get r).underAssembly b (s.now - (b.ago : Int)) = some held := by
      rcases hheld with ⟨hidle, rfl⟩ | ⟨hbusy, hheld⟩
      · exact underAssembly_of_idle hidle
      · rw [underAssembly_of_busy hbusy, hheld]
    exact ⟨fun hlt => heard_of_eq (hearByte_of_short hunder hlt),
      fun hle => ⟨_, messageKept_spec _ _ _, heard_of_eq (hearByte_of_complete hunder hle)⟩⟩
  · rw [exec_timeOfDayMessage] at hexec
    injection hexec with ht
    subst ht
    rw [exec_timeOfDayMessage, exec_timeOfDayMessage, State.withRef_get_same]
    simp [State.withRef]
    rfl
  · obtain ⟨t, hexec, hrec, hrest⟩ := heard_of_eq (hear_message (x := s.refs.get r) hlen hfirst hlast ⟨hhigh, hquiet⟩ hgap)
    exact ⟨t, _, hexec, messageKept_spec _ _ _, hrec, hrest⟩
  · refine ⟨_, rfl, s.withRef_get_same r _, s.withRef_otherRefs r _, s.withRef_frame r _, fun b u hu hlow => ?_⟩
    rw [State.withRef_get_same] at hu
    refine ⟨_, exec_timeOfDayMessage r [b] u, ?_⟩
    rw [State.withRef_get_same, List.foldl_cons, List.foldl_nil, RefRecord.hearByte_of_busy (by rw [hu])]
    · exact ⟨rfl, by rw [hu]⟩
    · rw [← Bool.not_eq_true, RefRecord.idleBefore_iff]
      omega

/-! ## A verdict recorded (R24, R26, R27) -/

/-- A verdict recorded on the record that the pulse or the deadline has left, with the judgement on it and its report (R24). -/
theorem recordVerdict_recorded {s : State} {r : RefId} {x : RefRecord} {v : Verdict} {maturity : Ns}
    (hstate : x.state = (s.refs.get r).state) :
    RefRecorded r { x.record v maturity s.now with state := (x.record v maturity s.now).judged v.grade }
      (s.trail.counters.verdict r v) s ((s.withRef r x).recordVerdict r v maturity) := by
  have hrec : (x.record v maturity s.now).state = (s.refs.get r).state := hstate
  generalize hu : ((s.withRef r x).withRef r (x.record v maturity s.now)).count (fun c => c.verdict r v) = u
  have hget : u.refs.get r = x.record v maturity s.now := by rw [← hu]; exact State.withRef_get_same _ r _
  have hother : State.otherRefs r s u := by
    rw [← hu]
    exact (s.withRef_otherRefs r _).trans ((s.withRef r x).withRef_otherRefs r _)
  have hframe : State.differsIn [.refs, .trail, .ports, .lastCause] s u := by
    rw [← hu]
    exact .trans (.trans ((s.withRef_frame r _).mono (by decide)) ((State.withRef_frame _ r _).mono (by decide)))
      ((State.count_frame _ _).mono (by decide))
  have heq : (s.withRef r x).recordVerdict r v maturity = if (x.record v maturity s.now).judged v.grade = (s.refs.get r).state then u
      else u.changeRef r ((x.record v maturity s.now).judged v.grade) := by
    unfold State.recordVerdict
    rw [State.withRef_get_same, show (s.withRef r x).now = s.now from rfl, hu]
    dsimp only
    rw [hget, hrec]
  rw [heq]
  split <;> rename_i hnew
  · rw [hnew]
    refine ⟨?_, hother, hframe, fun _ => ?_, fun h => absurd rfl h⟩
    · rw [hget, ← hrec]
    · rw [← hu]
      exact ⟨rfl, rfl, rfl⟩
  · refine ⟨?_, hother.trans (State.changeRef_otherRefs u r _), hframe.trans ((State.changeRef_frame u r _).mono (by decide)),
      fun h => absurd h hnew, fun _ => ⟨?_, ?_⟩⟩
    · rw [State.changeRef_get_same, hget]
    · have hw := State.changeRef_wrote u r ((x.record v maturity s.now).judged v.grade)
      rw [hget, hrec] at hw
      rw [← hu] at hw ⊢
      exact hw
    · have ht := State.changeRef_toldStatus u r ((x.record v maturity s.now).judged v.grade)
      exact toldStatus_of_same ht (by rw [← hu]; rfl)

theorem qualifies_iff (x : RefRecord) : x.qualifies = true ↔ x.profile = .strict ∧ 10 ≤ x.goodRun ∨
    x.profile = .lenient ∧ x.history.take 4 = [.good, .good, .good, .good] ∧ 12 ≤ x.history.count .good := by
  unfold RefRecord.qualifies
  split <;> simp [*]

/-- A GOOD verdict qualifies a QUALIFYING or LOST reference that passes the test, and changes no other state (R27). -/
theorem judged_good (x : RefRecord) : x.judged .good =
    if (x.state = .qualifying ∨ x.state = .lost) ∧ x.qualifies = true then .qualified else x.state := by
  unfold RefRecord.judged
  cases h : x.state <;> simp

theorem loses_iff (x : RefRecord) : x.loses = true ↔ (if x.profile = .strict then 2 else 8) ≤ x.badRun := by
  unfold RefRecord.loses
  split <;> simp [*]

/-- A BAD or MISSING verdict loses a QUALIFIED reference that fails the loss test, and changes no other state (R26). -/
theorem judged_poor {x : RefRecord} {g : Grade} (hg : g ≠ .good) : x.judged g =
    if x.state = .qualified ∧ (if x.profile = .strict then 2 else 8) ≤ x.badRun then .lost else x.state := by
  simp only [← loses_iff]
  unfold RefRecord.judged
  cases hs : x.state <;> cases g <;> simp_all

/-! ## Pulses judged (R21, R22) -/

/-- The message that stands at a pulse and can be paired with it (R21). -/
def Pairs (s : State) (x : RefRecord) (m : Message) : Prop :=
  x.lastMessage = some m ∧ m.used = false ∧ s.now - 900000000 ≤ m.arrival

theorem paired_iff {s : State} {x : RefRecord} {m : Message} : x.paired s.now = some m ↔ Pairs s x m := by
  unfold RefRecord.paired Pairs pairingNs
  cases x.lastMessage with
  | none => simp
  | some m' =>
    simp only [Option.some.injEq]
    constructor
    · intro h
      split at h <;> simp_all
    · rintro ⟨rfl, hused, harr⟩
      exact if_pos ⟨by simp [hused], harr⟩

theorem inWindow_iff {x : RefRecord} {pWin : Nat} {c : Ns} : x.inWindow pWin c = true ↔
    ∃ p : Ns, x.lastPulse = some p ∧ (1000000000 : Int) - pWin ≤ c - p ∧ c - p ≤ 1000000000 + pWin := by
  unfold RefRecord.inWindow
  split <;> rename_i h
  · simp only [h, Bool.and_eq_true, decide_eq_true_eq, Option.some.injEq, exists_eq_left']
    exact Iff.rfl
  · simp [h]

/-- A pulse meets the four conditions of R21 with the message `m` that it is paired with. -/
def Meets (s : State) (x : RefRecord) (m : Message) : Prop :=
  Pairs s x m ∧ (∃ p : Ns, x.lastPulse = some p ∧ (1000000000 : Int) - s.refCfg.pWin ≤ s.now - p ∧
    s.now - p ≤ 1000000000 + s.refCfg.pWin) ∧
    (x.goodLabel = none ∨ ∃ l : Nat, x.goodLabel = some l ∧ m.seconds = l + 1) ∧ s.refCfg.minQuality ≤ m.quality

theorem goodLabel_iff (x : RefRecord) (m : Message) : x.goodLabel = none ∨ x.goodLabel.map (· + 1) = some m.seconds ↔
    x.goodLabel = none ∨ ∃ l : Nat, x.goodLabel = some l ∧ m.seconds = l + 1 := by
  cases x.goodLabel <;> simp [eq_comm]

theorem verdict_of_meets {s : State} {x : RefRecord} {m : Message} (h : Meets s x m) :
    x.verdict s.refCfg s.now = .good (x.measure m s.now) := by
  obtain ⟨hpair, hwindow, hlabel, hquality⟩ := h
  unfold RefRecord.verdict
  rw [paired_iff.2 hpair]
  exact if_pos ⟨inWindow_iff.2 hwindow, (goodLabel_iff x m).2 hlabel, hquality⟩

theorem verdict_of_not_meets {s : State} {x : RefRecord} (h : ∀ m : Message, ¬ Meets s x m) :
    x.verdict s.refCfg s.now = .bad := by
  unfold RefRecord.verdict
  split <;> rename_i hpair
  · exact if_neg fun ⟨hwindow, hlabel, hquality⟩ =>
      h _ ⟨paired_iff.1 hpair, inWindow_iff.1 hwindow, (goodLabel_iff x _).1 hlabel, hquality⟩
  · rfl

theorem exec_referencePulse_judged {s : State} {r : RefId} (h : (s.refs.get r).state ≠ .absent) :
    exec (.referencePulse r) s = .next ((s.withRef r ((s.refs.get r).judgePulse s.refCfg s.now)).recordVerdict r
      ((s.refs.get r).verdict s.refCfg s.now) (s.now + maturityNs)) := congrArg Host.Outcome.next (if_neg h)

/-- A GOOD pulse in its record, but for the judgement (R21, R22, R24). -/
theorem record_good {s : State} {x : RefRecord} {m : Message} (h : Meets s x m) (maturity : Ns) :
    (x.judgePulse s.refCfg s.now).record (.good (x.measure m s.now)) maturity s.now = { x with
      lastMessage := some { m with used := true }
      lastPulse := some s.now
      expected := some (s.now + 1000000000 + s.refCfg.pWin)
      absence := some (s.now + 10000000000)
      goodLabel := some m.seconds
      history := (Grade.good :: x.history).take 16
      goodRun := min (x.goodRun + 1) 65535
      badRun := 0
      lastE := some (x.measure m s.now).e
      span := offerError x.span (x.measure m s.now).e
      ready := readyAfter x s.now
      waiting := some { verdict := .good (x.measure m s.now), maturity := maturity } } := by
  have hverdict := verdict_of_meets h
  obtain ⟨⟨hlast, hused, harr⟩, -⟩ := h
  have hpaired := paired_iff.2 ⟨hlast, hused, harr⟩
  simp only [RefRecord.record, RefRecord.judgePulse, hverdict, hpaired, hlast, satAdd_eq_min]
  exact rfl

/-- A poor verdict in its record, but for the judgement and the loss of the GOOD label (R24). -/
theorem record_poor (x : RefRecord) {v : Verdict} (hv : v = .bad ∨ v = .missing) (maturity now : Ns) :
    x.record v maturity now = { x with
      history := ((if v = .missing then Grade.missing else Grade.bad) :: x.history).take 16
      goodRun := 0
      badRun := min (x.badRun + 1) 65535
      lastE := none
      ready := readyAfter x now
      waiting := some { verdict := v, maturity := maturity } } := by
  rcases hv with rfl | rfl <;> simp only [RefRecord.record, satAdd_eq_min] <;> exact rfl

/-- The judgement on a poor verdict gives `poorSecond` of the record that its pulse or its deadline has left. -/
theorem judged_record_poor {x : RefRecord} {v : Verdict} (hv : v = .bad ∨ v = .missing) (maturity now : Ns)
    (hlabel : x.goodLabel = none) :
    ({ x.record v maturity now with state := (x.record v maturity now).judged v.grade } : RefRecord) =
      poorSecond x v maturity now := by
  have hg : v.grade ≠ .good := by rcases hv with rfl | rfl <;> decide
  rw [judged_poor hg, record_poor x hv]
  unfold poorSecond
  rw [← hlabel]

/-- Settles O13: the verdict is GOOD with the paired message's measurement, and `recordVerdict_recorded` records it. -/
theorem goodPulseIsMeasuredAndRecorded : Obligations.GoodPulseIsMeasuredAndRecorded := by
  intro r s m p
  dsimp only
  intro hstate hlast hused harr hpulse hlow hhigh hlabel hquality
  have hmeets : Meets s (s.refs.get r) m := ⟨⟨hlast, hused, harr⟩, ⟨p, hpulse, hlow, hhigh⟩, hlabel, hquality⟩
  have hrec := recordVerdict_recorded (s := s) (r := r) (x := (s.refs.get r).judgePulse s.refCfg s.now)
    (v := .good ((s.refs.get r).measure m s.now)) (maturity := s.now + maturityNs) rfl
  have hjudged := judged_good (((s.refs.get r).judgePulse s.refCfg s.now).record (.good ((s.refs.get r).measure m s.now))
    (s.now + maturityNs) s.now)
  simp only [qualifies_iff, record_good hmeets] at hjudged
  rw [record_good hmeets] at hrec
  refine ⟨_, _, by rw [exec_referencePulse_judged hstate, verdict_of_meets hmeets], fun hq => hjudged.trans (if_pos hq),
    fun hq => hjudged.trans (if_neg hq), ?_⟩
  simp only [Counters.verdict, bump_eq_min] at hrec
  exact hrec

theorem badAndMissingSecondsAreRecorded : BadAndMissingSecondsAreRecorded := by
  refine ⟨fun r s => ?_, fun r s x0 hexpected hpassed => ?_⟩
  · dsimp only
    intro hstate hmeets
    have hbad : (s.refs.get r).verdict s.refCfg s.now = .bad := verdict_of_not_meets fun m h => by
      obtain ⟨⟨hlast, hused, harr⟩, ⟨p, hpulse, hlow, hhigh⟩, hlabel, hquality⟩ := h
      exact hmeets ⟨m, p, hlast, hused, harr, hpulse, hlow, hhigh, hlabel, hquality⟩
    have hrec := recordVerdict_recorded (s := s) (r := r) (x := (s.refs.get r).judgePulse s.refCfg s.now)
      (v := .bad) (maturity := s.now + maturityNs) rfl
    refine ⟨_, if ((s.refs.get r).paired s.now).isSome then (s.refs.get r).lastMessage.map Message.markUsed
      else (s.refs.get r).lastMessage, by rw [exec_referencePulse_judged hstate, hbad], fun ⟨m, hpair⟩ => ?_, fun hpair => ?_, ?_⟩
    · rw [paired_iff.2 hpair]
      exact rfl
    · cases hp : (s.refs.get r).paired s.now with
      | none => exact rfl
      | some m => exact absurd ⟨m, paired_iff.1 hp⟩ hpair
    · rw [judged_record_poor (.inl rfl) _ _ (by simp [RefRecord.judgePulse, hbad])] at hrec
      simp only [Counters.verdict, bump_eq_min] at hrec
      exact hrec
  · have hmissed : s.missed r = some x0 := by
      unfold State.missed
      rw [hexpected]
      exact if_pos hpassed
    have hexec : exec (.missingVerdict r) s = .next ((s.withRef r { s.refs.get r with
        goodLabel := none
        expected := some (x0 + secondNs) }).recordVerdict r .missing (x0 + maturityNs)) := by
      change execMissingVerdict r s = _
      rw [execMissingVerdict, hmissed]
    have hrec := recordVerdict_recorded (s := s) (r := r) (x := { s.refs.get r with
      goodLabel := none
      expected := some (x0 + secondNs) }) (v := .missing) (maturity := x0 + maturityNs) rfl
    rw [judged_record_poor (.inr rfl) _ _ rfl] at hrec
    simp only [Counters.verdict, bump_eq_min] at hrec
    exact ⟨_, hexec, hrec⟩

theorem absenceDeadlineForgetsTheReference : AbsenceDeadlineForgetsTheReference := by
  intro r s d hd hpassed
  have hreached : reached (s.refs.get r).absence s.now = true := by rw [hd]; exact decide_eq_true hpassed
  have hexec : exec (.absenceDeadline r) s = .next ((s.withRef r (s.refs.get r).forget).changeRef r .absent) :=
    congrArg Host.Outcome.next (if_pos hreached)
  refine ⟨_, hexec, ?_, (s.withRef_otherRefs r _).trans (State.changeRef_otherRefs _ r _), ?_,
    (State.toldStatus_withRef s r _ _).1 (State.changeRef_toldStatus _ r _),
    .next (s.withRef_frame r _) (State.changeRef_frame _ r _) (by decide) (by decide)⟩
  · rw [State.changeRef_get_same, State.withRef_get_same]
    exact rfl
  · have hw := State.changeRef_wrote (s.withRef r (s.refs.get r).forget) r .absent
    rw [State.withRef_get_same, State.wrote_withRef] at hw
    exact hw

/-- Settles O14: a judged pulse that is not GOOD, a missed instant, and the absence deadline. -/
theorem poorAndAbsentSecondsAreRecorded : Obligations.PoorAndAbsentSecondsAreRecorded :=
  ⟨badAndMissingSecondsAreRecorded, absenceDeadlineForgetsTheReference⟩

end Sys2Proof
end


section
/-! PROOFS. Requests that are answered at their taking: what names nothing (R69, R127, R163, R166), the readings of the time, of the
segments, of the trail and of the evidence (R34, R91, R115, R139, R140, R142), STAMP and SET_TIME (R45, R85) and PROFILE_WRITE (R116). -/

-- One proof after another: proofs elaborated side by side each hold a thread, more of them than the check has memory for.
set_option Elab.async false

namespace Sys2Proof

open Machine

/-! ## Replies that change nothing else -/

/-- A command that answers DONE in the state as it stands. -/
theorem replies_done {c : Instr} {s : State} {p : Port} {tag : Tag} {code : ResultCode} {clamped : Bool}
    (hexec : exec c s = .next (s.done p tag code clamped)) : Replies c s p (.done tag code clamped) [] fun _ => True :=
  .of_done hexec rfl .rfl' trivial

/-- A command that makes its changes within `cs`, away from the ports, and then answers with a record. -/
theorem replies_answer {c : Instr} {s u : State} {p : Port} {r : Record} {cs : List Block} {effect : State → Prop}
    (hexec : exec c s = .next (u.answer p r)) (hports : u.ports = s.ports) (hframe : State.differsIn cs s u)
    (heffect : effect (u.answer p r)) : Replies c s p r cs effect :=
  ⟨_, hexec, s.answeredBy_of_ports hports (u.answer_answeredBy p r),
    .next hframe (u.answer_frame p r) (fun _ => List.mem_cons_of_mem _) (by simp), heffect⟩

/-! ## Bytes that name a segment, a profile, a port or a line -/

theorem segOf_val {b : Byte} {i : SegId} (h : i.val = b.toNat) : segOf b = some i := by
  have hlt : b.toNat < 64 := h ▸ i.isLt
  rw [segOf, dif_pos hlt]
  exact congrArg some (Fin.ext h.symm)

theorem segOf_above {b : Byte} (h : 63 < b.toNat) : segOf b = none := dif_neg (by omega)

theorem segOf_of_le {b : Byte} (h : b.toNat ≤ 63) : ∃ i : SegId, segOf b = some i ∧ i.val = b.toNat :=
  ⟨⟨b.toNat, by omega⟩, segOf_val rfl, rfl⟩

theorem profileOfByte_val {b : Byte} {k : ProfileId} (h : k.val = b.toNat) : profileOfByte b = some k := by
  have hlt : b.toNat < 4 := h ▸ k.isLt
  rw [profileOfByte, dif_pos hlt]
  exact congrArg some (Fin.ext h.symm)

theorem profileOfByte_above {b : Byte} (h : 3 < b.toNat) : profileOfByte b = none := dif_neg (by omega)

theorem eightOf_val {b : Byte} {n : Fin 8} (h : n.val = b.toNat) : eightOf b = some n := by
  have hlt : b.toNat < 8 := h ▸ n.isLt
  rw [eightOf, dif_pos hlt]
  exact congrArg some (Fin.ext h.symm)

theorem eightOf_above {b : Byte} (h : 7 < b.toNat) : eightOf b = none := dif_neg (by omega)

theorem eightOf_of_le {b : Byte} (h : b.toNat ≤ 7) : ∃ n : Fin 8, eightOf b = some n ∧ n.val = b.toNat :=
  ⟨⟨b.toNat, by omega⟩, eightOf_val rfl, rfl⟩

/-! ## Requests that name nothing -/

theorem malformedCode_of_other {s : State} {p : Port} {kind : Byte} {body : List Byte}
    (haction : ¬ (kind.toNat = 21 ∧ body.length = 5)) (hmode : ¬ (kind.toNat = 49 ∧ body.length = 15)) :
    s.malformedCode p kind body = .malformed := by
  unfold State.malformedCode
  split_ifs with hlen haction' hright hmode' hright'
  all_goals first | rfl | skip
  · exact absurd ⟨haction', by simpa [haction', bodyLengths] using hlen⟩ haction
  all_goals exact absurd ⟨hmode', by simpa [hmode', bodyLengths] using hlen⟩ hmode

theorem malformedCode_action {s : State} {p : Port} {kind : Byte} {body : List Byte} (hkind : kind.toNat = 21)
    (hlen : body.length = 5) : s.malformedCode p kind body = if (s.port p).role.has .leap then .malformed else .noRight := by
  unfold State.malformedCode
  rw [if_neg (by simp [hkind, hlen, bodyLengths]), if_pos hkind]

theorem malformedCode_mode {s : State} {p : Port} {kind : Byte} {body : List Byte} (hkind : kind.toNat = 49)
    (hlen : body.length = 15) : s.malformedCode p kind body =
      if (s.port p).role.has .schedule = false then .noRight
      else match eightOf (byteAt body 0) with
        | none => .badIndex
        | some _ => .malformed := by
  unfold State.malformedCode
  simp only [hkind, hlen, bodyLengths]
  exact rfl

/-- Settles O51: the code by the kind of the frame, and the unknown item's. -/
theorem requestsThatNameNothingAreAnswered : Obligations.RequestsThatNameNothingAreAnswered := by
  refine ⟨fun p tag kind body s _ hhead => ?_, fun p tag item v s _ hserve => ?_⟩
  · have hexec : exec (.malformedRequest p tag kind body) s = .next (s.done p tag (s.malformedCode p kind body) false) := by
      exact congrArg Host.Outcome.next (s.take_of_head p hhead)
    have hanswer : ∀ code, s.malformedCode p kind body = code →
        Replies (.malformedRequest p tag kind body) s p (.done tag code false) [] fun _ => True := by
      rintro code rfl
      exact replies_done hexec
    refine ⟨fun ha hm => hanswer _ (malformedCode_of_other ha hm), fun ⟨hk, hl⟩ hr => hanswer _ ?_, fun ⟨hk, hl⟩ hr => hanswer _ ?_,
      fun ⟨hk, hl⟩ hr => hanswer _ ?_, fun ⟨hk, hl⟩ hr hb => hanswer _ ?_, fun ⟨hk, hl⟩ hr hb => hanswer _ ?_⟩
    · rw [malformedCode_action hk hl, if_pos hr]
    · rw [malformedCode_action hk hl, if_neg (by simp [hr])]
    · rw [malformedCode_mode hk hl, if_pos hr]
    · rw [malformedCode_mode hk hl, if_neg (by simp [hr]), eightOf_above hb]
    · obtain ⟨n, hn, -⟩ := eightOf_of_le hb
      rw [malformedCode_mode hk hl, if_neg (by simp [hr]), hn]
  · exact replies_done (congrArg Host.Outcome.next (s.takeWith_of_canServe p hserve))

/-! ## TRAIL_READ (R142) -/

/-- The entries that a slice of a trail in order holds. -/
theorem slice_spec {t : TrailUnit} (hok : t.Ok) {start count : Nat} (hk : t.k ≤ start) :
    (t.slice start count).map TrailEntry.seq = List.range' start (min count (t.wIx - start)) ∧
      ∀ e ∈ t.slice start count, e ∈ t.entries := by
  obtain ⟨hseq, hkw, -⟩ := hok
  refine ⟨?_, fun e he => List.mem_of_mem_drop (List.mem_of_mem_take he)⟩
  have hstart : t.k + (start - t.k) * 1 = start := by omega
  have hleft : t.wIx - t.k - (start - t.k) = t.wIx - start := by omega
  rw [TrailUnit.slice, List.map_take, List.map_drop, hseq, List.drop_range', hstart, hleft]
  by_cases h : count ≤ t.wIx - start
  · rw [List.take_range'_of_length_ge h, Nat.min_eq_left h]
  · rw [List.take_range'_of_length_le (Nat.le_of_not_le h), Nat.min_eq_right (Nat.le_of_not_le h)]

/-- Settles O42: the three refusals and the slice. -/
theorem trailReadAnswersTheEntriesFromItsStart : Obligations.TrailReadAnswersTheEntriesFromItsStart := by
  intro p tag start count s hserve hok
  have hexec : exec (.trailRead p tag start count) s = .next
      (if count.toNat = 0 ∨ 8 < count.toNat then s.done p tag .limit false
      else if start.toNat < s.trail.k then s.done p tag .badIndex false
      else s.answer p (.trail tag s.trail.k s.trail.wIx (s.trail.slice start.toNat count.toNat))) :=
    congrArg Host.Outcome.next (s.takeWith_of_canServe p hserve)
  refine ⟨fun hn => replies_done (by rw [hexec, if_pos hn]), fun h1 h8 hk => replies_done ?_, fun h1 h8 hk => ⟨_, ?_, slice_spec hok hk⟩⟩
  · rw [hexec, if_neg (by omega), if_pos hk]
  · exact replies_answer (by rw [hexec, if_neg (by omega), if_neg (by omega)]) rfl .rfl' trivial

/-! ## READ_EVIDENCE and SUMMARY_NOW (R34, R139, R140) -/

theorem readEvidenceReturnsAndClearsTheSpans : ReadEvidenceReturnsAndClearsTheSpans := by
  intro p tag s hserve
  exact replies_answer (u := s.withRefs (s.refs.map fun x : RefRecord => { x with span := none }))
    (congrArg Host.Outcome.next (s.takeWith_of_canServe p hserve)) rfl (s.withRefs_frame _) fun r => PerRef.get_map _ s.refs r

theorem summaryNowWritesASummary : SummaryNowWritesASummary := by
  intro p tag s hserve
  have hwrote := TrailUnit.request_wrote { s.trail with counters := .zero, seconds := 0 }
    (.summary (some p) s.trail.seconds s.trail.prevSummary s.trail.counters) s.writing rfl
  refine .of_done (u := s.withTrail (s.trail.summarise (some p) s.writing))
    (congrArg Host.Outcome.next (s.takeWith_of_canServe p hserve)) rfl (s.withTrail_frame _) ⟨hwrote, ?_⟩
  obtain ⟨-, -, -, hprev, -⟩ := hwrote
  exact hprev

/-- Settles O44: both requests. -/
theorem evidenceAndSummaryAreTaken : Obligations.EvidenceAndSummaryAreTaken :=
  ⟨readEvidenceReturnsAndClearsTheSpans, summaryNowWritesASummary⟩

/-! ## SEGMENT_READ and PROFILE_WRITE (R115, R116) -/

theorem segmentReadAnswersTheRecord : SegmentReadAnswersTheRecord := by
  intro p tag seg s hserve
  have hexec : exec (.segmentRead p tag seg) s = .next (match segOf seg with
      | none => s.done p tag .badIndex false
      | some i => s.answer p (.segment tag (s.segmentBody i))) :=
    congrArg Host.Outcome.next (s.takeWith_of_canServe p hserve)
  exact ⟨fun h => replies_done (by rw [hexec, segOf_above h]),
    fun i hi => replies_answer (by rw [hexec, segOf_val hi]; exact rfl) rfl .rfl' trivial⟩

theorem committed_inCall_iff (c : Committed) : c.inCall = true ↔
    c = .settled .call ∨ c = .settled .random ∨ c = .settled .suspended ∨ c = .ending := by
  rcases c with st | _
  · cases st <;> simp [Committed.inCall, SegState.inCall]
  · simp [Committed.inCall]

theorem segState_inCall_iff (st : SegState) : st.inCall = true ↔ st = .call ∨ st = .random ∨ st = .suspended := by
  cases st <;> simp [SegState.inCall]

theorem bank_any_iff {n : Nat} {α : Type} {f : α → Bool} {b : Bank n α} : b.any f = true ↔ ∃ i : Fin n, f (b.get i) = true := by
  have hmem : ∀ x, x ∈ b.toList ↔ ∃ i : Fin n, b.get i = x := fun x => by
    rw [List.mem_iff_getElem]
    exact ⟨fun ⟨i, hi, hx⟩ => ⟨⟨i, b.len ▸ hi⟩, hx⟩, fun ⟨i, hx⟩ => ⟨i.val, b.len.symm ▸ i.isLt, hx⟩⟩
  simp [Bank.any, List.any_eq_true, hmem]

theorem profileBusy_iff (s : State) (k : ProfileId) : s.profileBusy k = true ↔ ∃ i : SegId, (s.segs.get i).profile = k ∧
    ((s.segs.get i).state = .call ∨ (s.segs.get i).state = .random ∨ (s.segs.get i).state = .suspended ∨
      (s.segs.get i).committed = .settled .call ∨ (s.segs.get i).committed = .settled .random ∨
      (s.segs.get i).committed = .settled .suspended ∨ (s.segs.get i).committed = .ending) := by
  simp only [State.profileBusy, bank_any_iff, Bool.and_eq_true, Bool.or_eq_true, decide_eq_true_eq, segState_inCall_iff,
    committed_inCall_iff, or_assoc]

theorem clampedProfile_eq (maxExt : Byte) (ext : BitVec 16) (window : BitVec 32) : clampedProfile maxExt ext window =
    { window := min window.toNat 600000000, extLength := clampNat 1 3600 ext.toNat, maxExt := min maxExt.toNat 15 } := by
  have hmin : ∀ n m : Nat, clampNat 0 m n = min n m := fun n m => by unfold clampNat; split_ifs <;> omega
  simp [clampedProfile, hmin]

theorem profileWriteInstallsClampedFields : ProfileWriteInstallsClampedFields := by
  intro p tag profile maxExt ext window s hserve
  have hexec : exec (.profileWrite p tag profile maxExt ext window) s = execProfileWrite p tag profile maxExt ext window s := rfl
  rw [execProfileWrite, s.takeWith_of_canServe p hserve] at hexec
  refine ⟨fun h => replies_done (by rw [hexec, profileOfByte_above h]), fun k hk => ?_⟩
  rw [profileOfByte_val hk] at hexec
  dsimp only at hexec
  refine ⟨fun hbusy => replies_done (by rw [hexec, if_pos ((profileBusy_iff s k).2 hbusy)]), fun hbusy => ?_⟩
  rw [if_neg (mt (profileBusy_iff s k).1 hbusy), clampedProfile_eq] at hexec
  refine .of_done hexec rfl ?_ ⟨?_, fun j hj => ?_, ?_⟩
  · exact .trans ((s.withProfiles_frame _).mono (by decide)) ((State.ask_frame _ _).mono (by decide))
  · exact Bank.get_set_self s.profiles k _
  · exact Bank.get_set_ne s.profiles _ hj
  · exact TrailUnit.request_wrote s.trail _ s.writing rfl

/-- Settles O37: both requests. -/
theorem segmentReadAndProfileWriteAreServed : Obligations.SegmentReadAndProfileWriteAreServed :=
  ⟨segmentReadAnswersTheRecord, profileWriteInstallsClampedFields⟩

/-! ## STAMP, READ_TIME and the readings (R63, R85, R91) -/

/-- Table 4-2 is what the Leap Unit reads. -/
theorem table42_eq (u : LeapUnit) (x : Ns) : table42 u x = u.reading x := by
  unfold table42 LeapUnit.reading
  cases u.pending with
  | none => rfl
  | some r => cases h : r.leap.kind <;> simp only [h] <;> exact rfl

theorem readingAt_eq (s : State) : readingAt s s.arb.seq = s.reading := by
  simp only [readingAt, table42_eq]
  exact rfl

theorem leapNow_inLeap_iff (s : State) : s.leapNow = .inLeap ↔ ∃ r : PendingLeap, s.leap.pending = some r ∧ r.leap.kind = .insert ∧
    r.t ≤ s.now ∧ s.now < r.t + 1000000000 := by
  unfold State.leapNow
  rw [← table42_eq]
  unfold table42
  cases s.leap.pending with
  | none => simp
  | some r =>
    simp only [Option.some.injEq, exists_eq_left']
    by_cases hkind : r.leap.kind = .insert <;> by_cases hbefore : s.now < r.t <;>
      by_cases hwithin : s.now < r.t + 1000000000 <;> simp [hkind, hbefore, hwithin, not_lt.1, not_le.2]

theorem entriesTakeTheReadingsOfTheirXt : EntriesTakeTheReadingsOfTheirXt := by
  intro s
  refine ⟨?_, leapNow_inLeap_iff s, fun t => ?_⟩
  · simp only [table42_eq]
    exact rfl
  · simp only [table42_eq]
    exact rfl

theorem readTimeAnswersTheReading : ReadTimeAnswersTheReading := by
  intro p tag s hserve
  refine replies_answer (u := s) ?_ rfl .rfl' trivial
  rw [readingAt_eq]
  exact congrArg Host.Outcome.next (s.takeWith_of_canServe p hserve)

/-- A STAMP whose segment is read, while stamping is open or closed. -/
def presentStamp (p : Port) (tag : Tag) (g : Option SegId) (s : State) : State :=
  if s.steer.stampingOpen then s.withPort p { s.port p with service := .stamping tag g } else s.done p tag .notReady false

/-- A STAMP by what it names: a segment that does not exist, one that does, or none. -/
theorem exec_stamp {p : Port} {tag : Tag} {seg : Option Byte} {s : State} (h : s.canServe .stamp p tag (.stamp seg)) :
    (∀ b : Byte, seg = some b → segOf b = none → exec (.stamp p tag seg) s = .next (s.done p tag .badIndex false)) ∧
    (∀ b i, seg = some b → segOf b = some i → exec (.stamp p tag seg) s = .next (presentStamp p tag (some i) s)) ∧
    (seg = none → exec (.stamp p tag seg) s = .next (presentStamp p tag none s)) := by
  have hexec : exec (.stamp p tag seg) s = execStamp p tag seg s := rfl
  rw [execStamp, s.takeWith_of_canServe p h] at hexec
  refine ⟨?_, ?_, ?_⟩
  · rintro b rfl hb
    simp only [hb] at hexec
    exact hexec
  · rintro b i rfl hb
    simp only [hb] at hexec
    exact hexec
  · rintro rfl
    exact hexec

theorem stampIsCheckedAndPresented : StampIsCheckedAndPresented := by
  intro p tag seg s hserve
  obtain ⟨hwrong, hnamed, hnone⟩ := exec_stamp hserve
  have hpresented : (∀ b : Byte, seg = some b → b.toNat ≤ 63) → ∃ g : Option SegId,
      exec (.stamp p tag seg) s = .next (presentStamp p tag g s) ∧ (seg = none → g = none) ∧
        ∀ b : Byte, seg = some b → ∃ i : SegId, g = some i ∧ i.val = b.toNat := by
    intro hle
    cases seg with
    | none => exact ⟨none, hnone rfl, fun _ => rfl, by simp⟩
    | some b =>
      obtain ⟨i, hi, hval⟩ := segOf_of_le (hle b rfl)
      refine ⟨some i, hnamed b i rfl hi, by simp, ?_⟩
      rintro _ ⟨⟩
      exact ⟨i, rfl, hval⟩
  refine ⟨fun ⟨b, hb, habove⟩ => replies_done (hwrong b hb (segOf_above habove)), fun hle hclosed => ?_, fun hle hopen => ?_⟩
  · obtain ⟨g, hexec, -⟩ := hpresented hle
    exact replies_done (by rw [hexec, presentStamp, if_neg (by simp [hclosed])])
  · obtain ⟨g, hexec, hnone, hsome⟩ := hpresented hle
    rw [presentStamp, if_pos hopen] at hexec
    exact ⟨_, g, hexec, hnone, hsome, s.port_withPort_same p _, fun q hq => s.port_withPort_ne p _ hq, s.withPort_frame p _⟩

/-- Settles O27: STAMP at its taking, READ_TIME, and the readings of Table 4-2. -/
theorem stampIsPresentedAndReadTimeAnswered : Obligations.StampIsPresentedAndReadTimeAnswered :=
  ⟨stampIsCheckedAndPresented, readTimeAnswersTheReading, entriesTakeTheReadingsOfTheirXt⟩

/-! ## SET_TIME (R45) -/

/-- Settles O21: the two refusals and the pending step. -/
theorem setTimeAsksForAStep : Obligations.SetTimeAsksForAStep := by
  intro p tag seconds s hserve
  have hexec : exec (.setTime p tag seconds) s = execSetTime p tag seconds s := rfl
  rw [execSetTime, s.takeWith_of_canServe p hserve] at hexec
  have hlimit : stepLimit ≤ seconds.toNat * secondNs ↔ 9223372036 < seconds.toNat := by
    unfold stepLimit secondNs
    omega
  simp only [hlimit] at hexec
  refine ⟨fun hopen => replies_done (by rw [hexec, if_pos hopen]), fun hclosed hhigh => replies_done ?_, fun hclosed hle => ?_⟩
  · rw [hexec, if_neg (by simp [hclosed]), if_pos hhigh]
  · rw [if_neg (by simp [hclosed]), if_neg (by omega)] at hexec
    exact ⟨_, hexec, rfl, State.port_withPort_same _ p _, fun q hq => State.port_withPort_ne _ p _ hq,
      .trans ((s.withSteer_frame _).mono (by decide)) ((State.withPort_frame _ p _).mono (by decide))⟩

end Sys2Proof
end


section
/-! PROOFS. The SET_TIMING items that their owners take without refusal (R16, R35, R36, R60, R61, R141, R163). -/

-- One proof after another: proofs elaborated side by side each hold a thread, more of them than the check has memory for.
set_option Elab.async false

namespace Sys2Proof

open Machine

theorem itemClamped_eq (item : TimingItem) (v : BitVec 64) : itemClamped item v = decide (itemValue item v ≠ v.toInt) := by
  unfold itemClamped
  by_cases h : itemValue item v = v.toInt <;> simp [h]

theorem exec_serveItem {c : Instr} {s : State} {p : Port} {tag : Tag} {item : TimingItem} {v : BitVec 64} {old : State → Int}
    {write : Int → State → State} (hexec : exec c s = .next (s.serveItem p tag item v old write))
    (hserve : s.canServe .timing p tag (timingBody item v)) : exec c s = .next
      ((write (itemValue item v) (s.ask (itemConfig p item (old s) v))).done p tag .ok (itemClamped item v)) :=
  hexec.trans (congrArg Host.Outcome.next (s.takeWith_of_canServe p hserve))

/-- An item whose write stays within blocks that the entry and the answer do not touch or read. -/
theorem timingServed {c : Instr} {s : State} {p : Port} {tag : Tag} {item : TimingItem} {v : BitVec 64} {old : State → Int}
    {write : Int → State → State} {blocks : List Block} {effect : Int → State → Prop}
    (hexec : exec c s = .next (s.serveItem p tag item v old write))
    (hframe : ∀ b : TrailBody, State.differsIn blocks (s.ask b) (write (itemValue item v) (s.ask b)))
    (heffect : ∀ (b : TrailBody) (code : ResultCode) (clamped : Bool),
      effect (itemValue item v) ((write (itemValue item v) (s.ask b)).done p tag code clamped))
    (hports : Block.ports ∉ blocks := by decide) (htrail : Block.trail ∉ blocks := by decide)
    (hleap : Block.leap ∉ blocks := by decide) :
    TimingServed c s p tag item v (itemRange item).1 (itemRange item).2 (old s) blocks effect := by
  intro hserve
  have hrun := exec_serveItem hexec hserve
  change Replies c s p (.done tag .ok (decide (itemValue item v ≠ v.toInt))) (.trail :: blocks) _
  rw [← itemClamped_eq]
  have hw := hframe (itemConfig p item (old s) v)
  refine .of_done hrun (hw _ hports) (.trans ((s.ask_frame _).mono (by simp)) (hw.mono fun b hb => List.mem_cons_of_mem _ hb))
    ⟨?_, heffect _ _ _⟩
  have hleft : ((write (itemValue item v) (s.ask (itemConfig p item (old s) v))).done p tag .ok (itemClamped item v)).trail =
      s.trail.request (itemConfig p item (old s) v) s.writing := hw _ htrail
  have hread : s.writingTo ((write (itemValue item v) (s.ask (itemConfig p item (old s) v))).done p tag .ok (itemClamped item v)) =
      s.writing := by
    have h : ((write (itemValue item v) (s.ask (itemConfig p item (old s) v))).done p tag .ok (itemClamped item v)).leap = s.leap :=
      hw _ hleap
    rw [State.writingTo, h]
    exact rfl
  rw [State.wrote, hleft, hread]
  have hwrote := TrailUnit.request_wrote s.trail (itemConfig p item (old s) v) s.writing rfl
  generalize s.trail.request (itemConfig p item (old s) v) s.writing = u at hwrote ⊢
  rw [itemConfig, itemClamped_eq] at hwrote
  exact hwrote

/-! ## References (R35, R36) -/

/-- A field of one reference's record written. -/
theorem timingServed_ref {c : Instr} {s : State} {p : Port} {tag : Tag} {item : TimingItem} {v : BitVec 64} {old : State → Int}
    {r : RefId} {write : Int → RefRecord → RefRecord}
    (hexec : exec c s = .next (s.serveItem p tag item v old fun x s => s.withRef r (write x (s.refs.get r)))) :
    TimingServed c s p tag item v (itemRange item).1 (itemRange item).2 (old s) [.refs]
      fun x t => State.otherRefs r s t ∧ t.refs.get r = write x (s.refs.get r) :=
  timingServed hexec (fun b => (s.ask b).withRef_frame r _)
    fun b code clamped => ⟨(s.ask b).withRef_otherRefs r _, (s.ask b).withRef_get_same r _⟩

/-- A field of the configuration that the references share. -/
theorem timingServed_cfg {c : Instr} {s : State} {p : Port} {tag : Tag} {item : TimingItem} {v : BitVec 64} {old : State → Int}
    {write : Int → RefConfig → RefConfig}
    (hexec : exec c s = .next (s.serveItem p tag item v old fun x s => s.withRefCfg (write x s.refCfg))) :
    TimingServed c s p tag item v (itemRange item).1 (itemRange item).2 (old s) [.refCfg]
      fun x t => t.refCfg = write x s.refCfg :=
  timingServed hexec (fun b => (s.ask b).withRefCfg_frame _) fun b code clamped => rfl

/-- A field of the Steering Unit. -/
theorem timingServed_steer {c : Instr} {s : State} {p : Port} {tag : Tag} {item : TimingItem} {v : BitVec 64} {old : State → Int}
    {write : Int → SteeringUnit → SteeringUnit}
    (hexec : exec c s = .next (s.serveItem p tag item v old fun x s => s.withSteer (write x s.steer))) :
    TimingServed c s p tag item v (itemRange item).1 (itemRange item).2 (old s) [.steer]
      fun x t => t.steer = write x s.steer :=
  timingServed hexec (fun b => (s.ask b).withSteer_frame _) fun b code clamped => rfl

theorem profileCode_eq (x : RefProfile) : x.code = if x = .strict then 0 else 1 := by cases x <;> rfl

theorem referenceItemsAreWritten : ReferenceItemsAreWritten := by
  intro p tag v s
  refine ⟨fun r => ⟨?_, ?_, ?_⟩, ?_, ?_, ?_, ?_⟩
  · rw [← profileCode_eq]
    exact timingServed_ref (old := fun s => (s.refs.get r).profile.code)
      (write := fun x rec => { rec with profile := profileOfCode x }) rfl
  · exact timingServed_ref (old := fun s => (s.refs.get r).priority) (write := fun x rec => { rec with priority := x.toNat }) rfl
  · exact timingServed_ref (old := fun s => (s.refs.get r).cableDelay) (write := fun x rec => { rec with cableDelay := x }) rfl
  · exact timingServed_cfg (old := fun s => s.refCfg.pWin) (write := fun x c => { c with pWin := x.toNat }) rfl
  · exact timingServed_cfg (old := fun s => s.refCfg.minQuality) (write := fun x c => { c with minQuality := x.toNat }) rfl
  · exact timingServed_cfg (old := fun s => s.refCfg.limitD) (write := fun x c => { c with limitD := x.toNat }) rfl
  · exact timingServed_cfg (old := fun s => boolCode s.refCfg.revertive) (write := fun x c => { c with revertive := decide (x = 1) }) rfl

/-! ## The settle period (R16) -/

section

variable {s : State} {n : Nat}

theorem writeSettle_of_no_settle (h : s.tick.returnPhase ≠ .settle) :
    s.writeSettle n = s.withTick { s.tick with settlePeriod := n } := if_neg h

variable {began : Ns} (hphase : s.tick.returnPhase = .settle)
  (hdeadline : s.tick.settleDeadline = some (began + ((s.tick.settlePeriod * 1000000000 : Nat) : Int)))

include hphase hdeadline

/-- The deadline of a settle in progress is counted anew from its beginning. -/
theorem writeSettle_of_settle : s.writeSettle n =
    let u := s.withTick { s.tick with settlePeriod := n, settleDeadline := some (began + ((n * 1000000000 : Nat) : Int)) }
    if reached u.tick.settleDeadline u.now then u.completeSettle else u := by
  have hbegan : s.tick.settleDeadline.map (fun d : Ns => d - ((s.tick.settlePeriod * secondNs : Nat) : Int)) = some began := by
    rw [hdeadline]
    exact congrArg some (Int.add_sub_cancel _ _)
  unfold State.writeSettle
  rw [hbegan]
  exact if_pos hphase

theorem writeSettle_of_ahead (h : s.now < began + ((n * 1000000000 : Nat) : Int)) : s.writeSettle n =
    s.withTick { s.tick with settlePeriod := n, settleDeadline := some (began + ((n * 1000000000 : Nat) : Int)) } := by
  rw [writeSettle_of_settle hphase hdeadline]
  exact if_neg (by simpa [reached] using h)

theorem writeSettle_of_reached (h : began + ((n * 1000000000 : Nat) : Int) ≤ s.now) : s.writeSettle n =
    (s.withTick { s.tick with settlePeriod := n, returnPhase := .lockWait, settleDeadline := none }).tryLockWait := by
  rw [writeSettle_of_settle hphase hdeadline]
  exact if_pos (by simpa [reached] using h)

end

/-- A new settle period, served with what it makes of the Tick Unit. -/
theorem settlePeriod_served {p : Port} {tag : Tag} {v : BitVec 64} {s : State} {effect : State → Prop}
    (heffect : ∀ (b : TrailBody) (code : ResultCode) (clamped : Bool),
      effect (((s.ask b).writeSettle (clampInt 1 600 v.toInt).toNat).done p tag code clamped)) :
    TimingServed (.setTimingSettlePeriod p tag v) s p tag .settlePeriod v 1 600 s.tick.settlePeriod [.tick] fun _ t => effect t :=
  timingServed (old := fun s => s.tick.settlePeriod) (write := fun x s => s.writeSettle x.toNat) rfl
    (fun b => (s.ask b).writeSettle_frame _) heffect

/-! ## The summary items (R141) -/

theorem wrote_withInterval {t t' : TrailUnit} {b : TrailBody} {w : Writing} (n : Nat) (h : TrailUnit.Wrote t t' b w) :
    TrailUnit.Wrote { t with interval := n } { t' with interval := n } b w := by
  obtain ⟨hstore, hwIx, hevidence, hprev, hseconds, -, hmode⟩ := h
  exact ⟨hstore, hwIx, hevidence, hprev, hseconds, rfl, hmode⟩

theorem wrote_withMode {t t' : TrailUnit} {b : TrailBody} {w : Writing} (m : SummaryMode) (h : TrailUnit.Wrote t t' b w) :
    TrailUnit.Wrote { t with mode := m } { t' with mode := m } b w := by
  obtain ⟨hstore, hwIx, hevidence, hprev, hseconds, hinterval, -⟩ := h
  exact ⟨hstore, hwIx, hevidence, hprev, hseconds, hinterval, rfl⟩

/-- An item of the Trail Unit: its entry is written into the trail beside the new value. -/
theorem summaryItem_served {c : Instr} {s : State} {p : Port} {tag : Tag} {item : TimingItem} {v : BitVec 64} {old : State → Int}
    {write : Int → TrailUnit → TrailUnit}
    (hexec : exec c s = .next (s.serveItem p tag item v old fun x s => s.withTrail (write x s.trail)))
    (hwrite : ∀ {x t t' b w}, TrailUnit.Wrote t t' b w → TrailUnit.Wrote (write x t) (write x t') b w)
    (hserve : s.canServe .timing p tag (timingBody item v)) :
    Replies c s p (.done tag .ok (decide (itemValue item v ≠ v.toInt))) [.trail] fun t =>
      TrailUnit.Wrote (write (itemValue item v) s.trail) t.trail
        (.config (.item p item.number (old s) (itemValue item v) (decide (itemValue item v ≠ v.toInt)))) s.writing := by
  have hrun := exec_serveItem hexec hserve
  rw [← itemClamped_eq]
  exact .of_done hrun rfl (.trans ((s.ask_frame _).mono (by simp)) ((State.withTrail_frame _ _).mono (by simp)))
    (hwrite (TrailUnit.request_wrote s.trail (itemConfig p item (old s) v) s.writing rfl))

theorem summaryMode_code (m : SummaryMode) : m.code = if m = .auto then 0 else 1 := by cases m <;> rfl

theorem settlePeriodAndSummaryItemsAreWritten : SettlePeriodAndSummaryItemsAreWritten := by
  intro p tag v s
  refine ⟨⟨fun hphase => settlePeriod_served fun b code clamped => ?_, fun began hphase hdeadline =>
    ⟨fun hahead => settlePeriod_served fun b code clamped => ?_, fun hreached => settlePeriod_served fun b code clamped => ?_⟩⟩,
    fun hserve => ?_, fun hserve => ?_⟩
  · rw [writeSettle_of_no_settle (s := s.ask b) hphase]
    exact rfl
  · rw [writeSettle_of_ahead (s := s.ask b) hphase hdeadline hahead]
    exact rfl
  · rw [writeSettle_of_reached (s := s.ask b) hphase hdeadline hreached]
    exact tryLockWait_opened (s := s.ask b) (tick := { s.tick with
      settlePeriod := (clampInt 1 600 v.toInt).toNat
      returnPhase := .lockWait
      settleDeadline := none }) rfl rfl
  · exact summaryItem_served (item := .summaryInterval) (old := fun s => s.trail.interval)
      (write := fun x t => { t with interval := x.toNat }) rfl (wrote_withInterval _) hserve
  · rw [← summaryMode_code]
    exact summaryItem_served (item := .summaryMode) (old := fun s => s.trail.mode.code)
      (write := fun x t => { t with mode := summaryModeOf x }) rfl (wrote_withMode _) hserve

/-- Settles O45: each item is a case of `timingServed` or `summaryItem_served`. -/
theorem referenceSettleAndSummaryItemsAreServed : Obligations.ReferenceSettleAndSummaryItemsAreServed :=
  ⟨referenceItemsAreWritten, settlePeriodAndSummaryItemsAreWritten⟩

end Sys2Proof
end


section
/-! PROOFS. The opening of stamping (R46, R96), the acquisition timeout (R43), and the SET_TIMING items of the Steering Unit (R57, R60,
R61). -/

-- One proof after another: proofs elaborated side by side each hold a thread, more of them than the check has memory for.
set_option Elab.async false

namespace Sys2Proof

open Machine

/-! ## Missed armings (R96) -/

/-- The MISSED event of a segment whose open instant has passed while it was ARMED. -/
def missEvent (g : Segment) (i : SegId) (now : Ns) : Option SegEvent :=
  match g.armed with
  | some a =>
    if g.committed = .settled .armed ∧ a.openAt.xt ≤ now then
      some { seg := i, kind := .missed g.armedDay a.openAt.xt, after := some .idle }
    else none
  | none => none

/-- The record of a segment whose arming has been missed. -/
def missedSegment (g : Segment) : Segment := { g with committed := .settled .idle, armed := none, armedDay := none }

theorem missEvent_eq_some_iff {g : Segment} {i : SegId} {now : Ns} {e : SegEvent} : missEvent g i now = some e ↔
    e.seg = i ∧ missedAt g now ∧ e.after = some .idle ∧
      ∃ a : ArmedInstants, g.armed = some a ∧ e.kind = .missed g.armedDay a.openAt.xt := by
  obtain ⟨seg, kind, after⟩ := e
  unfold missEvent missedAt
  cases g.armed with
  | none => simp
  | some a =>
    by_cases h : g.committed = .settled .armed ∧ a.openAt.xt ≤ now
    · simp only [h, and_self, if_true, Option.some.injEq, SegEvent.mk.injEq, true_and]
      aesop
    · simp [h]

theorem missEvent_eq_none_iff {g : Segment} {i : SegId} {now : Ns} : missEvent g i now = none ↔ ¬ missedAt g now := by
  unfold missEvent missedAt
  cases g.armed with
  | none => simp
  | some a => by_cases h : g.committed = .settled .armed ∧ a.openAt.xt ≤ now <;> simp [h]

theorem missSegment_of_missed {s : State} {i : SegId} {e : SegEvent} (h : missEvent (s.segs.get i) i s.now = some e) :
    (s.missSegment i).segs = s.segs.set i (missedSegment (s.segs.get i)) ∧ (s.missSegment i).commits = s.commits ++ [e] := by
  obtain ⟨hseg, ⟨hcommitted, a, ha, hle⟩, hafter, a', ha', hkind⟩ := missEvent_eq_some_iff.1 h
  obtain rfl : a = a' := Option.some.inj (ha.symm.trans ha')
  have heq : s.missSegment i = (s.withSeg i { s.segs.get i with armed := none, armedDay := none }).commit
      { seg := i, kind := .missed (s.segs.get i).armedDay a.openAt.xt, after := some .idle } (.settled .idle) := by
    simp only [State.missSegment, ha]
    exact if_pos ⟨hcommitted, hle⟩
  obtain ⟨seg, kind, after⟩ := e
  obtain rfl : seg = i := hseg
  obtain rfl : after = some .idle := hafter
  obtain rfl : kind = .missed (s.segs.get seg).armedDay a.openAt.xt := hkind
  rw [heq]
  refine ⟨?_, rfl⟩
  simp [State.commit, State.withSeg, missedSegment]

theorem missSegment_of_kept {s : State} {i : SegId} (h : missEvent (s.segs.get i) i s.now = none) : s.missSegment i = s := by
  have hnot := missEvent_eq_none_iff.1 h
  cases ha : (s.segs.get i).armed with
  | none => simp only [State.missSegment, ha]
  | some a =>
    simp only [State.missSegment, ha]
    exact if_neg fun ⟨hcommitted, hle⟩ => hnot ⟨hcommitted, a, ha, hle⟩

/-- What the missing of some segments leaves: those whose arming has passed are IDLE, the others are as they were. -/
def SegmentsMissed (l : List SegId) (s t : State) : Prop :=
  (∀ i ∈ l, missedAt (s.segs.get i) s.now → t.segs.get i = missedSegment (s.segs.get i)) ∧
    ∀ i : SegId, i ∉ l ∨ ¬ missedAt (s.segs.get i) s.now → t.segs.get i = s.segs.get i

theorem missSegment_now (s : State) (i : SegId) : (s.missSegment i).now = s.now :=
  congrArg (fun x : XtCounter => (x.ns : Int)) (s.missSegment_frame i .xt (by decide))

theorem missSegment_other {s : State} {i j : SegId} (hj : j ≠ i) : (s.missSegment i).segs.get j = s.segs.get j := by
  cases h : missEvent (s.segs.get i) i s.now with
  | none => rw [missSegment_of_kept h]
  | some e => rw [(missSegment_of_missed h).1, Bank.get_set_ne _ _ hj]

/-- The missed armings of some segments, committed one after another. -/
theorem missSegments_spec : ∀ (l : List SegId) (s : State), l.Nodup →
    (l.foldl State.missSegment s).commits = s.commits ++ l.filterMap (fun i => missEvent (s.segs.get i) i s.now) ∧
      SegmentsMissed l s (l.foldl State.missSegment s)
  | [], s, _ => ⟨by simp, by simp, by simp⟩
  | i :: l, s, hnodup => by
    obtain ⟨hi, hl⟩ := List.nodup_cons.1 hnodup
    obtain ⟨hcommits, hmissed, hkept⟩ := missSegments_spec l (s.missSegment i) hl
    have hfilter : l.filterMap (fun j => missEvent ((s.missSegment i).segs.get j) j (s.missSegment i).now) =
        l.filterMap (fun j => missEvent (s.segs.get j) j s.now) :=
      List.filterMap_congr fun j hj => by rw [missSegment_now, missSegment_other (ne_of_mem_of_not_mem hj hi)]
    simp only [missSegment_now] at hmissed hkept
    rw [List.foldl_cons]
    refine ⟨?_, fun j hj hm => ?_, fun j hj => ?_⟩
    · rw [hcommits, hfilter, List.filterMap_cons]
      cases h : missEvent (s.segs.get i) i s.now with
      | none => rw [missSegment_of_kept h]
      | some e => rw [(missSegment_of_missed h).2]; simp
    · by_cases hji : j = i
      · subst hji
        rw [hkept j (.inl hi)]
        cases h : missEvent (s.segs.get j) j s.now with
        | none => exact absurd hm (missEvent_eq_none_iff.1 h)
        | some e => rw [(missSegment_of_missed h).1, Bank.get_set_self]
      · have hjl : j ∈ l := by simpa [hji] using hj
        rw [hmissed j hjl (by rwa [missSegment_other hji]), missSegment_other hji]
    · by_cases hji : j = i
      · subst hji
        have hm : ¬ missedAt (s.segs.get j) s.now := hj.resolve_left (by simp)
        rw [hkept j (.inl hi), missSegment_of_kept (missEvent_eq_none_iff.2 hm)]
      · rw [hkept j (hj.imp (fun h hjl => h (List.mem_cons_of_mem _ hjl)) fun h => by rwa [missSegment_other hji]),
          missSegment_other hji]

/-! ## Withdrawn steps (R46) -/

/-- A fold that answers the SET_TIMEs among some steps gives each port its answers, one after another. -/
theorem foldl_withdrawn_port {f : State → PendingStep → State} (p : Port)
    (hmanual : ∀ s st q tag, st.origin = .manual (some q) tag → f s st = s.done q tag .badState false)
    (hother : ∀ s st, (∀ q tag, st.origin ≠ .manual (some q) tag) → f s st = s) :
    ∀ (steps : List PendingStep) (s : State),
      (steps.foldl f s).port p = (withdrawnAnswers p steps).foldl PortCtl.answered (s.port p)
  | [], s => rfl
  | st :: steps, s => by
    rw [List.foldl_cons, foldl_withdrawn_port p hmanual hother steps]
    by_cases h : ∃ q tag, st.origin = .manual (some q) tag
    · obtain ⟨q, tag, horigin⟩ := h
      rw [hmanual s st q tag horigin]
      obtain ⟨hsame, hne⟩ := s.done_answeredBy q tag .badState false
      by_cases hq : q = p
      · subst hq
        simp [withdrawnAnswers, horigin, hsame]
      · rw [hne p (fun h => hq h.symm)]
        simp [withdrawnAnswers, horigin, hq]
    · have horigin : ∀ q tag, st.origin ≠ .manual (some q) tag := fun q tag heq => h ⟨q, tag, heq⟩
      rw [hother s st horigin]
      have hnone : withdrawnAnswers p (st :: steps) = withdrawnAnswers p steps := by
        unfold withdrawnAnswers
        rw [List.filterMap_cons]
        split <;> rename_i hans
        · rfl
        · split at hans
          · exact absurd ‹st.origin = _› (horigin _ _)
          · simp at hans
      rw [hnone]

theorem withdrawSteps_port (s : State) (p : Port) :
    s.withdrawSteps.port p = (withdrawnAnswers p s.steer.pendingSteps).foldl PortCtl.answered (s.port p) := by
  refine foldl_withdrawn_port p (fun s st q tag h => ?_) (fun s st h => ?_) s.steer.pendingSteps s
  · rw [h]
  · split
    · exact absurd ‹st.origin = _› (h _ _)
    · rfl

/-- Answers that all find a free entry. -/
theorem foldl_answered_of_room : ∀ (a : List Record) (pc : PortCtl), pc.responses.length + a.length ≤ 64 →
    a.foldl PortCtl.answered pc = { pc with
      requests := pc.requests.drop a.length
      service := if a.isEmpty then pc.service else .untaken
      holdChanged := pc.holdChanged || decide (28 ≤ pc.requests.length) != decide (28 ≤ pc.requests.length - a.length)
      responses := pc.responses ++ a }
  | [], pc, _ => by simp
  | r :: a, pc, h => by
    rw [List.length_cons] at h
    have hroom : pc.responses.length < 64 := by omega
    rw [List.foldl_cons, foldl_answered_of_room a _ (by simp [PortCtl.answered, hroom]; omega)]
    have hhold : (pc.holdChanged || decide (pc.requests.length = 28) ||
        decide (28 ≤ pc.requests.tail.length) != decide (28 ≤ pc.requests.tail.length - a.length)) =
        (pc.holdChanged || decide (28 ≤ pc.requests.length) != decide (28 ≤ pc.requests.length - (r :: a).length)) := by
      rw [List.length_tail, List.length_cons, Bool.or_assoc]
      congr 1
      by_cases h28 : pc.requests.length = 28
      · have h27 : 27 - a.length < 28 := by omega
        simp [h28, h27]
      · have h1 : 28 ≤ pc.requests.length - 1 ↔ 28 ≤ pc.requests.length := by omega
        have h2 : pc.requests.length - 1 - a.length = pc.requests.length - (a.length + 1) := by omega
        simp [h28, h1, h2]
    have hservice : (if a.isEmpty then Service.untaken else .untaken) = .untaken := by split <;> rfl
    simp only [PortCtl.answered, hroom, if_true, PortCtl.served, hhold, hservice, List.drop_tail, List.append_assoc]
    simp

/-! ## Stamping opened -/

/-- What the opening of stamping does while it is closed (R46, R47, R96). -/
theorem openStamping_spec {s : State} (h : s.steer.stampingOpen = false) :
    (∀ p : Port, s.openStamping.port p = (withdrawnAnswers p s.steer.pendingSteps).foldl PortCtl.answered (s.port p)) ∧
      CommittedMissed s s.openStamping ∧ SegmentsMissed (List.finRange 64) s s.openStamping := by
  have heq : s.openStamping =
      (List.finRange 64).foldl State.missSegment (s.withdrawSteps.withSteer { s.withdrawSteps.steer with stampingOpen := true }) :=
    if_neg (by simp [h])
  generalize hu : s.withdrawSteps.withSteer { s.withdrawSteps.steer with stampingOpen := true } = u at heq
  have hframe : State.differsIn [.ports, .steer] s u := by
    rw [← hu]
    exact .trans s.withdrawSteps_frame ((State.withSteer_frame _ _).mono (by decide))
  have hsegs : u.segs = s.segs := hframe .segs (by decide)
  have hnow : u.now = s.now := congrArg (fun x : XtCounter => (x.ns : Int)) (hframe .xt (by decide))
  obtain ⟨hcommits, hmissed⟩ := missSegments_spec (List.finRange 64) u (List.nodup_finRange 64)
  rw [← heq] at hcommits hmissed
  rw [hframe .commits (by decide)] at hcommits
  unfold SegmentsMissed at hmissed
  rw [hsegs, hnow] at hmissed hcommits
  refine ⟨fun p => ?_, ⟨_, hcommits, ?_, fun e => ?_⟩, hmissed⟩
  · have hports : s.openStamping.ports = u.ports := by
      rw [heq]
      exact State.differsIn.ofFoldl (fun s i => State.missSegment_frame s i) _ _ .ports (by decide)
    rw [State.port, hports, ← hu, ← withdrawSteps_port s p]
    rfl
  · rw [List.pairwise_map, List.pairwise_filterMap]
    refine (List.pairwise_lt_finRange 64).imp fun {i j} hij e he e' he' => ?_
    obtain ⟨rfl, -⟩ := missEvent_eq_some_iff.1 he
    obtain ⟨rfl, -⟩ := missEvent_eq_some_iff.1 he'
    exact hij
  · rw [List.mem_filterMap]
    constructor
    · rintro ⟨i, -, he⟩
      obtain ⟨rfl, hrest⟩ := missEvent_eq_some_iff.1 he
      exact hrest
    · exact fun hrest => ⟨e.seg, List.mem_finRange _, missEvent_eq_some_iff.2 ⟨rfl, hrest⟩⟩

/-! ## The acquisition timeout (R43) -/

theorem acqExpired_iff_timer {s : State} {n : Nat} (hst : s.steer.state = .acquire) (htimer : s.steer.acqTimer = some n) :
    s.acqExpired = true ↔ s.steer.acqTimeout * 250000000 ≤ n := by
  rw [State.acqExpired_iff, htimer]
  simp [hst, ticksPerSecond]

/-- A timeout with a set time: HOLDOVER on U_manual, the opening of stamping, the report. -/
theorem expireAcquisition_of_set {s : State} (hst : s.steer.state = .acquire) (hset : s.steer.timeSet = true) :
    s.expireAcquisition = (s.withSteer s.steer.onManual).openStamping.reportTimescale .acquire .acqTimeout := by
  unfold State.expireAcquisition
  rw [if_pos hset]
  unfold State.enterState
  dsimp only [State.withSteer_steer, SteeringUnit.retrace]
  rw [hst]
  exact rfl

theorem onManual_opened {x : SteeringUnit} (hopen : x.stampingOpen = false) : x.onManual.opened = { x with
    state := .holdover
    stampingOpen := true
    acqTimer := none
    bEntry := x.uManual
    bound := x.uManual
    hSeconds := 0
    traceable := decide (x.uManual ≤ x.limitM)
    pendingSteps := [] } := by
  unfold SteeringUnit.opened
  rw [if_neg (by simp [SteeringUnit.onManual, hopen])]
  exact rfl

/-- What a timeout with a set time reports (R43). -/
theorem expireAcquisition_report {s : State} (hst : s.steer.state = .acquire) (hset : s.steer.timeSet = true)
    (hopen : s.steer.stampingOpen = false) :
    State.wrote (.timescale .acquire .holdover .acqTimeout s.steer.uManual (decide (s.steer.uManual ≤ s.steer.limitM)) none) s
        s.expireAcquisition ∧
      s.expireAcquisition.newestEntry
        (.timescale .acquire .holdover .acqTimeout s.steer.uManual (decide (s.steer.uManual ≤ s.steer.limitM)) none) ∧
      State.toldStatus (.timescale .acqTimeout) (s.withSteer s.steer.onManual).openStamping s.expireAcquisition := by
  have hframe : State.differsIn [.ports, .steer, .segs, .commits] s (s.withSteer s.steer.onManual).openStamping :=
    .trans ((s.withSteer_frame _).mono (by decide)) (State.openStamping_frame _)
  have hsteer : (s.withSteer s.steer.onManual).openStamping.steer = s.steer.onManual.opened := State.openStamping_steer _
  rw [onManual_opened hopen] at hsteer
  rw [expireAcquisition_of_set hst hset]
  generalize (s.withSteer s.steer.onManual).openStamping = u at *
  have hbody : TrailBody.timescale .acquire u.steer.state .acqTimeout u.steer.bound u.steer.traceable none =
      .timescale .acquire .holdover .acqTimeout s.steer.uManual (decide (s.steer.uManual ≤ s.steer.limitM)) none := by rw [hsteer]
  rw [← hbody]
  exact ⟨wrote_of_same (reportTimescale_wrote u _ _) (hframe .trail (by decide)) (hframe .xt (by decide)) (hframe .arb (by decide)),
    reportTimescale_newest u _ _, reportTimescale_told u _ _⟩

theorem expireAcquisition_frame_set {s : State} (hst : s.steer.state = .acquire) (hset : s.steer.timeSet = true) :
    State.differsIn [.steer, .segs, .commits, .trail, .ports, .lastCause] s s.expireAcquisition := by
  rw [expireAcquisition_of_set hst hset]
  exact .trans (.trans ((s.withSteer_frame _).mono (by decide)) ((State.openStamping_frame _).mono (by decide)))
    ((State.reportTimescale_frame _ _ _).mono (by decide))

/-- Settles O20: the restart without a set time; with one, the opening of stamping and its report. -/
theorem acquisitionTimeoutOpensStamping : Obligations.AcquisitionTimeoutOpensStamping := by
  intro s n hst hopen htimer hover
  have hexec : exec .acqTimeout s = .next s.expireAcquisition :=
    congrArg Host.Outcome.next (if_pos ((acqExpired_iff_timer hst htimer).2 hover))
  refine ⟨fun hset => ?_, fun hset => ⟨_, hexec, ?_⟩⟩
  · rw [State.expireAcquisition, if_neg (by simp [hset])] at hexec
    exact ⟨_, hexec, rfl, s.withSteer_frame _⟩
  obtain ⟨hwrote, -, hcause, htold⟩ := expireAcquisition_report hst hset hopen
  obtain ⟨hports, hmissed, hsegs, hkept⟩ := openStamping_spec (s := s.withSteer s.steer.onManual) hopen
  have hblocks : (s.expireAcquisition).segs = (s.withSteer s.steer.onManual).openStamping.segs ∧
      (s.expireAcquisition).commits = (s.withSteer s.steer.onManual).openStamping.commits := by
    rw [expireAcquisition_of_set hst hset]
    exact ⟨State.reportTimescale_segs _ _ _, State.reportTimescale_frame _ _ _ .commits (by decide)⟩
  have hport : ∀ p : Port, s.expireAcquisition.port p =
      ((withdrawnAnswers p s.steer.pendingSteps).foldl PortCtl.answered (s.port p)).notifyStatus (s.expireAcquisition.statusBody 1) :=
    fun p => by rw [htold p, hports p]; exact rfl
  refine ⟨?_, hwrote, hcause, fun hnone => ⟨hcause, fun p => ?_⟩, fun p => ⟨fun hroom => ?_, fun r hr => ?_⟩,
    fun i => ⟨fun hm => ?_, fun hm => ?_⟩, ?_, expireAcquisition_frame_set hst hset⟩
  · rw [State.expireAcquisition_steer, if_pos hset, onManual_opened hopen]
  · rw [hport p, hnone]
    exact rfl
  · rw [hport p, foldl_answered_of_room _ _ hroom]
  · rw [hport p, hr]
    exact rfl
  · rw [hblocks.1]
    exact hsegs i (List.mem_finRange i) hm
  · rw [hblocks.1]
    exact hkept i (.inr hm)
  · unfold CommittedMissed
    rw [hblocks.2]
    exact hmissed

/-! ## The items of the Steering Unit (R57, R60, R61) -/

theorem writeAcqTimeout_of_ahead {s : State} {n : Nat}
    (h : ∀ k : Nat, s.steer.state = .acquire → s.steer.acqTimer = some k → k < n * 250000000) :
    s.writeAcqTimeout n = s.withSteer { s.steer with acqTimeout := n } := by
  refine if_neg fun hexpired => ?_
  obtain ⟨hst, k, htimer, hle⟩ := State.acqExpired_iff.1 hexpired
  have := h k hst htimer
  dsimp only [State.withSteer_steer, ticksPerSecond] at hle
  omega

theorem writeAcqTimeout_of_passed {s : State} {n k : Nat} (hst : s.steer.state = .acquire) (htimer : s.steer.acqTimer = some k)
    (h : n * 250000000 ≤ k) : s.writeAcqTimeout n = (s.withSteer { s.steer with acqTimeout := n }).expireAcquisition :=
  if_pos ((acqExpired_iff_timer (s := s.withSteer { s.steer with acqTimeout := n }) hst htimer).2 h)

/-- A new acquisition timeout whose write stays within the Steering Unit. -/
theorem acqTimeout_served {p : Port} {tag : Tag} {v : BitVec 64} {s : State} {write : Nat → SteeringUnit}
    (h : ∀ b, (s.ask b).writeAcqTimeout (itemValue .acquisitionTimeout v).toNat =
      (s.ask b).withSteer (write (itemValue .acquisitionTimeout v).toNat)) :
    TimingServed (.setTimingAcquisitionTimeout p tag v) s p tag .acquisitionTimeout v 10 3600 s.steer.acqTimeout [.steer]
      fun x t => t.steer = write x.toNat :=
  timingServed (item := .acquisitionTimeout) (old := fun s => s.steer.acqTimeout) (write := fun x s => s.writeAcqTimeout x.toNat) rfl
    (fun b => by rw [h]; exact State.withSteer_frame _ _) fun b code clamped => by rw [h]; exact rfl

theorem writeM_of_same {s : State} {n : Nat} (h : decide (s.steer.bound ≤ n) = s.steer.traceable) :
    s.writeM n = s.withSteer { s.steer with limitM := n } := by
  have hsame : withinLimit s.steer.bound n = s.steer.traceable := h
  unfold State.writeM
  dsimp only [State.withSteer_steer, SteeringUnit.retrace]
  rw [hsame]
  exact if_pos rfl

theorem writeM_of_change {s : State} {n : Nat} (h : decide (s.steer.bound ≤ n) ≠ s.steer.traceable) :
    s.writeM n = (s.withSteer { s.steer with limitM := n, traceable := decide (s.steer.bound ≤ n) }).reportTimescale
      s.steer.state .bound := if_neg h

/-- A new M that changes the traceable flag: both entries, the notice, the answer. -/
theorem setTimingM_of_change {p : Port} {tag : Tag} {v : BitVec 64} {s : State}
    (h : decide (s.steer.bound ≤ (itemValue .limitM v).toNat) ≠ s.steer.traceable)
    (hserve : s.canServe .timing p tag (timingBody .limitM v)) :
    exec (.setTimingM p tag v) s = .next ((((s.ask (itemConfig p .limitM s.steer.limitM v)).withSteer { s.steer with
      limitM := (itemValue .limitM v).toNat
      traceable := decide (s.steer.bound ≤ (itemValue .limitM v).toNat) }).reportTimescale s.steer.state .bound).done p tag .ok
        (itemClamped .limitM v)) := by
  have hrun := exec_serveItem (c := .setTimingM p tag v) (old := fun s => s.steer.limitM)
    (write := fun x s => s.writeM x.toNat) rfl hserve
  rw [hrun, writeM_of_change (s := s.ask _) h]
  exact rfl

/-- The TIMESCALE report of a change, and the answer to the request that made it, in a state that an entry has been written in. -/
theorem answered_report {s u : State} {p : Port} {tag : Tag} {clamped : Bool} {b : TrailBody} {old : TimescaleState}
    (htrail : TrailUnit.Wrote s.trail u.trail b s.writing) (hports : u.ports = s.ports) (hwriting : u.writing = s.writing) :
    WroteAll s.writing [b, .timescale old u.steer.state .bound u.steer.bound u.steer.traceable none] s.trail
        ((u.reportTimescale old .bound).done p tag .ok clamped).trail ∧
      ((u.reportTimescale old .bound).done p tag .ok clamped).port p =
        ((s.port p).notifyStatus ((u.reportTimescale old .bound).statusBody 1)).answered (.done tag .ok clamped) ∧
      ∀ q : Port, q ≠ p → ((u.reportTimescale old .bound).done p tag .ok clamped).port q =
        (s.port q).notifyStatus ((u.reportTimescale old .bound).statusBody 1) := by
  obtain ⟨-, htold⟩ := reportTimescale_told u old .bound
  obtain ⟨hsame, hne⟩ := (u.reportTimescale old .bound).done_answeredBy p tag .ok clamped
  have hnotified : ∀ q : Port, (u.reportTimescale old .bound).port q =
      (s.port q).notifyStatus ((u.reportTimescale old .bound).statusBody 1) := fun q => by
    rw [htold q, State.port, hports]
    exact rfl
  refine ⟨⟨u.trail, htrail, _, ?_, rfl⟩, by rw [hsame, hnotified], fun q hq => by rw [hne q hq, hnotified]⟩
  rw [← hwriting]
  exact TrailUnit.request_wrote u.trail _ u.writing rfl

theorem steeringItemsAreWritten : SteeringItemsAreWritten := by
  intro p tag v s
  refine ⟨?_, ?_, ?_, ?_, ?_, ?_, ?_, ?_, fun hahead => ?_, fun hsame => ?_, fun hchange hserve => ?_⟩
  · exact timingServed_steer (old := fun s => s.steer.written.kp)
      (write := fun x u => { u with written := { u.written with kp := x.toNat } }) rfl
  · exact timingServed_steer (old := fun s => s.steer.written.ki)
      (write := fun x u => { u with written := { u.written with ki := x.toNat } }) rfl
  · exact timingServed_steer (old := fun s => s.steer.written.slewL)
      (write := fun x u => { u with written := { u.written with slewL := x.toNat } }) rfl
  · exact timingServed_steer (old := fun s => s.steer.written.growthH)
      (write := fun x u => { u with written := { u.written with growthH := x.toNat } }) rfl
  · exact timingServed_steer (old := fun s => s.steer.written.growthHRing)
      (write := fun x u => { u with written := { u.written with growthHRing := x.toNat } }) rfl
  · exact timingServed_steer (old := fun s => s.steer.wLock) (write := fun x u => { u with wLock := x.toNat }) rfl
  · exact timingServed_steer (old := fun s => s.steer.uFixed) (write := fun x u => { u with uFixed := x.toNat }) rfl
  · exact timingServed_steer (old := fun s => s.steer.uManual) (write := fun x u => { u with uManual := x.toNat }) rfl
  · exact acqTimeout_served (write := fun n => { s.steer with acqTimeout := n }) fun b => writeAcqTimeout_of_ahead (s := s.ask b) hahead
  · exact timingServed (item := .limitM) (old := fun s => s.steer.limitM) (write := fun x s => s.writeM x.toNat) rfl
      (fun b => by rw [writeM_of_same (s := s.ask b) (n := (itemValue .limitM v).toNat) hsame]; exact State.withSteer_frame _ _)
      fun b code clamped => by rw [writeM_of_same (s := s.ask b) (n := (itemValue .limitM v).toNat) hsame]; exact rfl
  · have hwrote := TrailUnit.request_wrote s.trail (itemConfig p .limitM s.steer.limitM v) s.writing rfl
    have hframe : State.differsIn [.steer, .trail, .ports, .lastCause] s
        ((s.ask (itemConfig p .limitM s.steer.limitM v)).withSteer { s.steer with
          limitM := (itemValue .limitM v).toNat
          traceable := decide (s.steer.bound ≤ (itemValue .limitM v).toNat) }) :=
      .trans ((s.ask_frame _).mono (by decide)) ((State.withSteer_frame _ _).mono (by decide))
    obtain ⟨htrail, hport, hne⟩ := answered_report (s := s) (p := p) (tag := tag) (clamped := itemClamped .limitM v)
      (old := s.steer.state) (u := (s.ask (itemConfig p .limitM s.steer.limitM v)).withSteer { s.steer with
        limitM := (itemValue .limitM v).toNat
        traceable := decide (s.steer.bound ≤ (itemValue .limitM v).toNat) }) hwrote rfl rfl
    have hclamp : decide (clampInt 1000 10000000 v.toInt ≠ v.toInt) = itemClamped .limitM v := (itemClamped_eq .limitM v).symm
    rw [hclamp]
    exact ⟨_, setTimingM_of_change hchange hserve, rfl, htrail, rfl, hport, hne,
      .trans (hframe.trans ((State.reportTimescale_frame _ _ _).mono (by decide))) ((State.done_frame _ _ _ _ _).mono (by decide))⟩

theorem shorterAcquisitionTimeoutExpiresAtOnce : ShorterAcquisitionTimeoutExpiresAtOnce := by
  intro p tag v s n hst hopen htimer hle
  replace hle : (itemValue .acquisitionTimeout v).toNat * 250000000 ≤ n := hle
  refine ⟨fun hset => acqTimeout_served (write := fun n => { s.steer with acqTimeout := n, acqTimer := some 0 }) fun b => ?_,
    fun hset hserve => ?_⟩
  · rw [writeAcqTimeout_of_passed (s := s.ask b) hst htimer hle]
    exact if_neg (by simp [hset])
  have hrun := exec_serveItem (c := .setTimingAcquisitionTimeout p tag v) (old := fun s => s.steer.acqTimeout)
    (write := fun x s => s.writeAcqTimeout x.toNat) rfl hserve
  rw [writeAcqTimeout_of_passed (s := s.ask _) hst htimer hle] at hrun
  generalize hu : (s.ask (itemConfig p .acquisitionTimeout s.steer.acqTimeout v)).withSteer
    { (s.ask (itemConfig p .acquisitionTimeout s.steer.acqTimeout v)).steer with
      acqTimeout := (itemValue .acquisitionTimeout v).toNat } = u at hrun
  have hsteer : u.steer = { s.steer with acqTimeout := (itemValue .acquisitionTimeout v).toNat } := by rw [← hu]; exact rfl
  have hsame : u.segs = s.segs ∧ u.commits = s.commits ∧ u.now = s.now := by rw [← hu]; exact ⟨rfl, rfl, rfl⟩
  have hframe : State.differsIn [.steer, .segs, .commits, .trail, .ports, .lastCause] s u := by
    rw [← hu]
    exact .trans ((s.ask_frame _).mono (by decide)) ((State.withSteer_frame _ _).mono (by decide))
  obtain ⟨hsegs, hcommits, hnow⟩ := hsame
  have hst' : u.steer.state = .acquire := by rw [hsteer]; exact hst
  have hset' : u.steer.timeSet = true := by rw [hsteer]; exact hset
  have hopen' : u.steer.stampingOpen = false := by rw [hsteer]; exact hopen
  obtain ⟨-, hnewest, hcause, -⟩ := expireAcquisition_report hst' hset' hopen'
  obtain ⟨-, hmissed, -⟩ := openStamping_spec (s := u.withSteer u.steer.onManual) hopen'
  refine ⟨_, hrun, ?_, ?_, hcause, ?_, .trans (hframe.trans (expireAcquisition_frame_set hst' hset'))
    ((State.done_frame _ _ _ _ _).mono (by decide))⟩
  · change u.expireAcquisition.steer = _
    rw [State.expireAcquisition_steer, if_pos hset', onManual_opened hopen', hsteer]
    exact rfl
  · rw [hsteer] at hnewest
    exact hnewest
  · unfold CommittedMissed at hmissed ⊢
    have hlast : u.expireAcquisition.commits = (u.withSteer u.steer.onManual).openStamping.commits := by
      rw [expireAcquisition_of_set hst' hset']
      exact State.reportTimescale_frame _ _ _ .commits (by decide)
    change ∃ missed, u.expireAcquisition.commits = _ ∧ _
    rw [hlast, ← hcommits, ← hsegs, ← hnow]
    exact hmissed

/-- Settles O22: the items that take effect without more, M with its flag, and a timeout that expires at once. -/
theorem steeringItemsAreServed : Obligations.SteeringItemsAreServed :=
  ⟨steeringItemsAreWritten, shorterAcquisitionTimeoutExpiresAtOnce⟩

end Sys2Proof
end


section
/-! PROOFS. The Port Controllers (chapter 9): SUBSCRIBE and DRAIN, the transmitter, waiting answers and notices, the frames received and
the port reset. -/

-- One proof after another: proofs elaborated side by side each hold a thread, more of them than the check has memory for.
set_option Elab.async false

namespace Sys2Proof

open Machine

/-! ## SUBSCRIBE and DRAIN (R160, R161) -/

theorem statusField_wrong {b : Byte} (h : ¬ (b.toNat = 0 ∨ b.toNat = 1 ∨ b.toNat = 255)) : statusField b = none := by
  unfold statusField
  split <;> simp_all

theorem statusField_known {b : Byte} (h : b.toNat = 0 ∨ b.toNat = 1 ∨ b.toNat = 255) :
    ∃ sub : Option Bool, statusField b = some sub ∧
      (∀ held : Bool, sub.getD held = if b.toNat = 255 then held else decide (b.toNat = 1)) ∧
      (sub = some false ↔ b.toNat = 0) := by
  unfold statusField
  rcases h with h | h | h <;> rw [h]
  · exact ⟨some false, rfl, fun _ => rfl, by simp⟩
  · exact ⟨some true, rfl, fun _ => rfl, by simp⟩
  · exact ⟨none, rfl, fun _ => rfl, by simp⟩

theorem exec_subscribe {p : Port} {tag : Tag} {status : Byte} {threshold : BitVec 16} {s : State}
    (h : s.canServe .subscribe p tag (.subscribe status threshold)) :
    (statusField status = none → exec (.subscribe p tag status threshold) s = .next (s.done p tag .malformed false)) ∧
    ∀ sub, statusField status = some sub → exec (.subscribe p tag status threshold) s =
      .next ((s.withPort p ((s.port p).subscribe sub (thresholdField threshold))).done p tag .ok (thresholdClamped threshold)) := by
  have hexec : exec (.subscribe p tag status threshold) s = execSubscribe p tag status threshold s := rfl
  rw [execSubscribe, s.takeWith_of_canServe p h] at hexec
  refine ⟨fun hf => ?_, fun sub hf => ?_⟩
  all_goals
    simp only [hf] at hexec
    exact hexec

theorem withPort_done_only {s : State} {p : Port} {pc : PortCtl} {tag : Tag} {code : ResultCode} {clamped : Bool} :
    State.onlyPort p (pc.answered (.done tag code clamped)) s ((s.withPort p pc).done p tag code clamped) := by
  obtain ⟨hsame, hne⟩ := (s.withPort p pc).done_answeredBy p tag code clamped
  refine ⟨.trans (s.withPort_frame p pc) (State.done_frame _ p tag code clamped), ?_, fun q hq => ?_⟩
  · rw [hsame, s.port_withPort_same]
  · rw [hne q hq, s.port_withPort_ne p _ hq]

theorem subscribeChangesThePort : SubscribeChangesThePort := by
  intro p tag status threshold s hserve
  obtain ⟨hwrong, hknown⟩ := exec_subscribe hserve
  refine ⟨fun hstatus => replies_done (hwrong (statusField_wrong hstatus)), fun hstatus => ?_⟩
  obtain ⟨sub, hfield, hsub, hoff⟩ := statusField_known hstatus
  refine ⟨_, (thresholdField threshold).getD (s.port p).threshold, thresholdClamped threshold, hknown sub hfield,
    fun hkeep => ?_, fun hkeep => ?_, ?_⟩
  · simp [thresholdClamped, thresholdField, hkeep]
  · simp [thresholdClamped, thresholdField, hkeep]
  · have hpc : (s.port p).subscribe sub (thresholdField threshold) = { s.port p with
        statusSub := if status.toNat = 255 then (s.port p).statusSub else decide (status.toNat = 1)
        threshold := (thresholdField threshold).getD (s.port p).threshold
        pendStatus := if status.toNat = 0 then none else (s.port p).pendStatus } := by
      simp only [PortCtl.subscribe, hsub, hoff]
    rw [hpc]
    exact withPort_done_only

theorem answerDrain_of_room {pc : PortCtl} {tag : Tag} (h : pc.responses.length < 64) : pc.answerDrain tag =
    { pc.served with
      responses := pc.responses ++ [.done tag .ok false]
      drainDone := some (pc.responses.length + 1) } := by
  unfold PortCtl.answerDrain
  rw [if_pos (pc.hasRoom_iff.2 h), PortCtl.complete_eq_served]
  exact rfl

theorem answerDrain_of_full {pc : PortCtl} {tag : Tag} (h : 64 ≤ pc.responses.length) : pc.answerDrain tag =
    { pc with service := .waiting (.done tag .ok false) true } :=
  if_neg fun hr => by have := pc.hasRoom_iff.1 hr; omega

theorem drainWaitsForTheRecordsPresent : DrainWaitsForTheRecordsPresent := by
  refine ⟨fun p tag s hhead => ?_, fun p tag s hservice => ?_⟩
  · have hexec : exec (.drain p tag) s = .next (s.withPort p
        (if (s.port p).responses.isEmpty then (s.port p).answerDrain tag
        else { s.port p with service := .draining tag (s.port p).responses.length })) :=
      congrArg Host.Outcome.next (s.take_of_head p hhead)
    refine ⟨fun hempty => ⟨_, hexec, ?_⟩, fun hsome => ⟨_, hexec, ?_⟩⟩
    · rw [if_pos (by simp [hempty]), answerDrain_of_room (by simp [hempty])]
      simp only [hempty, List.nil_append]
      exact s.withPort_only p _
    · rw [if_neg (by simp [hsome])]
      exact s.withPort_only p _
  · have hexec : exec (.drainComplete p) s = .next (s.withPort p ((s.port p).answerDrain tag)) := by
      change execDrainComplete p s = _
      rw [execDrainComplete, hservice]
      exact rfl
    refine ⟨fun hroom => ⟨_, hexec, ?_⟩, fun hfull => ⟨_, hexec, ?_⟩⟩
    · rw [answerDrain_of_room hroom]
      exact s.withPort_only p _
    · rw [answerDrain_of_full hfull]
      exact s.withPort_only p _

/-- Settles O50: SUBSCRIBE by its code, and DRAIN at its taking and at its end. -/
theorem subscribeAndDrainAreServed : Obligations.SubscribeAndDrainAreServed :=
  ⟨subscribeChangesThePort, drainWaitsForTheRecordsPresent⟩

/-! ## The transmitter (R150, R156, R159) -/

theorem drainOwed_iff (pc : PortCtl) : pc.drainOwed = true ↔ pc.drainDone ≠ none ∨
    (∃ tag left, pc.service = .draining tag left) ∨ ∃ r, pc.service = .waiting r true := by
  unfold PortCtl.drainOwed
  rw [Bool.or_eq_true, Option.isSome_iff_ne_none]
  refine or_congr_right ?_
  cases pc.service <;> simp

theorem batchDue_iff (pc : PortCtl) : pc.batchDue = true ↔ batchIsDue pc := by
  unfold PortCtl.batchDue batchIsDue
  simp [← drainOwed_iff, and_assoc, or_assoc]

theorem idleDue_of {pc : PortCtl} (hsending : pc.sending = false) (hbatch : ¬ batchIsDue pc)
    (h : pc.idleTimer = 0 ∨ pc.holdChanged = true) : pc.idleDue = true := by
  simp [PortCtl.idleDue, hsending, h, ← Bool.not_eq_true, batchDue_iff, hbatch]

/-- A frame from the part, byte by byte (Table 10-2). -/
theorem partFrame_eq (kind : Nat) (hold : Bool) (free batch : Nat) (records : List Record) : partFrame kind hold free batch records =
    withCrc ([BitVec.ofNat 8 kind, 0#8, 0#8, 0#8, 0#8, if hold then 1#8 else 0#8, BitVec.ofNat 8 free] ++ beBytes 4 batch
      ++ [BitVec.ofNat 8 records.length] ++ (records.map Record.encode).flatten) := by
  unfold partFrame
  rw [List.flatMap_def]
  cases hold <;> rfl

/-- What a DRAIN still waits for after records have left. -/
theorem drainDone_after {d : Option Nat} {n : Nat} : ∃ done : Option Nat, done = (match d with
      | some k => if k ≤ n then none else some (k - n)
      | none => none) ∧
    (∀ k : Nat, d = some k → (k ≤ n → done = none) ∧ (n < k → done = some (k - n))) ∧ (d = none → done = none) := by
  refine ⟨_, rfl, ?_, ?_⟩
  · rintro k rfl
    exact ⟨fun h => if_pos h, fun h => if_neg (Nat.not_le.2 h)⟩
  · rintro rfl
    rfl

/-- Settles O48: the idle frame, the batch and the end of a batch. -/
theorem transmitterSendsItsFrames : Obligations.TransmitterSendsItsFrames := by
  intro p s
  refine ⟨fun hsending hbatch hidle => ?_, fun hbatch hlen => ?_, fun hsending => ?_⟩
  · have hexec : exec (.idleFrame p) s = .next (s.withPort p _) :=
      congrArg Host.Outcome.next (if_pos (idleDue_of hsending hbatch hidle))
    refine ⟨_, hexec, ?_⟩
    rw [PortCtl.idleFrame, partFrame_eq]
    simp only [List.map_nil, List.flatten_nil, List.append_nil, List.length_nil]
    exact s.withPort_only p _
  · have hexec : exec (.batchFrame p) s = .next (s.withPort p _) :=
      congrArg Host.Outcome.next (if_pos ((batchDue_iff _).2 hbatch))
    refine ⟨_, hexec, ?_⟩
    have htake : (s.port p).responses.take responsePlaces = (s.port p).responses := List.take_of_length_le hlen
    rw [htake, PortCtl.batchFrame, partFrame_eq]
    exact s.withPort_only p _
  · have hexec : exec (.batchFrameSent p) s = .next (s.withPort p _) := congrArg Host.Outcome.next (if_pos hsending)
    obtain ⟨done, hdone, hsome, hnone⟩ := drainDone_after (d := (s.port p).drainDone) (n := (s.port p).inFlight)
    refine ⟨_, done, hexec, hsome, hnone, ?_⟩
    have hfull : (!(s.port p).hasRoom) = decide (64 ≤ (s.port p).responses.length) := by
      rw [Bool.eq_iff_iff, Bool.not_eq_true', ← Bool.not_eq_true, PortCtl.hasRoom_iff, decide_eq_true_eq, Nat.not_lt]
    rw [hdone, ← hfull]
    exact s.withPort_only p _

/-! ## Notices (R157, R158) -/

/-- A notice enters at once: no slot is taken, and an entry is free beside the one that a waiting answer takes (R155). -/
theorem takesNotice_iff_free (pc : PortCtl) : pc.takesNotice = true ↔ pc.pendStatus = none ∧ pc.pendSegs = [] ∧ pc.pendPort = false ∧
    (pc.responses.length < 63 ∨ pc.responses.length < 64 ∧ ∀ r ofDrain, pc.service ≠ .waiting r ofDrain) := by
  have hroom : pc.responses.length + (if pc.answerWaits then 1 else 0) < 64 ↔
      pc.responses.length < 63 ∨ pc.responses.length < 64 ∧ ∀ r ofDrain, pc.service ≠ .waiting r ofDrain := by
    unfold PortCtl.answerWaits
    split <;> rename_i hs
    · simp [hs]
      omega
    · have hnot : ∀ r ofDrain, pc.service ≠ .waiting r ofDrain := hs
      simp [hnot]
      omega
  rw [PortCtl.takesNotice_iff, PortCtl.noSlots_iff, hroom]
  simp only [and_assoc]

section

variable {seg : SegId} {event : SegEventCode} {seq : Nat}

/-- The slots of other segments stay as they are. -/
theorem mem_recordSlot_other {x : PendingSeg} (hx : x.seg ≠ seg) : ∀ l : List PendingSeg, x ∈ recordSlot seg event seq l ↔ x ∈ l
  | [] => by
    simp only [recordSlot, List.mem_singleton, List.not_mem_nil, iff_false]
    rintro rfl
    exact hx rfl
  | y :: ys => by
    unfold recordSlot
    split
    · rename_i hy
      have h1 : x ≠ { y with count := satAdd max16 y.count 1, event := event, seq := seq } := by
        rintro rfl
        exact hx hy
      have h2 : x ≠ y := by
        rintro rfl
        exact hx hy
      simp only [List.mem_cons, h1, h2]
    · split
      · have h1 : x ≠ { seg := seg, count := 1, event := event, seq := seq } := by
          rintro rfl
          exact hx rfl
        simp only [List.mem_cons, h1, false_or]
      · simp only [List.mem_cons, mem_recordSlot_other hx ys]

/-- The slot of the segment, taken already, counts one more and holds the newest event. -/
theorem mem_recordSlot_same {x : PendingSeg} (hx : x.seg = seg) : ∀ l : List PendingSeg,
    List.Pairwise (· < ·) (l.map fun y => y.seg.val) → x ∈ l →
      { seg := seg, count := min (x.count + 1) 65535, event := event, seq := seq } ∈ recordSlot seg event seq l
  | [], _, hmem => by simp at hmem
  | y :: ys, hord, hmem => by
    simp only [List.map_cons, List.pairwise_cons, List.mem_map, forall_exists_index, and_imp, forall_apply_eq_imp_iff₂] at hord
    obtain ⟨hlow, hrest⟩ := hord
    have hcase : x = y ∨ x ∈ ys := by simpa using hmem
    unfold recordSlot
    split
    · rename_i hy
      rcases hcase with rfl | hys
      · rw [satAdd_eq_min, ← hx]
        exact List.mem_cons_self
      · exact absurd (hlow x hys) (by rw [hx, hy]; omega)
    · rename_i hne
      rcases hcase with rfl | hys
      · exact absurd hx hne
      · rw [if_neg (by have := hlow x hys; rw [hx] at this; omega)]
        exact List.mem_cons_of_mem _ (mem_recordSlot_same hx ys hrest hys)

/-- A segment without a slot takes one. -/
theorem mem_recordSlot_new : ∀ l : List PendingSeg, (∀ x ∈ l, x.seg ≠ seg) →
    { seg := seg, count := 1, event := event, seq := seq } ∈ recordSlot seg event seq l
  | [], _ => by simp [recordSlot]
  | y :: ys, hno => by
    unfold recordSlot
    rw [if_neg (hno y List.mem_cons_self)]
    split
    · exact List.mem_cons_self
    · exact List.mem_cons_of_mem _ (mem_recordSlot_new ys fun x hx => hno x (List.mem_cons_of_mem _ hx))

end

theorem notifyStatus_of_deaf {pc : PortCtl} (body : StatusBody) (h : pc.up = false ∨ pc.statusSub = false) :
    pc.notifyStatus body = pc := if_pos (by rcases h with h | h <;> simp [h])

theorem notifyStatus_of_heard {pc : PortCtl} (body : StatusBody) (hup : pc.up = true) (hsub : pc.statusSub = true) :
    pc.notifyStatus body = if pc.takesNotice then { pc with responses := pc.responses ++ [.status body] }
      else { pc with pendStatus := some (min (pc.pendStatus.getD 0 + 1) 65535) } := by
  unfold PortCtl.notifyStatus
  rw [if_neg (by simp [hup, hsub]), satAdd_eq_min]
  exact rfl

theorem noticesAreQueuedOrCoalesced : NoticesAreQueuedOrCoalesced := by
  intro pc
  dsimp only
  rw [← takesNotice_iff_free]
  refine ⟨fun body => ⟨notifyStatus_of_deaf body, fun hup hsub => ?_⟩, fun n => ⟨fun hdown => ?_, fun hup hfree => ?_, fun hup hfull hord => ?_⟩,
    fun hdown => ?_, fun hup hfree => ?_, fun hup hfull => ?_⟩
  · rw [notifyStatus_of_heard body hup hsub]
    refine ⟨fun hfree => if_pos hfree, fun hfull => (if_neg hfull).trans ?_⟩
    cases pc.pendStatus <;> rfl
  · exact if_pos (by simp [hdown])
  · exact (if_neg (by simp [hup])).trans (if_pos hfree)
  · refine ⟨_, (if_neg (by simp [hup])).trans (if_neg hfull), PortCtl.recordSlot_ordered hord,
      fun x hx => mem_recordSlot_other hx _, fun x hmem hx => mem_recordSlot_same hx _ hord hmem, mem_recordSlot_new _⟩
  · exact if_pos (by simp [hdown])
  · exact (if_neg (by simp [hup])).trans (if_pos hfree)
  · exact (if_neg (by simp [hup])).trans (if_neg hfull)

/-! ## Waiting answers and the drain of the set (R154, R158) -/

theorem exec_waitingAnswer {p : Port} {s : State} {r : Record} {ofDrain : Bool} (hservice : (s.port p).service = .waiting r ofDrain)
    (hroom : (s.port p).responses.length < 64) : exec (.waitingAnswer p) s = .next (s.withPort p { (s.port p).served with
      responses := (s.port p).responses ++ [r]
      drainDone := if ofDrain then some ((s.port p).responses.length + 1) else (s.port p).drainDone }) := by
  change execWaitingAnswer p s = _
  rw [execWaitingAnswer, hservice]
  dsimp only
  rw [if_pos ((s.port p).hasRoom_iff.2 hroom), PortCtl.complete_eq_served]
  cases ofDrain
  · exact rfl
  · simp only [PortCtl.served, PortCtl.enqueue, List.length_append, List.length_singleton]
    exact rfl

/-- What the STATUS slot brings into the queue. -/
def statusSlot (s : State) (pc : PortCtl) : List Record :=
  (pc.pendStatus.map fun n => Record.status (s.statusBody n)).toList

theorem statusSlot_none (s : State) {pc : PortCtl} (h : pc.pendStatus = none) : statusSlot s pc = [] := by simp [statusSlot, h]

theorem statusSlot_some (s : State) {pc : PortCtl} {n : Nat} (h : pc.pendStatus = some n) :
    statusSlot s pc = [.status (s.statusBody n)] := by simp [statusSlot, h]

theorem drainStatus_eq {s : State} {pc : PortCtl} (hroom : pc.responses.length < 64) :
    pc.drainStatus s.statusBody = { pc with responses := pc.responses ++ statusSlot s pc, pendStatus := none } := by
  unfold statusSlot
  cases h : pc.pendStatus with
  | none =>
    simp only [PortCtl.drainStatus, h, Option.map_none, Option.toList_none, List.append_nil]
    rw [← h]
  | some n =>
    simp only [PortCtl.drainStatus, h, if_pos (pc.hasRoom_iff.2 hroom)]
    exact rfl

theorem statusSlot_length (s : State) (pc : PortCtl) : (statusSlot s pc).length ≤ 1 := by
  unfold statusSlot
  cases pc.pendStatus <;> simp

/-- The set drained into the free entries of a queue: the STATUS slot, the segment slots in their order, the PORT slot (R158). -/
theorem drain_eq {s : State} {pc : PortCtl} (hroom : pc.responses.length < 64) :
    let segments := pc.pendSegs.map fun x => Record.segmentEvent (s.slotNotice x)
    let port : List Record := if pc.pendPort then [.port pc.overrun] else []
    let room := 64 - pc.responses.length
    let enters : Prop := pc.pendPort = true ∧ (statusSlot s pc).length + segments.length < room
    ∃ (overrun : Nat) (left : Bool), (enters → overrun = 0 ∧ left = false) ∧ (¬ enters → overrun = pc.overrun ∧ left = pc.pendPort) ∧
      ((pc.drainStatus s.statusBody).drainSegs s.slotNotice).drainPort = { pc with
        responses := pc.responses ++ (statusSlot s pc ++ segments ++ port).take room
        pendStatus := none
        pendSegs := pc.pendSegs.drop (room - (statusSlot s pc).length)
        pendPort := left
        overrun := overrun } := by
  intro segments port room enters
  have hstatus := statusSlot_length s pc
  have hfree : room - (statusSlot s pc).length = 64 - (pc.responses ++ statusSlot s pc).length := by
    simp only [room, List.length_append]
    omega
  have hsegs : (pc.drainStatus s.statusBody).drainSegs s.slotNotice = { pc with
      responses := pc.responses ++ statusSlot s pc ++ segments.take (room - (statusSlot s pc).length)
      pendStatus := none
      pendSegs := pc.pendSegs.drop (room - (statusSlot s pc).length) } := by
    rw [drainStatus_eq hroom, hfree]
    simp only [PortCtl.drainSegs, segments, ← List.map_take]
    exact rfl
  have hentered : (statusSlot s pc ++ segments).take room = statusSlot s pc ++ segments.take (room - (statusSlot s pc).length) := by
    rw [List.take_append, List.take_of_length_le (by omega)]
  have hlen : (pc.responses ++ statusSlot s pc ++ segments.take (room - (statusSlot s pc).length)).length < 64 ↔
      (statusSlot s pc).length + segments.length < room := by
    simp only [List.length_append, List.length_take, room]
    omega
  rw [hsegs]
  unfold PortCtl.drainPort
  by_cases hport : pc.pendPort = true
  · by_cases hfits : (statusSlot s pc).length + segments.length < room
    · refine ⟨0, false, fun _ => ⟨rfl, rfl⟩, fun h => absurd ⟨hport, hfits⟩ h, ?_⟩
      rw [if_pos (by rw [Bool.and_eq_true, PortCtl.hasRoom_iff]; exact ⟨hport, hlen.2 hfits⟩)]
      have hall : (statusSlot s pc ++ segments ++ port).take room = statusSlot s pc ++ segments ++ port :=
        List.take_of_length_le (by simp [port, hport]; omega)
      have htake : segments.take (room - (statusSlot s pc).length) = segments := List.take_of_length_le (by omega)
      rw [hall, htake]
      simp [PortCtl.enqueue, port, hport]
    · refine ⟨pc.overrun, pc.pendPort, fun h => absurd h.2 hfits, fun _ => ⟨rfl, rfl⟩, ?_⟩
      rw [if_neg (by rw [Bool.and_eq_true, PortCtl.hasRoom_iff]; exact fun h => hfits (hlen.1 h.2)),
        List.take_append_of_le_length (by simp only [List.length_append]; omega), hentered, List.append_assoc]
  · refine ⟨pc.overrun, pc.pendPort, fun h => absurd h.1 hport, fun _ => ⟨rfl, rfl⟩, ?_⟩
    rw [if_neg (by simp [hport])]
    have hnone : port = [] := if_neg hport
    rw [hnone, List.append_nil, hentered, List.append_assoc]

theorem drainsNotices_of {pc : PortCtl} (hup : pc.up = true) (hwait : ∀ r ofDrain, pc.service ≠ .waiting r ofDrain)
    (hroom : pc.responses.length < 64) (hslots : pc.pendStatus ≠ none ∨ pc.pendSegs ≠ [] ∨ pc.pendPort = true) :
    pc.drainsNotices = true := by
  have hslot : pc.noSlots = false := by
    rw [← Bool.not_eq_true, PortCtl.noSlots_iff]
    rintro ⟨h1, h2, h3⟩
    rcases hslots with h | h | h
    · exact h h1
    · exact h h2
    · simp [h3] at h
  have hfree : pc.answerWaits = false := by
    unfold PortCtl.answerWaits
    split <;> rename_i hs
    · exact absurd hs (hwait _ _)
    · rfl
  simp [PortCtl.drainsNotices, hup, hslot, hfree, pc.hasRoom_iff.2 hroom]

theorem waitingAnswersAndSlotsEnterFreeEntries : WaitingAnswersAndSlotsEnterFreeEntries := by
  intro p s
  refine ⟨fun r ofDrain hservice hroom => ⟨_, exec_waitingAnswer hservice hroom, s.withPort_only p _⟩, fun hup hwait hroom hslots => ?_⟩
  have hexec : exec (.pendingNoticeDrain p) s =
      .next (s.withPort p (((s.port p).drainStatus s.statusBody).drainSegs s.slotNotice).drainPort) :=
    congrArg Host.Outcome.next (if_pos (drainsNotices_of hup hwait hroom hslots))
  have hsegs : (fun x : PendingSeg => Record.segmentEvent (s.slotNotice x)) = fun x => .segmentEvent
      { epoch := s.epoch.epoch
        seg := x.seg
        event := x.event
        after := (s.segs.get x.seg).state
        fromSet := true
        count := x.count
        cycle := (s.segs.get x.seg).cycle
        extensions := (s.segs.get x.seg).extensions
        seq := x.seq
        xt := s.now
        offset := (table42 s.leap s.now).1
        leapState := (table42 s.leap s.now).2
        newClose := none
        lastOpen := (s.segs.get x.seg).lastOpen
        lastCall := (s.segs.get x.seg).lastCall
        lastClose := (s.segs.get x.seg).lastClose
        closeRec := (s.segs.get x.seg).closeRec } := by
    simp only [table42_eq]
    exact rfl
  dsimp only
  rw [← hsegs, readingAt_eq]
  cases hst : (s.port p).pendStatus with
  | none =>
    obtain ⟨overrun, left, hin, hout, hdrain⟩ := drain_eq (s := s) hroom
    rw [statusSlot_none s hst] at hin hout hdrain
    rw [hdrain] at hexec
    exact ⟨_, overrun, left, hexec, hin, hout, s.withPort_only p _⟩
  | some n =>
    obtain ⟨overrun, left, hin, hout, hdrain⟩ := drain_eq (s := s) hroom
    rw [statusSlot_some s hst] at hin hout hdrain
    rw [hdrain] at hexec
    exact ⟨_, overrun, left, hexec, hin, hout, s.withPort_only p _⟩

/-- Settles O49: notices as they are raised, and what enters the free entries. -/
theorem waitingAnswersAndNoticesEnterFreeEntries : Obligations.WaitingAnswersAndNoticesEnterFreeEntries :=
  ⟨noticesAreQueuedOrCoalesced, waitingAnswersAndSlotsEnterFreeEntries⟩

end Sys2Proof
end


section
/-! PROOFS. The frames that a Port Controller receives (R149, R151, R152) and the port reset (R162). -/

-- One proof after another: proofs elaborated side by side each hold a thread, more of them than the check has memory for.
set_option Elab.async false

namespace Sys2Proof

open Machine

/-! ## Entries of class B (R134) -/

theorem request_gateB (t : TrailUnit) {b : TrailBody} (w : Writing) (h : b.classB = true) : GateB t (t.request b w) b w := by
  rw [GateB, t.request_classB b w h]
  split
  · exact t.write_wrote b w
  · rfl

/-! ## Frames received -/

section

variable {p : Port} {s : State} {f : Frame}

theorem exec_clientFrame_encoded : exec (.clientFrame p f.encode) s = .next
    (if f.kind.toNat = 1 then if (s.port p).up then s.resetPort p .resetFrame else s else s.receive p f) := by
  change execClientFrame p f.encode s = _
  rw [execClientFrame, parseFrame_encode]

/-- The port once a valid frame has come. -/
def heardPort (pc : PortCtl) : PortCtl :=
  { pc with up := true, batchNumber := if pc.up then pc.batchNumber else 0, silence := some 2500000 }

/-- The part once a valid frame has brought its link up and restarted its silence timer. -/
def heardState (s : State) (p : Port) : State :=
  (s.linkUp p).withPort p { (s.linkUp p).port p with silence := some silenceCycles }

theorem linkUp_of_up (h : (s.port p).up = true) : s.linkUp p = s := if_pos h

theorem linkUp_of_down (h : (s.port p).up = false) :
    s.linkUp p = (s.withPort p { s.port p with up := true, batchNumber := 0 }).ask (.port p .linkUp) := if_neg (by simp [h])

/-- What a valid frame does before its request is looked at (R149, R151). -/
theorem heardState_spec (s : State) (p : Port) : (heardState s p).port p = heardPort (s.port p) ∧
    State.otherPorts p s (heardState s p) ∧ State.differsIn [.trail, .ports] s (heardState s p) ∧
    (heardState s p).trail = (if (s.port p).up then s.trail else s.trail.request (.port p .linkUp) s.writing) := by
  have hframe : State.differsIn [.trail, .ports] s (heardState s p) :=
    .trans ((s.linkUp_frame p).mono (by decide)) ((State.withPort_frame _ _ _).mono (by decide))
  unfold heardState at *
  rw [State.port_withPort_same]
  by_cases hup : (s.port p).up = true
  · rw [linkUp_of_up hup] at *
    refine ⟨?_, fun q hq => s.port_withPort_ne p _ hq, hframe, (if_pos hup).symm⟩
    simp [heardPort, hup, silenceCycles]
  · rw [Bool.not_eq_true] at hup
    rw [linkUp_of_down hup] at *
    refine ⟨?_, fun q hq => (State.port_withPort_ne _ p _ hq).trans (s.port_withPort_ne p _ hq), hframe, ?_⟩
    · rw [State.port_ask, State.port_withPort_same]
      simp [heardPort, hup, silenceCycles]
    · rw [if_neg (by simp [hup])]
      exact rfl

theorem receive_eq : s.receive p f = if f.kind.toNat = 0 then heardState s p
    else (heardState s p).offer p { tag := f.tag, body := parseRequest f.kind f.body } := rfl

/-- A request that finds a place. -/
theorem offer_of_room {q : Request} (h : (s.port p).requests.length < 32) : s.offer p q = s.withPort p { s.port p with
    requests := (s.port p).requests ++ [q]
    holdChanged := (s.port p).holdChanged || decide ((s.port p).requests.length = 27) } := by
  rw [← PortCtl.withRequests_join]
  exact if_pos h

theorem notifyPort_of_up {pc : PortCtl} (hup : pc.up = true) : pc.notifyPort =
    if pc.takesNotice then { pc with responses := pc.responses ++ [.port pc.overrun], overrun := 0 }
    else { pc with pendPort := true } := if_neg (by simp [hup])

/-- A request that finds the queue full (R152). -/
theorem offer_of_full {q : Request} (h : 32 ≤ (s.port p).requests.length) :
    (s.offer p q).port p = ({ s.port p with overrun := min ((s.port p).overrun + 1) 65535 } : PortCtl).notifyPort ∧
      State.otherPorts p s (s.offer p q) ∧
      (s.offer p q).trail = if (s.port p).overrun = 0 then s.trail.request (.port p .overrun) s.writing else s.trail := by
  have heq : s.offer p q = s.overrun p := if_neg (Nat.not_lt.2 h)
  rw [heq, ← satAdd_eq_min]
  unfold State.overrun
  by_cases hfirst : (s.port p).overrun = 0
  · simp only [hfirst, decide_true, if_true]
    refine ⟨?_, fun q hq => ?_, rfl⟩
    · rw [State.port_withPort_same, State.port_ask, State.port_withPort_same]
      exact rfl
    · exact (State.port_withPort_ne _ p _ hq).trans (s.port_withPort_ne p _ hq)
  · simp only [hfirst, decide_false, if_false, Bool.false_eq_true]
    refine ⟨?_, fun q hq => ?_, rfl⟩
    · rw [State.port_withPort_same, State.port_withPort_same]
      exact rfl
    · exact (State.port_withPort_ne _ p _ hq).trans (s.port_withPort_ne p _ hq)

end

theorem clientFramesJoinTheRequestQueue : ClientFramesJoinTheRequestQueue := by
  intro p f s hkind
  have hexec : exec (.clientFrame p f.encode) s = .next (s.receive p f) := by rw [exec_clientFrame_encoded, if_neg hkind]
  obtain ⟨hport, hother, hframe, htrail⟩ := heardState_spec s p
  have hreceive := receive_eq (p := p) (s := s) (f := f)
  have hwriting : (heardState s p).writing = s.writing :=
    State.writing_congr s (congrArg (fun x : XtCounter => (x.ns : Int)) (hframe .xt (by decide)))
      (congrArg Arbiter.seq (hframe .arb (by decide))) (by rw [hframe .leap (by decide)])
  have hup : (s.port p).up = true → (heardState s p).trail = s.trail := fun h => htrail.trans (if_pos h)
  have hdown : (s.port p).up = false → GateB s.trail (heardState s p).trail (.port p .linkUp) s.writing := fun h => by
    rw [htrail, if_neg (by simp [h])]
    exact request_gateB _ _ rfl
  refine ⟨_, hexec, ?_⟩
  by_cases hidle : f.kind.toNat = 0
  · rw [hreceive, if_pos hidle]
    exact ⟨hother, hframe, fun _ => hport, fun h => absurd hidle h, fun h => absurd hidle h.1, fun h => absurd hidle h.1,
      fun h _ => hup h, fun h _ => hdown h, fun _ h => absurd hidle h.1⟩
  rw [hreceive, if_neg hidle]
  have hwithin := hframe.trans ((State.offer_frame (heardState s p) p { tag := f.tag, body := parseRequest f.kind f.body }).mono
    (by decide : ∀ b ∈ [Block.ports, .trail], b ∈ [Block.trail, .ports]))
  have hreq : ((heardState s p).port p).requests = (s.port p).requests := by rw [hport]; exact rfl
  by_cases hroom : (s.port p).requests.length < 32
  · have hoffer := offer_of_room (q := { tag := f.tag, body := parseRequest f.kind f.body })
      (show ((heardState s p).port p).requests.length < 32 by rwa [hreq])
    have hothers : State.otherPorts p s ((heardState s p).offer p { tag := f.tag, body := parseRequest f.kind f.body }) :=
      fun q hq => by rw [hoffer, State.port_withPort_ne _ p _ hq, hother q hq]
    refine ⟨hothers, hwithin, fun h => absurd h hidle, fun _ _ => ?_, fun h => absurd hroom (Nat.not_lt.2 h.2),
      fun h => absurd hroom (Nat.not_lt.2 h.2), fun h _ => ?_, fun h _ => ?_, fun _ h => absurd hroom (Nat.not_lt.2 h.2)⟩
    · rw [hoffer, State.port_withPort_same, hport]
      exact rfl
    · rw [hoffer]
      exact hup h
    · rw [hoffer]
      exact hdown h
  · obtain ⟨hfull, hothers, htrail'⟩ := offer_of_full (q := { tag := f.tag, body := parseRequest f.kind f.body })
      (show 32 ≤ ((heardState s p).port p).requests.length by rw [hreq]; omega)
    have hoverrun : ((heardState s p).port p).overrun = (s.port p).overrun := by rw [hport]; exact rfl
    rw [hoverrun, hwriting] at htrail'
    rw [hport, notifyPort_of_up rfl] at hfull
    have hfree := takesNotice_iff_free { heardPort (s.port p) with overrun := min ((heardPort (s.port p)).overrun + 1) 65535 }
    refine ⟨fun q hq => (hothers q hq).trans (hother q hq), hwithin, fun h => absurd h hidle, fun _ h => absurd h hroom,
      fun _ h => hfull.trans (if_pos (hfree.2 h)), fun _ h => hfull.trans (if_neg fun h' => h (hfree.1 h')), fun h hor => ?_,
      fun _ h => absurd ⟨hidle, Nat.not_lt.1 hroom⟩ h, fun h _ hfirst => ?_⟩
    · rw [htrail', if_neg (hor.resolve_left fun h => h ⟨hidle, Nat.not_lt.1 hroom⟩), hup h]
    · rw [htrail', if_pos hfirst, hup h]
      exact request_gateB _ _ rfl

/-! ## Damaged frames (R149) -/

theorem parseFrame_of_short {bytes : List Byte} (h : bytes.length < 7) : parseFrame bytes = none := if_pos h

theorem parseFrame_of_wrongCrc {covered : List Byte} {sent : BitVec 16} (h : sent ≠ crc16 covered) :
    parseFrame (covered ++ [sent.extractLsb' 8 8, sent.extractLsb' 0 8]) = none := by
  have htake : (covered ++ [sent.extractLsb' 8 8, sent.extractLsb' 0 8]).take
      ((covered ++ [sent.extractLsb' 8 8, sent.extractLsb' 0 8]).length - 2) = covered := by simp
  have hfield : fieldAt (covered ++ [sent.extractLsb' 8 8, sent.extractLsb' 0 8])
      ((covered ++ [sent.extractLsb' 8 8, sent.extractLsb' 0 8]).length - 2) 2 = sent.toNat := by
    have hlt := sent.isLt
    simp only [fieldAt, List.length_append, List.length_cons, List.length_nil, Nat.zero_add, Nat.add_sub_cancel, List.drop_left',
      List.take_succ_cons, List.take_zero, beNat, List.foldl_cons, List.foldl_nil, BitVec.extractLsb'_toNat,
      Nat.shiftRight_eq_div_pow]
    omega
  by_cases hshort : (covered ++ [sent.extractLsb' 8 8, sent.extractLsb' 0 8]).length < 7
  · exact parseFrame_of_short hshort
  · refine (if_neg hshort).trans (if_neg ?_)
    rw [htake, hfield]
    exact fun hcrc => h (BitVec.eq_of_toNat_eq hcrc)

theorem damagedFramesAreOnlyCounted : DamagedFramesAreOnlyCounted := by
  intro p s
  have hcounted : ∀ c : Instr, exec c s = .next (s.count fun c => c.crcDiscard p) → ∃ t : State, exec c s = .next t ∧
      State.differsIn [.trail] s t ∧ t.trail = { s.trail with counters := { s.trail.counters with
        crcDiscards := s.trail.counters.crcDiscards.set p (min (s.trail.counters.crcDiscards.get p + 1) 4294967295) } } :=
    fun c h => ⟨_, h, s.count_frame _, by rw [← bump_eq_min]; exact rfl⟩
  have hdamaged : ∀ bytes, parseFrame bytes = none → exec (.clientFrame p bytes) s = .next (s.count fun c => c.crcDiscard p) :=
    fun bytes h => by
      change execClientFrame p bytes s = _
      rw [execClientFrame, h]
  refine ⟨fun bytes h => hcounted _ (hdamaged _ (parseFrame_of_short h)),
    fun covered sent h => hcounted _ (hdamaged _ (parseFrame_of_wrongCrc h)), hcounted _ rfl, fun f hkind hdown => ?_⟩
  rw [exec_clientFrame_encoded, if_pos hkind, if_neg (by simp [hdown])]

/-- Settles O46: valid frames by their kind and the room for them, and the frames that are only counted. -/
theorem clientFramesAreSorted : Obligations.ClientFramesAreSorted :=
  ⟨clientFramesJoinTheRequestQueue, damagedFramesAreOnlyCounted⟩

/-! ## The port reset (R62, R93, R124, R162) -/

theorem discarded_eq (pc : PortCtl) : pc.discarded = pc.responses ++ (match pc.service with
    | .waiting r _ => [r]
    | _ => []) := by
  unfold PortCtl.discarded
  cases pc.service <;> simp

/-- The least and the greatest of the numbers that some records carry. -/
theorem seqRange_spec (gone : List Record) :
    (seqRange (gone.filterMap Record.seqNumber) = none → ∀ r ∈ gone, r.seqNumber = none) ∧
    ∀ least greatest : Nat, seqRange (gone.filterMap Record.seqNumber) = some (least, greatest) →
      (∃ r ∈ gone, r.seqNumber = some least) ∧ (∃ r ∈ gone, r.seqNumber = some greatest) ∧
        ∀ r ∈ gone, ∀ n : Nat, r.seqNumber = some n → least ≤ n ∧ n ≤ greatest := by
  have hmem : ∀ n : Nat, n ∈ gone.filterMap Record.seqNumber ↔ ∃ r ∈ gone, r.seqNumber = some n := fun n => by simp
  generalize gone.filterMap Record.seqNumber = ns at hmem
  cases ns with
  | nil =>
    refine ⟨fun _ r hr => ?_, by simp [seqRange]⟩
    cases h : r.seqNumber with
    | none => rfl
    | some n => exact absurd ((hmem n).2 ⟨r, hr, h⟩) (by simp)
  | cons n rest =>
    refine ⟨by simp [seqRange], fun least greatest h => ?_⟩
    obtain ⟨rfl, rfl⟩ : rest.foldl min n = least ∧ rest.foldl max n = greatest := by simpa [seqRange] using h
    obtain ⟨hmin, hle⟩ := List.min?_eq_some_iff.1 (show (n :: rest).min? = some (rest.foldl min n) from rfl)
    obtain ⟨hmax, hge⟩ := List.max?_eq_some_iff.1 (show (n :: rest).max? = some (rest.foldl max n) from rfl)
    simp only [← hmem]
    exact ⟨hmin, hmax, fun r hr k hk => ⟨hle k ((hmem k).2 ⟨r, hr, hk⟩), hge k ((hmem k).2 ⟨r, hr, hk⟩)⟩⟩

theorem bank_toList_eq {n : Nat} {α : Type} (b : Bank n α) : b.toList = (List.finRange n).map b.get := by
  apply List.ext_getElem
  · simp [b.len]
  · intro i h1 h2
    simp [Bank.get]

theorem fifoRecords_eq (s : State) (p : Port) : s.fifoRecords p = ((List.finRange 8).map fun l : Line =>
    if (s.capture.get l).port = p then (s.capture.get l).fifo.length else 0).sum := by
  unfold State.fifoRecords
  rw [bank_toList_eq, List.map_map]
  exact rfl

theorem afterPortReset_eq (pc : PortCtl) : pc.afterPortReset = { pc with
    up := false
    silence := none
    requests := []
    service := .untaken
    overrun := 0
    responses := []
    justFreed := false
    inFlight := 0
    sending := false
    pendStatus := none
    pendSegs := []
    pendPort := false
    statusSub := decide (pc.role = .oversight ∨ pc.role = .full)
    threshold := 1
    batchNumber := 0
    drainDone := none
    holdChanged := pc.holdChanged || decide (28 ≤ pc.requests.length)
    idleTimer := if pc.sending then 250000 else pc.idleTimer } := by
  have hsub : pc.role.statusDefault = decide (pc.role = .oversight ∨ pc.role = .full) := by
    cases pc.role <;> rfl
  rw [← hsub]
  exact rfl

theorem emptied_eq (c : CaptureLine) : c.empty = { c with fifo := [], overflow := min (c.overflow + c.fifo.length) 255 } := by
  unfold CaptureLine.empty CaptureLine.discard
  rw [satAdd_eq_min]

theorem resetPort_capture (s : State) (p : Port) (cause : ResetCause) (l : Line) : (s.resetPort p cause).capture.get l =
    if (s.capture.get l).port = p then (s.capture.get l).empty else s.capture.get l := Bank.get_map _ s.capture l

theorem overflow_eq (c : Counters) (n : Nat) : c.overflow n = { c with overflows := min (c.overflows + n) 4294967295 } := by
  unfold Counters.overflow
  rw [satAdd_eq_min]
  exact rfl

/-- The entry of a port reset, for the records that it has discarded. -/
theorem resetPort_gateB {s : State} {p : Port} {cause : ResetCause} {gone : List Record} {lost : Nat}
    (hgone : (s.port p).discarded = gone) (hlost : s.fifoRecords p = lost) :
    GateB { s.trail with counters := { s.trail.counters with overflows := min (s.trail.counters.overflows + lost) 4294967295 } }
      (s.resetPort p cause).trail (.port p (.portReset cause gone.length (seqRange (gone.filterMap Record.seqNumber)))) s.writing := by
  subst hgone hlost
  rw [← overflow_eq]
  exact request_gateB _ _ rfl

/-- Settles O47: both causes come to `State.resetPort`, block by block. -/
theorem portResetEmptiesThePort : Obligations.PortResetEmptiesThePort := by
  intro p s c cause hcause hup
  have hexec : exec c s = .next (s.resetPort p cause) := by
    rcases hcause with ⟨⟨f, hkind, rfl⟩, rfl⟩ | ⟨rfl, hsilent, rfl⟩
    · rw [exec_clientFrame_encoded, if_pos hkind, if_pos hup]
    · exact congrArg Host.Outcome.next (if_pos (by simp [PortCtl.silent, hup, hsilent]))
  refine ⟨_, seqRange (List.filterMap Record.seqNumber _), hexec, fun q hq => s.port_withPort_ne p _ hq, ?_, rfl, fun l => ?_,
    (seqRange_spec _).1, (seqRange_spec _).2, resetPort_gateB (discarded_eq _) (fifoRecords_eq s p),
    (s.resetPort_frame p cause).mono (by decide)⟩
  · rw [← afterPortReset_eq]
    exact s.port_withPort_same p _
  · rw [resetPort_capture, emptied_eq]

end Sys2Proof
end


section
/-! PROOFS. The grants of stamps and captures (R82, R83, R87, R123) and the capture lines (R121, R122, R125). -/

-- One proof after another: proofs elaborated side by side each hold a thread, more of them than the check has memory for.
set_option Elab.async false

namespace Sys2Proof

open Machine

/-! ## The grants (R83, R87, R123) -/

/-- Only the blocks that a command touches differ after it. -/
theorem exec_differs {c : Instr} {s t : State} (h : exec c s = .next t) {cs : List Block}
    (hcs : Instr.touches c = cs := by rfl) : State.differsIn cs s t := fun _ hb => exec_same h (hcs ▸ hb)

/-- The reading that a granted record carries is taken with the counter raised. -/
theorem grant_reading (s : State) : readingAt s (s.arb.seq + 1) = s.grant.reading := by
  rw [← readingAt_eq]
  rfl

theorem phase_eq (st : SegState) : st.phase = match st with
    | .idle => .outOfCycle
    | .armed => .outOfCycle
    | .opened => .opened
    | .call => .call
    | .random => .random
    | .suspended => .suspended
    | .closed => .closed := by
  cases st <;> rfl

theorem stamped_eq (c : Counters) (p : Port) : c.stamped p = { c with stamps := c.stamps.set p (min (c.stamps.get p + 1) 4294967295) } := by
  rw [Counters.stamped, bump_eq_min]

theorem captured_eq (c : Counters) : c.captured = { c with captures := min (c.captures + 1) 4294967295 } := by
  rw [Counters.captured, bump_eq_min]

theorem exec_stampGrant {p : Port} {tag : Tag} {seg : Option SegId} {s : State} (hturn : stampTurn s p)
    (hservice : (s.port p).service = .stamping tag seg) : exec (.stampGrant p) s = .next
      (((s.grant.withPort p ((s.port p).enqueue (s.grant.stampedRecord tag seg)).complete).count fun c => c.stamped p).withArb
        (s.grant.arb.stampGranted p (s.port p).role.high)) := by
  refine congrArg Host.Outcome.next ?_
  rw [if_pos (arbiterChoice_stamp_iff.2 hturn)]
  simp only [hservice]
  congr 2
  rw [State.port_count, State.port_withPort_same]
  rfl

/-- Settles O28: the record is read after the counter has risen, and the pointer of the port's class passes it. -/
theorem stampGrantFormsTheRecord : Obligations.StampGrantFormsTheRecord := by
  intro p tag seg s hturn hservice high phase
  have hexec := exec_stampGrant hturn hservice
  refine ⟨_, hexec, ?_, ?_, fun q hq => State.port_withPort_ne _ p _ hq, ?_, exec_differs hexec⟩
  · rw [State.withArb_arb, Arbiter.stampGranted, high_eq_highClass]
    cases hhigh : highClass (s.port p).role <;> simp only [high, hhigh] <;> rfl
  · rw [State.port_withArb, State.port_count, State.port_withPort_same, PortCtl.complete_eq_served, State.stampedRecord,
      ← grant_reading]
    have hphase (st : SegState) : st.phase = phase st := phase_eq st
    cases seg with
    | none => rfl
    | some i =>
      simp only [Option.map_some, ← hphase]
      rfl
  · rw [State.withArb_trail, State.count_trail, stamped_eq]
    rfl

theorem exec_captureGrant {l : Line} {e : EdgeRecord} {rest : List EdgeRecord} {s : State} (hturn : captureTurn s l)
    (hfifo : (s.capture.get l).fifo = e :: rest) : exec (.captureGrant l) s = .next
      ((((s.grant.withPort (s.capture.get l).port ((s.port (s.capture.get l).port).enqueue (s.grant.capturedRecord l e))).withCapture
        (s.capture.set l { s.capture.get l with fifo := rest, overflow := 0 })).count Counters.captured).withArb
          { s.grant.arb with capturePtr := l + 1 }) := by
  refine congrArg Host.Outcome.next ?_
  rw [if_pos (arbiterChoice_capture_iff.2 hturn)]
  simp only [hfifo]
  rfl

/-- Settles O29: the notice is read after the counter has risen, and the edge leaves the FIFO. -/
theorem captureGrantFormsTheNotice : Obligations.CaptureGrantFormsTheNotice := by
  intro l e rest s hturn hfifo
  have hexec := exec_captureGrant hturn hfifo
  refine ⟨_, hexec, rfl, ?_, fun q hq => State.port_withPort_ne _ _ _ hq, Bank.get_set_self _ _ _, fun k hk => Bank.get_set_ne _ _ hk,
    ?_, exec_differs hexec⟩
  · rw [State.port_withArb, State.port_count, State.port_withCapture, State.port_withPort_same, State.capturedRecord, ← grant_reading]
    rfl
  · rw [State.withArb_trail, State.count_trail, captured_eq]
    rfl

/-! ## Edges (R121, R122) -/

theorem selects_iff (sel : EdgeSel) (kind : EdgeKind) : sel.selects kind = true ↔
    sel = .both ∨ sel = .rising ∧ kind = .rising ∨ sel = .falling ∧ kind = .falling := by
  cases sel <;> cases kind <;> simp [EdgeSel.selects]

theorem keepsEdge_iff (s : State) (c : CaptureLine) : s.keepsEdge c = true ↔
    s.steer.stampingOpen = true ∧ (s.port c.port).up = true ∧ c.fifo.length < 4 := by
  rw [State.keepsEdge, Bool.and_eq_true, Bool.and_eq_true, decide_eq_true_iff, and_assoc]
  rfl

theorem captureEdgeIsKeptOrCounted : CaptureEdgeIsKeptOrCounted := by
  intro l kind s x selected kept
  have hselected : x.edgeSel.selects kind = true ↔ selected := selects_iff _ _
  have hkept : s.keepsEdge x = true ↔ kept := keepsEdge_iff s x
  have hexec : exec (.captureEdge l kind) s = .next
      (if !x.edgeSel.selects kind then s
      else if s.keepsEdge x then s.withCapture (s.capture.set l { x with fifo := x.fifo ++ [{ kind := kind, xt := s.now }] })
      else (s.withCapture (s.capture.set l (x.discard 1))).count fun c => c.overflow 1) := rfl
  refine ⟨fun hsel => ?_, fun hsel hkeep => ?_, fun hsel hkeep => ?_⟩
  · rw [hexec, if_pos (by simpa using mt hselected.1 hsel)]
  · rw [if_neg (by simpa using hselected.2 hsel), if_pos (hkept.2 hkeep)] at hexec
    exact ⟨_, hexec, Bank.get_set_self _ _ _, fun k hk => Bank.get_set_ne _ _ hk, s.withCapture_frame _⟩
  · rw [if_neg (by simpa using hselected.2 hsel), if_neg (mt hkept.1 hkeep)] at hexec
    refine ⟨_, hexec, ?_, fun k hk => Bank.get_set_ne _ _ hk, ?_, exec_differs hexec⟩
    · refine (Bank.get_set_self _ _ _).trans ?_
      rw [CaptureLine.discard, satAdd_eq_min]
    · rw [State.count_trail, overflow_eq]
      rfl

/-! ## CAPTURE_SET (R125) -/

theorem eq_keepByte_iff (b : Byte) : b = keepByte ↔ b.toNat = 255 :=
  ⟨fun h => by rw [h]; rfl, fun h => BitVec.eq_of_toNat_eq h⟩

section Fields
variable {α : Type} {f : Byte → Option α} {b : Byte}

theorem readField_keep (h : b.toNat = 255) : readField f b = .keep := if_pos ((eq_keepByte_iff b).2 h)

theorem readField_value {v : α} (h : b.toNat ≠ 255) (hv : f b = some v) : readField f b = .value v := by
  rw [readField, if_neg (mt (eq_keepByte_iff b).1 h), hv]

theorem readField_wrong (h : b.toNat ≠ 255) (hv : f b = none) : readField f b = .wrong := by
  rw [readField, if_neg (mt (eq_keepByte_iff b).1 h), hv]

end Fields

/-- The code that a CAPTURE_SET asks the line's edge selection to be read as. -/
theorem edgeField_spec {edge : Byte} {old sel : EdgeSel}
    (h : edge.toNat = 255 ∧ sel = old ∨ edge.toNat = 0 ∧ sel = .off ∨ edge.toNat = 1 ∧ sel = .rising ∨
      edge.toNat = 2 ∧ sel = .falling ∨ edge.toNat = 3 ∧ sel = .both) :
    readField edgeSelOf edge = .keep ∧ sel = old ∧ edge.toNat = 255 ∨
      readField edgeSelOf edge = .value sel ∧ edge.toNat ≠ 255 := by
  rcases h with ⟨hb, rfl⟩ | hcode
  · exact .inl ⟨readField_keep hb, rfl, hb⟩
  · have hne : edge.toNat ≠ 255 := by omega
    have hsel : edgeSelOf edge = some sel := by
      rcases hcode with ⟨hb, rfl⟩ | ⟨hb, rfl⟩ | ⟨hb, rfl⟩ | ⟨hb, rfl⟩ <;> simp [edgeSelOf, hb]
    exact .inr ⟨readField_value hne hsel, hne⟩

theorem edgeField_wrong {edge : Byte} (h : 3 < edge.toNat) (hne : edge.toNat ≠ 255) : readField edgeSelOf edge = .wrong := by
  refine readField_wrong hne ?_
  rw [edgeSelOf]
  split <;> first | omega | rfl

theorem portField_spec {b : Byte} {old q : Port} (h : b.toNat = 255 ∧ q = old ∨ b.toNat = q.val) :
    readField eightOf b = .keep ∧ q = old ∧ b.toNat = 255 ∨ readField eightOf b = .value q ∧ b.toNat ≠ 255 := by
  rcases h with ⟨hb, rfl⟩ | hb
  · exact .inl ⟨readField_keep hb, rfl, hb⟩
  · have hne : b.toNat ≠ 255 := by omega
    exact .inr ⟨readField_value hne (eightOf_val hb.symm), hne⟩

section CaptureSet
variable {p : Port} {tag : Tag} {line edge port : Byte} {s : State}

theorem exec_captureSet_refused {code : ResultCode} (hhead : s.headIs p tag (.captureSet line edge port) = true)
    (h : s.captureRefusal p (eightOf line) (readField edgeSelOf edge) (readField eightOf port) = some code) :
    exec (.captureSet p tag line edge port) s = .next (s.done p tag code false) := by
  refine congrArg Host.Outcome.next ((s.take_of_head p hhead).trans ?_)
  simp only [h]

theorem exec_captureSet_accepted {l : Line} (hhead : s.headIs p tag (.captureSet line edge port) = true) (hl : eightOf line = some l)
    (h : s.captureRefusal p (some l) (readField edgeSelOf edge) (readField eightOf port) = none) :
    exec (.captureSet p tag line edge port) s =
      .next ((s.applyCapture p l (readField edgeSelOf edge) (readField eightOf port)).done p tag .ok false) := by
  refine congrArg Host.Outcome.next ((s.take_of_head p hhead).trans ?_)
  simp only [hl, h]

theorem captureRefusal_index (h : eightOf line = none ∨ readField eightOf port = .wrong) :
    s.captureRefusal p (eightOf line) (readField edgeSelOf edge) (readField eightOf port) = some .badIndex := by
  unfold State.captureRefusal
  rcases h with h | h
  · rw [h]
  · cases eightOf line <;> simp only [h]

theorem captureRefusal_edge {l : Line} (hport : readField eightOf port ≠ .wrong) (h : readField edgeSelOf edge = .wrong) :
    s.captureRefusal p (some l) (readField edgeSelOf edge) (readField eightOf port) = some .malformed := by
  unfold State.captureRefusal
  cases hf : readField eightOf port with
  | wrong => exact absurd hf hport
  | keep => simp only [h]
  | value q => simp only [h]

theorem mayCapture_iff {l : Line} : s.mayCapture p l = true ↔ (s.port p).role.has .remap = true ∨
    (s.port p).role.has .ownCaptures = true ∧ (s.capture.get l).port = p := by
  simp [State.mayCapture]

/-- The rights that an otherwise sound CAPTURE_SET needs. -/
theorem captureRefusal_rights {l : Line} {f : FieldRead EdgeSel} {g : FieldRead Port} (hf : f ≠ .wrong) (hg : g ≠ .wrong) :
    s.captureRefusal p (some l) f g =
      if (g ≠ .keep → (s.port p).role.has .remap = true) ∧ (f ≠ .keep → s.mayCapture p l = true) then none else some .noRight := by
  have hrule : s.captureRefusal p (some l) f g = if g ≠ .keep ∧ (s.port p).role.has .remap = false then some .noRight
      else if f ≠ .keep ∧ s.mayCapture p l = false then some .noRight else none := by
    unfold State.captureRefusal
    cases f <;> cases g <;> first | rfl | contradiction
  rw [hrule]
  cases (s.port p).role.has .remap <;> cases s.mayCapture p l <;> by_cases hk : f = .keep <;> by_cases hk' : g = .keep <;>
    simp [hk, hk']

end CaptureSet

section Apply
variable (s : State) (p : Port) (l : Line)

theorem setEdges_same : s.setEdges p l (s.capture.get l).edgeSel = s := if_pos rfl

theorem setEdges_new {sel : EdgeSel} (h : sel ≠ (s.capture.get l).edgeSel) : s.setEdges p l sel =
    (s.withCapture (s.capture.set l { s.capture.get l with edgeSel := sel })).ask
      (.config (.item p (256 + l.val) (s.capture.get l).edgeSel.code sel.code false)) := if_neg (Ne.symm h)

theorem setMapping_same : s.setMapping p l (s.capture.get l).port = s := if_pos rfl

theorem setMapping_new {q : Port} (h : q ≠ (s.capture.get l).port) : s.setMapping p l q =
    (((s.withCapture (s.capture.set l { (s.capture.get l).empty with port := q })).count fun x =>
      x.overflow (s.capture.get l).fifo.length)).ask (.config (.item p (264 + l.val) (s.capture.get l).port.val q.val false)) := by
  rw [State.setMapping, State.remap, if_neg (Ne.symm h), if_neg (Ne.symm h), captureConfig]

theorem setEdges_capture (sel : EdgeSel) :
    (s.setEdges p l sel).capture = s.capture.set l { s.capture.get l with edgeSel := sel } := by
  by_cases h : sel = (s.capture.get l).edgeSel
  · subst h
    rw [setEdges_same]
    exact (Bank.set_get_self _ _).symm
  · rw [setEdges_new s p l h]
    rfl

theorem setMapping_capture (q : Port) : (s.setMapping p l q).capture = s.capture.set l
    (if q = (s.capture.get l).port then s.capture.get l else { (s.capture.get l).empty with port := q }) := by
  by_cases h : q = (s.capture.get l).port
  · subst h
    rw [setMapping_same, if_pos rfl]
    exact (Bank.set_get_self _ _).symm
  · rw [setMapping_new s p l h, if_neg h]
    rfl

theorem setEdges_line (sel : EdgeSel) : (s.setEdges p l sel).capture.get l = { s.capture.get l with edgeSel := sel } := by
  rw [setEdges_capture, Bank.get_set_self]

theorem setMapping_after_same (sel : EdgeSel) :
    (s.setEdges p l sel).setMapping p l (s.capture.get l).port = s.setEdges p l sel :=
  if_pos (by rw [setEdges_line])

/-- An entry written with the readings of the state before it, by a change that leaves the leap record. -/
theorem wrote_of_wrote {s t : State} {b : TrailBody} (h : TrailUnit.Wrote s.trail t.trail b s.writing) (hleap : t.leap = s.leap) :
    State.wrote b s t := by
  rw [State.wrote, State.writingTo, hleap]
  exact h

/-- A field that is kept is written with its old value, which changes nothing. -/
theorem applyCapture_eq {f : FieldRead EdgeSel} {g : FieldRead Port} {sel : EdgeSel} {q : Port}
    (hf : f = .keep ∧ sel = (s.capture.get l).edgeSel ∨ f = .value sel)
    (hg : g = .keep ∧ q = (s.capture.get l).port ∨ g = .value q) : s.applyCapture p l f g = (s.setEdges p l sel).setMapping p l q := by
  rcases hf with ⟨rfl, rfl⟩ | rfl <;> rcases hg with ⟨rfl, rfl⟩ | rfl
  · rw [setMapping_after_same, setEdges_same]
    rfl
  · rw [setEdges_same]
    rfl
  · rw [setMapping_after_same]
    rfl
  · rfl

/-- The line after both changes. -/
theorem applied_line (sel : EdgeSel) (q : Port) : ((s.setEdges p l sel).setMapping p l q).capture.get l =
    { edgeSel := sel
      port := q
      fifo := if q = (s.capture.get l).port then (s.capture.get l).fifo else []
      overflow := if q = (s.capture.get l).port then (s.capture.get l).overflow
        else min ((s.capture.get l).overflow + (s.capture.get l).fifo.length) 255 } := by
  rw [setMapping_capture, setEdges_capture, Bank.get_set_self, Bank.get_set_self, emptied_eq]
  by_cases h : q = (s.capture.get l).port
  · simp only [h, if_true]
  · simp only [if_neg h]

theorem applied_other {sel : EdgeSel} {q : Port} {k : Line} (h : k ≠ l) :
    ((s.setEdges p l sel).setMapping p l q).capture.get k = s.capture.get k := by
  rw [setMapping_capture, setEdges_capture, Bank.get_set_ne _ _ h, Bank.get_set_ne _ _ h]

/-- The entry of a new mapped port, after the lost edges have been counted. -/
theorem setMapping_wrote {q : Port} (h : q ≠ (s.capture.get l).port) :
    TrailUnit.Wrote
      { s.trail with counters := { s.trail.counters with
        overflows := min (s.trail.counters.overflows + (s.capture.get l).fifo.length) 4294967295 } }
      (s.setMapping p l q).trail (.config (.item p (264 + l.val) (s.capture.get l).port.val q.val false)) s.writing := by
  rw [setMapping_new s p l h, ← overflow_eq]
  exact TrailUnit.request_wrote _ _ _ rfl

theorem setEdges_wrote {sel : EdgeSel} (h : sel ≠ (s.capture.get l).edgeSel) : TrailUnit.Wrote s.trail (s.setEdges p l sel).trail
    (.config (.item p (256 + l.val) (s.capture.get l).edgeSel.code sel.code false)) s.writing := by
  rw [setEdges_new s p l h]
  exact TrailUnit.request_wrote _ _ _ rfl

theorem setEdges_writing (sel : EdgeSel) : (s.setEdges p l sel).writing = s.writing := by
  by_cases h : sel = (s.capture.get l).edgeSel
  · rw [h, setEdges_same]
  · rw [setEdges_new s p l h]
    rfl

end Apply

theorem captureSetChangesTheLine : CaptureSetChangesTheLine := by
  intro p tag line edge port s hhead c remap
  refine ⟨fun hindex => replies_done (exec_captureSet_refused hhead (captureRefusal_index ?_)), fun hline hport hedge hkeep => ?_, ?_⟩
  · exact hindex.imp eightOf_above fun h => readField_wrong h.2 (eightOf_above h.1)
  · obtain ⟨l, hl, -⟩ := eightOf_of_le hline
    refine replies_done (exec_captureSet_refused hhead ?_)
    rw [hl]
    refine captureRefusal_edge (fun hwrong => ?_) (edgeField_wrong hedge hkeep)
    rcases hport with h | h
    · obtain ⟨q, hq, -⟩ := eightOf_of_le h
      rw [readField_value (by omega) hq] at hwrong
      cases hwrong
    · rw [readField_keep h] at hwrong
      cases hwrong
  · intro l sel q hl hsel hq x allowed
    have hedge := edgeField_spec (old := x.edgeSel) hsel
    have hport := portField_spec (old := x.port) hq
    generalize hf : readField edgeSelOf edge = f at hedge
    generalize hg : readField eightOf port = g at hport
    have hallowed : (g ≠ .keep → (s.port p).role.has .remap = true) ∧ (f ≠ .keep → s.mayCapture p l = true) ↔ allowed := by
      refine and_congr (imp_congr_left ?_) (imp_congr ?_ mayCapture_iff)
      · rcases hport with ⟨rfl, -, h⟩ | ⟨rfl, h⟩ <;> simp [h]
      · rcases hedge with ⟨rfl, -, h⟩ | ⟨rfl, h⟩ <;> simp [h]
    have hrights := captureRefusal_rights (s := s) (p := p) (l := l) (f := f) (g := g)
      (by rcases hedge with ⟨rfl, -⟩ | ⟨rfl, -⟩ <;> simp) (by rcases hport with ⟨rfl, -⟩ | ⟨rfl, -⟩ <;> simp)
    refine ⟨fun hno => ?_, fun hyes => ?_⟩
    · rw [if_neg (mt hallowed.1 hno), ← hf, ← hg, ← eightOf_val hl] at hrights
      exact replies_done (exec_captureSet_refused hhead hrights)
    · rw [if_pos (hallowed.2 hyes), ← hf, ← hg] at hrights
      have hexec := exec_captureSet_accepted hhead (eightOf_val hl) hrights
      rw [hf, hg, applyCapture_eq s p l (hedge.imp (fun h => ⟨h.1, h.2.1⟩) And.left) (hport.imp (fun h => ⟨h.1, h.2.1⟩) And.left)]
        at hexec
      have hframe := ((s.setEdges_frame p l sel).trans (State.setMapping_frame _ p l q))
      refine .of_done hexec (hframe .ports (by decide)) hframe ⟨applied_line s p l sel q, fun k hk => applied_other s p l hk, ?_, ?_, ?_, ?_⟩
      · rintro rfl rfl
        rw [State.done_trail, setEdges_same, setMapping_same]
      · rintro hne rfl
        rw [setMapping_after_same] at hframe ⊢
        exact wrote_of_wrote (setEdges_wrote s p l hne) (hframe .leap (by decide))
      · intro hne hne'
        have h := setMapping_wrote (s.setEdges p l sel) p l (q := q) (by rwa [setEdges_line])
        rw [setEdges_line, setEdges_writing] at h
        exact ⟨_, setEdges_wrote s p l hne, h⟩
      · rintro rfl hne
        rw [State.done_trail, setEdges_same]
        exact setMapping_wrote s p l hne

/-- Settles O30: edges by their selection and the line's room, and CAPTURE_SET by its checks and its two fields. -/
theorem captureLinesKeepEdgesAndAreSet : Obligations.CaptureLinesKeepEdgesAndAreSet :=
  ⟨captureEdgeIsKeptOrCounted, captureSetChangesTheLine⟩

end Sys2Proof
end


section
/-! PROOFS. The event output lines (R127 to R130). -/

-- One proof after another: proofs elaborated side by side each hold a thread, more of them than the check has memory for.
set_option Elab.async false

namespace Sys2Proof

open Machine

theorem exec_atInstantFire {l : Line} {a : LevelAt} {s : State} (harmed : (s.outputs.get l).armed = some a) (hx : a.xt ≤ s.now) :
    exec (.atInstantFire l) s =
      .next (s.withOutputs (s.outputs.set l { s.outputs.get l with high := a.high, armed := none })) := by
  refine congrArg Host.Outcome.next ?_
  simp only [harmed, if_pos hx]

theorem outputInstantsAreTaken : OutputInstantsAreTaken := by
  refine ⟨fun l x s hend hx => ?_, fun l a s harmed hx => ?_⟩
  · have hreached : reached (s.outputs.get l).pulseEnd s.now = true := by rw [hend]; exact decide_eq_true hx
    exact ⟨_, congrArg Host.Outcome.next (if_pos hreached), Bank.get_set_self _ _ _, fun k hk => Bank.get_set_ne _ _ hk,
      s.withOutputs_frame _⟩
  · exact ⟨_, exec_atInstantFire harmed hx, Bank.get_set_self _ _ _, fun k hk => Bank.get_set_ne _ _ hk, s.withOutputs_frame _⟩

/-! ## OUTPUT_SET -/

theorem ne_halted_iff (x : CloseOutcome) : x ≠ .halted ↔ x = .drawn ∨ x = .released := by
  cases x <;> simp

theorem raises_iff (g : Segment) (l : Line) : g.raises l = true ↔ ∃ (r : CloseRecord) (d : Definition), g.state = .closed ∧
    g.closeRec = some r ∧ (r.outcome = .drawn ∨ r.outcome = .released) ∧ g.defn = some d ∧ d.outputs.getLsbD l.val = true := by
  unfold Segment.raises
  cases hrec : g.closeRec <;> cases hdefn : g.defn <;> simp [and_assoc, ne_halted_iff]

theorem closeLevel_iff (s : State) (l : Line) : closeLevel s.segs l = true ↔ someSegmentRaises s l :=
  bank_any_iff.trans (exists_congr fun i => raises_iff (s.segs.get i) l)

theorem sameAs_iff (o new : OutputLine) : o.sameAs new = true ↔
    new.mode = o.mode ∧ new.width = o.width ∧ new.heldInstant = o.heldInstant := by
  rw [OutputLine.sameAs, Bool.and_eq_true, Bool.and_eq_true, decide_eq_true_iff, decide_eq_true_iff, decide_eq_true_iff, and_assoc,
    eq_comm, eq_comm (a := o.width), eq_comm (a := o.heldInstant)]

section Served
variable {c : Instr} {s : State} {p : Port} {tag : Tag} {f : OutputFields} {l : Line} {new : OutputLine}

/-- An OUTPUT_SET that puts its line in the state `new` is served as R127 says. -/
theorem outputServed (hexec : exec c s = .next (s.setOutput p tag l new (widthClamped f.width)))
    (hwidth : new.width = outputWidth f.width) : OutputServed c s p tag f l new := by
  unfold OutputServed
  intro old w equal
  have hequal : old.sameAs new = true ↔ equal := by
    rw [sameAs_iff, hwidth]
    rfl
  by_cases h : equal
  · have hset : s.setOutput p tag l new (widthClamped f.width) =
        (s.withOutputs (s.outputs.set l new)).done p tag .ok (widthClamped f.width) :=
      congrArg (fun u : State => u.done p tag .ok (widthClamped f.width)) (if_pos (hequal.2 h))
    rw [hset] at hexec
    exact .of_done hexec rfl ((s.withOutputs_frame _).mono (by decide)) ⟨Bank.get_set_self _ _ _, fun k hk => Bank.get_set_ne _ _ hk,
      fun _ => rfl, fun hne => absurd h hne⟩
  · have hset : s.setOutput p tag l new (widthClamped f.width) =
        ((s.withOutputs (s.outputs.set l new)).ask (outputConfig p l old new (widthClamped f.width))).done p tag .ok
          (widthClamped f.width) :=
      congrArg (fun u : State => u.done p tag .ok (widthClamped f.width)) (if_neg (mt hequal.1 h))
    rw [hset, outputConfig, hwidth] at hexec
    exact .of_done hexec rfl (.next (s.withOutputs_frame _) (State.ask_frame _ _) (by decide) (by decide))
      ⟨Bank.get_set_self _ _ _, fun k hk => Bank.get_set_ne _ _ hk, fun heq => absurd heq h, fun _ =>
        wrote_of_wrote (TrailUnit.request_wrote _ _ _ rfl) rfl⟩

theorem serveOutput_line {m : OutputMode} {make : State → Line → OutputLine → OutputLine}
    (hserve : s.canServe .schedule p tag (.outputSet m f)) (hl : l.val = f.line.toNat) :
    s.serveOutput p tag m f make = s.setOutput p tag l (make s l (s.outputs.get l)) (widthClamped f.width) := by
  rw [State.serveOutput, s.takeWith_of_canServe p hserve]
  simp only [eightOf_val hl]

theorem serveOutput_above {m : OutputMode} {make : State → Line → OutputLine → OutputLine}
    (hserve : s.canServe .schedule p tag (.outputSet m f)) (hl : 7 < f.line.toNat) :
    s.serveOutput p tag m f make = s.done p tag .badIndex false := by
  rw [State.serveOutput, s.takeWith_of_canServe p hserve]
  simp only [eightOf_above hl]

theorem exec_outputSetAtInstant {level : Bool} (hserve : s.canServe .schedule p tag (.outputSet .atInstant f))
    (hl : l.val = f.line.toNat) (hlevel : levelOf f.level = some level) : exec (.outputSetAtInstant p tag f) s = .next
      (s.setOutput p tag l ((s.outputs.get l).arm { high := level, xt := (f.instant.toNat : Int) } (outputWidth f.width) s.now)
        (widthClamped f.width)) := by
  refine congrArg Host.Outcome.next (Eq.trans ?_ (serveOutput_line
    (make := fun s _ o => o.arm { high := level, xt := (f.instant.toNat : Int) } (outputWidth f.width) s.now) hserve hl))
  simp only [hlevel, eightOf_val hl, Option.getD_some]

theorem exec_outputSet_above {m : OutputMode} (hasked : Instr.asked c = some (p, tag, .outputSet m f))
    (hserve : s.canServe .schedule p tag (.outputSet m f)) (hline : 7 < f.line.toNat) :
    exec c s = .next (s.done p tag .badIndex false) := by
  cases c <;> cases hasked
  case outputSetAtInstant =>
    refine congrArg Host.Outcome.next (Eq.trans ?_ (serveOutput_above
      (make := fun s _ o => o.arm { high := (levelOf f.level).getD false, xt := (f.instant.toNat : Int) } (outputWidth f.width) s.now)
      hserve hline))
    simp only [eightOf_above hline]
  all_goals exact congrArg Host.Outcome.next (serveOutput_above hserve hline)

end Served

theorem levelOf_of_le {b : Byte} (h : b.toNat ≤ 1) : levelOf b = some (decide (b.toNat = 1)) := by
  unfold levelOf
  interval_cases b.toNat <;> rfl

theorem levelOf_above {b : Byte} (h : 1 < b.toNat) : levelOf b = none := by
  unfold levelOf
  split <;> first | omega | rfl

theorem outputSetPutsTheLineInItsMode : OutputSetPutsTheLineInItsMode := by
  intro p tag f s w asks
  refine ⟨fun c m ⟨hasked, hserve⟩ hline => ?_, fun ⟨_, hserve⟩ hline hlevel => ?_, fun l hl => ?_⟩
  · exact replies_done (exec_outputSet_above hasked hserve hline)
  · obtain ⟨l, hl, -⟩ := eightOf_of_le hline
    refine replies_done (congrArg Host.Outcome.next (Eq.trans ?_ (s.takeWith_of_canServe (serve := fun s => s.done p tag .malformed false) p hserve)))
    simp only [hl, levelOf_above hlevel]
  · refine ⟨fun ⟨_, hserve⟩ => ?_, fun ⟨_, hserve⟩ hmode => ?_, fun ⟨_, hserve⟩ hmode => ?_, fun ⟨_, hserve⟩ => ?_,
      fun ⟨_, hserve⟩ hlevel => ?_⟩
    · exact outputServed (congrArg Host.Outcome.next (serveOutput_line hserve hl)) rfl
    · refine outputServed ((congrArg Host.Outcome.next (serveOutput_line hserve hl)).trans ?_) rfl
      rw [OutputLine.pulsing, if_pos hmode]
      rfl
    · refine outputServed ((congrArg Host.Outcome.next (serveOutput_line hserve hl)).trans ?_) rfl
      rw [OutputLine.pulsing, if_neg hmode]
      rfl
    · exact ⟨_, closeLevel_iff s l, outputServed (congrArg Host.Outcome.next (serveOutput_line hserve hl)) rfl⟩
    · exact outputServed (exec_outputSetAtInstant hserve hl (levelOf_of_le hlevel)) rfl

/-- Settles O31: OUTPUT_SET mode by mode through `outputServed`, and the two instants of a line. -/
theorem outputLinesTakeTheirModesAndInstants : Obligations.OutputLinesTakeTheirModesAndInstants :=
  ⟨outputSetPutsTheLineInItsMode, outputInstantsAreTaken⟩

end Sys2Proof
end


section
/-! PROOFS. The due instants of the segments (R95) and EXTEND, RELEASE and HALT at their taking (R106, R108, R109). -/

-- One proof after another: proofs elaborated side by side each hold a thread, more of them than the check has memory for.
set_option Elab.async false

namespace Sys2Proof

open Machine

/-! ## Events committed (R94) -/

theorem committed1_withSeg (s : State) (i : SegId) (g : Segment) (kind : SegEventKind) (after : Option SegState) (c : Committed) :
    Committed1 s ((s.withSeg i g).commit { seg := i, kind := kind, after := after } c) i { g with committed := c } kind after := by
  obtain ⟨hcommits, hsame, hother⟩ := (s.withSeg i g).commit_spec { seg := i, kind := kind, after := after } c
  refine ⟨?_, fun j hj => ?_, hcommits⟩
  · rw [hsame, s.withSeg_get_same]
  · rw [hother j hj, s.withSeg_get_ne g hj]

theorem committed1 (s : State) (i : SegId) (kind : SegEventKind) (after : Option SegState) (c : Committed) :
    Committed1 s (s.commit { seg := i, kind := kind, after := after } c) i { s.segs.get i with committed := c } kind after :=
  have ⟨hcommits, hsame, hother⟩ := s.commit_spec { seg := i, kind := kind, after := after } c
  ⟨hsame, hother, hcommits⟩

/-! ## The due instants (R95) -/

section Taken
variable {g : Segment} {a : ArmedInstants}

theorem takeOpen_eq (ha : g.armed = some a) :
    g.takeOpen = { g with armed := some { a with openAt := { a.openAt with taken := true } } } := by
  rw [Segment.takeOpen, ha]
  rfl

theorem takeCall_eq (ha : g.armed = some a) :
    g.takeCall = { g with armed := some { a with callAt := { a.callAt with taken := true } } } := by
  rw [Segment.takeCall, ha]
  rfl

theorem takeClose_eq (ha : g.armed = some a) :
    g.takeClose = { g with armed := some { a with closeAt := { a.closeAt with taken := true } } } := by
  rw [Segment.takeClose, ha]
  rfl

end Taken

theorem openInstant_taken {i : SegId} {s : State} {a : ArmedInstants} (htakes : takesInstants s i)
    (ha : (s.segs.get i).armed = some a) (h : openReached s i) :
    ∃ t : State, exec (.openInstantDue i) s = .next t ∧ State.differsIn [.segs, .commits] s t ∧
      Committed1 s t i { s.segs.get i with
        committed := .settled .opened
        armed := some { a with openAt := { a.openAt with taken := true } } } .opening (some .opened) := by
  have hexec : exec (.openInstantDue i) s = _ := congrArg Host.Outcome.next (if_pos (openDue_iff.2 ⟨htakes, h⟩))
  rw [takeOpen_eq ha] at hexec
  exact ⟨_, hexec, exec_differs hexec, committed1_withSeg s i _ .opening (some .opened) (.settled .opened)⟩

theorem callInstant_taken {i : SegId} {s : State} {a : ArmedInstants} (htakes : takesInstants s i)
    (ha : (s.segs.get i).armed = some a) (h : callReached s i) :
    ∃ t : State, exec (.callInstantDue i) s = .next t ∧ State.differsIn [.segs, .commits] s t ∧
      Committed1 s t i { s.segs.get i with
        committed := .settled .call
        armed := some { a with callAt := { a.callAt with taken := true } } } .call (some .call) := by
  have hexec : exec (.callInstantDue i) s = _ := congrArg Host.Outcome.next (if_pos (callDue_iff.2 ⟨htakes, h⟩))
  rw [takeCall_eq ha] at hexec
  exact ⟨_, hexec, exec_differs hexec, committed1_withSeg s i _ .call (some .call) (.settled .call)⟩

theorem closeInstant_taken {i : SegId} {s : State} {a : ArmedInstants} (htakes : takesInstants s i)
    (ha : (s.segs.get i).armed = some a) (h : closeReached s i) :
    ∃ t : State, exec (.armedCloseDue i) s = .next t ∧ State.differsIn [.segs, .commits] s t ∧
      Committed1 s t i { s.segs.get i with
        committed := .settled .random
        armed := some { a with closeAt := { a.closeAt with taken := true } } } .draw (some .random) := by
  have hexec : exec (.armedCloseDue i) s = _ := congrArg Host.Outcome.next (if_pos (closeDue_iff.2 ⟨htakes, h⟩))
  rw [takeClose_eq ha] at hexec
  exact ⟨_, hexec, exec_differs hexec, committed1_withSeg s i _ .draw (some .random) (.settled .random)⟩

/-- Settles O32: the instant that the committed state waits for, one by one. -/
theorem dueInstantsAreTakenAndCommitted : Obligations.DueInstantsAreTakenAndCommitted := by
  intro i s hopen hnone g
  have htakes : takesInstants s i := ⟨hopen, hnone⟩
  refine ⟨fun a ha => ⟨fun hc hx ht => openInstant_taken htakes ha ⟨hc, a, ha, hx, ht⟩,
    fun hc hx ht => callInstant_taken htakes ha ⟨hc, a, ha, hx, ht⟩,
    fun hc hx ht => closeInstant_taken htakes ha ⟨hc, a, ha, hx, ht⟩⟩, fun d hd hc hx => ?_⟩
  exact ⟨_, congrArg Host.Outcome.next (if_pos (drawnDue_iff.2 ⟨htakes, hc, d, hd, hx⟩)), s.commit_frame _ _,
    committed1 s i .ending none .ending⟩

/-! ## EXTEND, RELEASE and HALT (R106, R108, R109) -/

theorem commitsFull_iff (s : State) : s.commitsFull = true ↔ 64 ≤ s.commits.length := decide_eq_true_iff

section Refusals
variable {s : State} {i : SegId}

theorem extendRefusal_outside (h : (s.segs.get i).committed = .settled .idle ∨ (s.segs.get i).committed = .settled .armed ∨
    (s.segs.get i).committed = .settled .opened) : s.extendRefusal i = some .badState := by
  unfold State.extendRefusal
  rcases h with h | h | h <;> simp only [h]

theorem extendRefusal_over (h : (s.segs.get i).committed = .settled .closed ∨ (s.segs.get i).committed = .ending) :
    s.extendRefusal i = some .tooLate := by
  unfold State.extendRefusal
  rcases h with h | h <;> simp only [h]

theorem extendRefusal_inCall (h : (s.segs.get i).committed = .settled .call ∨ (s.segs.get i).committed = .settled .random ∨
    (s.segs.get i).committed = .settled .suspended) : s.extendRefusal i =
      if (s.profileOf (s.segs.get i)).maxExt ≤ (s.segs.get i).extensions + s.extendsWaiting i ∨ 64 ≤ s.commits.length then some .limit
      else none := by
  unfold State.extendRefusal
  rcases h with h | h | h <;> simp only [h, commitsFull_iff] <;> split_ifs <;> first | rfl | tauto

theorem releaseRefusal_eq : s.releaseRefusal i = if (s.segs.get i).committed ≠ .settled .suspended then some .badState
    else if s.commitsFull = true then some .limit else none := rfl

theorem haltRefusal_outside (h : (s.segs.get i).committed = .settled .idle ∨ (s.segs.get i).committed = .settled .armed ∨
    (s.segs.get i).committed = .settled .closed) : s.haltRefusal i = some .badState := by
  unfold State.haltRefusal
  rcases h with h | h | h <;> simp only [h]

theorem haltRefusal_ending (h : (s.segs.get i).committed = .ending) : s.haltRefusal i = some .tooLate := by
  unfold State.haltRefusal
  simp only [h]

theorem haltRefusal_running (h : (s.segs.get i).committed = .settled .opened ∨ (s.segs.get i).committed = .settled .call ∨
    (s.segs.get i).committed = .settled .random ∨ (s.segs.get i).committed = .settled .suspended) :
    s.haltRefusal i = if s.commitsFull = true then some .limit else none := by
  unfold State.haltRefusal
  rcases h with h | h | h | h <;> simp only [h]

end Refusals

section Cycle
variable {c : Instr} {p : Port} {tag : Tag} {seg : Byte} {s : State} {i : SegId}

/-- A request of a segment's cycle, by what its checks answer. -/
theorem exec_extend (hserve : s.canServe .schedule p tag (.extend seg)) (hi : i.val = seg.toNat) :
    (∀ code, s.extendRefusal i = some code → exec (.extend p tag seg) s = .next (s.done p tag code false)) ∧
    (s.extendRefusal i = none → exec (.extend p tag seg) s = .next
      ((s.commit { seg := i, kind := .extend p, after := some .call } (.settled .call)).done p tag .ok false)) := by
  have hexec : exec (.extend p tag seg) s = execExtend p tag seg s := rfl
  rw [execExtend, s.takeWith_of_canServe p hserve] at hexec
  simp only [segOf_val hi] at hexec
  exact ⟨fun code h => by rw [hexec, h], fun h => by rw [hexec, h]⟩

theorem exec_release (hserve : s.canServe .schedule p tag (.release seg)) (hi : i.val = seg.toNat) :
    (∀ code, s.releaseRefusal i = some code → exec (.release p tag seg) s = .next (s.done p tag code false)) ∧
    (s.releaseRefusal i = none → exec (.release p tag seg) s = .next
      ((s.commit { seg := i, kind := .release p, after := some .closed } (.settled .closed)).done p tag .ok false)) := by
  have hexec : exec (.release p tag seg) s = execRelease p tag seg s := rfl
  rw [execRelease, s.takeWith_of_canServe p hserve] at hexec
  simp only [segOf_val hi] at hexec
  exact ⟨fun code h => by rw [hexec, h], fun h => by rw [hexec, h]⟩

theorem exec_halt (hserve : s.canServe .schedule p tag (.halt seg)) (hi : i.val = seg.toNat) :
    (∀ code, s.haltRefusal i = some code → exec (.halt p tag seg) s = .next (s.done p tag code false)) ∧
    (s.haltRefusal i = none → exec (.halt p tag seg) s = .next
      ((s.commit { seg := i, kind := .halt p, after := some .closed } (.settled .closed)).done p tag .ok false)) := by
  have hexec : exec (.halt p tag seg) s = execHalt p tag seg s := rfl
  rw [execHalt, s.takeWith_of_canServe p hserve] at hexec
  simp only [segOf_val hi] at hexec
  exact ⟨fun code h => by rw [hexec, h], fun h => by rw [hexec, h]⟩

theorem exec_cycleRequest_above {body : ReqBody} (hbody : body = .extend seg ∨ body = .release seg ∨ body = .halt seg)
    (hasked : Instr.asked c = some (p, tag, body)) (hserve : s.canServe .schedule p tag body) (h : 63 < seg.toNat) :
    exec c s = .next (s.done p tag .badIndex false) := by
  rcases hbody with rfl | rfl | rfl <;> cases c <;> cases hasked <;>
    (refine congrArg Host.Outcome.next ((s.takeWith_of_canServe p hserve).trans ?_); simp only [segOf_above h])

/-- An accepted request of the cycle commits its event and is answered OK. -/
theorem replies_commit {kind : SegEventKind} {st : SegState}
    (hexec : exec c s = .next ((s.commit { seg := i, kind := kind, after := some st } (.settled st)).done p tag .ok false)) :
    Replies c s p (.done tag .ok false) [.segs, .commits] fun t =>
      Committed1 s t i { s.segs.get i with committed := .settled st } kind (some st) :=
  .of_done hexec rfl (s.commit_frame _ _) (committed1 s i kind (some st) (.settled st))

end Cycle

/-- Settles O33: each request by the checks on the committed state. -/
theorem cycleRequestsAreJudgedOnTheCommittedState : Obligations.CycleRequestsAreJudgedOnTheCommittedState := by
  intro p tag seg s c _ asks refused accepted
  refine ⟨?_, ?_⟩
  · rintro (⟨ha, hs⟩ | ⟨ha, hs⟩ | ⟨ha, hs⟩) habove <;> exact replies_done (exec_cycleRequest_above (by simp) ha hs habove)
  intro i hi g full used inCall spent
  refine ⟨?_, ?_, ?_⟩
  · rintro ⟨hasked, hserve⟩
    obtain rfl : c = .extend p tag seg := by cases c <;> cases hasked; rfl
    obtain ⟨hno, hyes⟩ := exec_extend hserve hi
    refine ⟨fun h => replies_done (hno _ (extendRefusal_outside h)), fun h => replies_done (hno _ (extendRefusal_over h)),
      fun h hlimit => replies_done (hno _ ((extendRefusal_inCall h).trans (if_pos hlimit))),
      fun h hroom hfree => replies_commit (hyes ((extendRefusal_inCall h).trans (if_neg (not_or.2 ⟨hroom, hfree⟩))))⟩
  · rintro ⟨hasked, hserve⟩
    obtain rfl : c = .release p tag seg := by cases c <;> cases hasked; rfl
    obtain ⟨hno, hyes⟩ := exec_release hserve hi
    refine ⟨fun h => replies_done (hno _ (if_pos h)), fun h hlimit => replies_done (hno _ ?_), fun h hfree => replies_commit (hyes ?_)⟩
    · rw [releaseRefusal_eq, if_neg (not_not.2 h), if_pos ((commitsFull_iff s).2 hlimit)]
    · rw [releaseRefusal_eq, if_neg (not_not.2 h), if_neg (mt (commitsFull_iff s).1 hfree)]
  · rintro ⟨hasked, hserve⟩
    obtain rfl : c = .halt p tag seg := by cases c <;> cases hasked; rfl
    obtain ⟨hno, hyes⟩ := exec_halt hserve hi
    refine ⟨fun h => replies_done (hno _ (haltRefusal_outside h)), fun h => replies_done (hno _ (haltRefusal_ending h)),
      fun h hlimit => replies_done (hno _ ?_), fun h hfree => replies_commit (hyes ?_)⟩
    · rw [haltRefusal_running h, if_pos ((commitsFull_iff s).2 hlimit)]
    · rw [haltRefusal_running h, if_neg (mt (commitsFull_iff s).1 hfree)]

end Sys2Proof
end


section
/-! PROOFS. SEGMENT_WRITE and SEGMENT_SWAP: the times of a definition (R65), the checks (R111, R113) and the effects (R111 to R114). -/

-- One proof after another: proofs elaborated side by side each hold a thread, more of them than the check has memory for.
set_option Elab.async false

namespace Sys2Proof

open Machine

/-! ## Times of a UTC day (R65) -/

theorem timesOfDayConvertToXt : TimesOfDayConvertToXt := by
  intro u day tod utc after
  have hafter (q : PendingLeap) : after q ↔ ¬ utc < dEnd q.leap.day * (secondNs : Int) := not_lt.symm
  have hconvert : u.convert day tod = if 0 ≤ utc + u.offset * 1000000000 + u.correction utc ∧
      utc + u.offset * 1000000000 + u.correction utc < 9223372036854775808 then
        some (utc + u.offset * 1000000000 + u.correction utc) else none := rfl
  refine ⟨utc + u.offset * 1000000000 + u.correction utc, fun hnone => ?_, fun q hq => ⟨fun h => ?_, fun h hkind => ?_,
    fun h hkind => ?_⟩, fun h0 h1 => hconvert.trans (if_pos ⟨h0, h1⟩), fun h => hconvert.trans (if_neg ?_)⟩
  · simp only [LeapUnit.correction, hnone, Int.add_zero]
  · simp only [LeapUnit.correction, hq, if_pos (not_not.1 (mt (hafter q).2 h)), Int.add_zero]
  · simp only [LeapUnit.correction, hq, if_neg ((hafter q).1 h), hkind]
    rfl
  · simp only [LeapUnit.correction, hq, if_neg ((hafter q).1 h), hkind]
    rfl
  · intro hboth
    rcases h with h | h
    · exact absurd hboth.1 (not_le.2 h)
    · exact absurd hboth.2 (not_lt.2 h)

/-! ## What the checks of a write look at -/

/-- A RELEASE or HALT of segment `i` waits on the commit list. -/
def endCommitted (s : State) (i : SegId) : Prop := ∃ e ∈ s.commits, e.seg = i ∧ ((∃ q, e.kind = .release q) ∨ ∃ q, e.kind = .halt q)

/-- Segment `i` takes no write: its call, its end, or a waiting RELEASE or HALT (R111). -/
def closedToWrites (s : State) (i : SegId) : Prop :=
  (s.segs.get i).committed = .settled .call ∨ (s.segs.get i).committed = .settled .random ∨ (s.segs.get i).committed = .ending ∨
    (s.segs.get i).committed = .settled .suspended ∨ (s.segs.get i).committed = .settled .closed ∧ endCommitted s i

theorem endWaits_iff (s : State) (i : SegId) : s.endWaits i = true ↔ endCommitted s i := by
  unfold State.endWaits endCommitted
  rw [List.any_eq_true]
  refine exists_congr fun e => and_congr_right fun _ => ?_
  rw [Bool.and_eq_true, beq_iff_eq]
  refine and_congr_right fun _ => ?_
  cases e.kind <;> simp

theorem closedToWrites_iff (s : State) (i : SegId) :
    ((s.segs.get i).committed.inCall || (decide ((s.segs.get i).committed = .settled .closed) && s.endWaits i)) = true ↔
      closedToWrites s i := by
  rw [Bool.or_eq_true, Bool.and_eq_true, decide_eq_true_iff, committed_inCall_iff, endWaits_iff, closedToWrites]
  tauto

section Fields
variable {d old : Definition}

theorem isEmpty_iff : Definition.isEmpty d = true ↔ d.openTime = 0 ∧ d.callTime = 0 ∧ d.closeTime = 0 := by
  have hzero (x : BitVec 64) : x.toNat = 0 ↔ x = 0 := ⟨fun h => BitVec.eq_of_toNat_eq h, fun h => by rw [h]; rfl⟩
  rw [Machine.Definition.isEmpty, Bool.and_eq_true, Bool.and_eq_true, decide_eq_true_iff, decide_eq_true_iff, decide_eq_true_iff, hzero, hzero,
    hzero, and_assoc]

theorem inRange_iff : Definition.inRange d = true ↔ d.closeTime.toNat < 86400000000000 ∧ d.openTime.toNat < d.callTime.toNat ∧
    d.callTime.toNat < d.closeTime.toNat ∧ d.repeats.toNat ≤ 127 := by
  rw [Machine.Definition.inRange, Bool.and_eq_true, Bool.and_eq_true, Bool.and_eq_true, decide_eq_true_iff, decide_eq_true_iff,
    decide_eq_true_iff, decide_eq_true_iff, and_assoc, and_assoc]
  rfl

/-- The times of a definition in range increase, so they are not all 0. -/
theorem isEmpty_of_inRange (h : Definition.inRange d = true) : Definition.isEmpty d = false := by
  obtain ⟨-, hopen, -⟩ := inRange_iff.1 h
  rw [Machine.Definition.isEmpty, decide_eq_false (p := d.callTime.toNat = 0) (by omega), Bool.and_false, Bool.false_and]

theorem revises_iff : Definition.revises d old = true ↔ d.firstDay = old.firstDay ∧ d.openTime = old.openTime ∧ d.hold = old.hold ∧
    d.subscribers = old.subscribers ∧ d.outputs = old.outputs ∧ d.repeats = old.repeats := by
  simp only [Definition.revises, Bool.and_eq_true, decide_eq_true_iff, and_assoc]

theorem revises_of_eq (h : d = { old with callTime := d.callTime, closeTime := d.closeTime }) : Definition.revises d old = true := by
  rw [h]
  exact revises_iff.2 ⟨rfl, rfl, rfl, rfl, rfl, rfl⟩

theorem revised_of_eq (h : d = { old with callTime := d.callTime, closeTime := d.closeTime }) : Definition.revised old d = d := h.symm

end Fields

/-! ## The judgement of a write (R111 to R113) -/

section Judge
variable {s : State} {i : SegId} {k : ProfileId} {d : Definition}

theorem judgeWrite_closed (h : closedToWrites s i) : s.judgeWrite i k d = .refused .badState :=
  if_pos ((closedToWrites_iff s i).2 h)

theorem judgeWrite_empty (h : ¬ closedToWrites s i) (hempty : Definition.isEmpty d = true) : s.judgeWrite i k d = s.judgeEmpty (s.segs.get i) := by
  unfold State.judgeWrite
  dsimp only
  rw [if_neg (mt (closedToWrites_iff s i).1 h), if_pos hempty]

theorem judgeWrite_outOfRange (h : ¬ closedToWrites s i) (hempty : Definition.isEmpty d = false) (hrange : Definition.inRange d = false) :
    s.judgeWrite i k d = .refused .limit := by
  unfold State.judgeWrite
  dsimp only
  rw [if_neg (mt (closedToWrites_iff s i).1 h), if_neg (by simp [hempty]), if_pos (by simp [hrange])]

theorem judgeWrite_inRange (h : ¬ closedToWrites s i) (hrange : Definition.inRange d = true) : s.judgeWrite i k d =
    if (s.segs.get i).committed = .settled .opened then s.judgeRevise (s.segs.get i) k d else s.judgeArm k d := by
  unfold State.judgeWrite
  dsimp only
  rw [if_neg (mt (closedToWrites_iff s i).1 h), if_neg (by simp [isEmpty_of_inRange hrange]), if_neg (by simp [hrange])]

theorem judgeEmpty_armed (h : (s.segs.get i).committed = .settled .armed) : s.judgeEmpty (s.segs.get i) =
    if s.commitsFull = true then .refused .limit else .disarm := by
  unfold State.judgeEmpty
  simp only [h]

theorem judgeEmpty_opened (h : (s.segs.get i).committed = .settled .opened) : s.judgeEmpty (s.segs.get i) = .refused .badState := by
  unfold State.judgeEmpty
  simp only [h]

theorem judgeEmpty_resting (h : (s.segs.get i).committed = .settled .idle ∨ (s.segs.get i).committed = .settled .closed) :
    s.judgeEmpty (s.segs.get i) = .remove := by
  unfold State.judgeEmpty
  rcases h with h | h <;> simp only [h]

theorem passed_iff (a : ArmedInstants) (now : Ns) : a.passed now = true ↔
    a.openAt.xt ≤ now ∨ a.callAt.xt ≤ now ∨ a.closeAt.xt ≤ now := by
  simp only [ArmedInstants.passed, Bool.or_eq_true, decide_eq_true_iff, or_assoc]

theorem not_passed {a : ArmedInstants} {now : Ns} (ho : now < a.openAt.xt) (hca : now < a.callAt.xt) (hcl : now < a.closeAt.xt) :
    ¬ (a.openAt.xt ≤ now ∨ a.callAt.xt ≤ now ∨ a.closeAt.xt ≤ now) := by
  simp only [not_or, not_le]
  exact ⟨ho, hca, hcl⟩

theorem judgeArm_none (h : s.leap.arm d.firstDay.toNat d = none) : s.judgeArm k d = .refused .limit := by
  rw [State.judgeArm, h]

theorem judgeArm_some {a : ArmedInstants} (h : s.leap.arm d.firstDay.toNat d = some a) : s.judgeArm k d =
    if a.openAt.xt ≤ s.now ∨ a.callAt.xt ≤ s.now ∨ a.closeAt.xt ≤ s.now then .refused .tooLate
    else if s.commitsFull = true then .refused .limit else .arm k d.firstDay.toNat a := by
  rw [State.judgeArm, h]
  simp only [passed_iff]

theorem judgeRevise_other {g : Segment} {old : Definition} (hdefn : g.defn = some old) (h : Definition.revises d old = false ∨ k ≠ g.profile) :
    s.judgeRevise g k d = .refused .badState := by
  unfold State.judgeRevise
  rw [hdefn]
  cases g.armedDay <;> cases g.armed <;> simp only [if_pos h]

section Revise
variable {g : Segment} {old : Definition} {day : Nat} {a : ArmedInstants} (hdefn : g.defn = some old) (hday : g.armedDay = some day)
  (harmed : g.armed = some a) (h : Definition.revises d old = true) (hk : k = g.profile)
include hdefn hday harmed h hk

theorem judgeRevise_outOfRange
    (hnone : s.leap.convert day d.callTime.toNat = none ∨ s.leap.convert day d.closeTime.toNat = none) :
    s.judgeRevise g k d = .refused .limit := by
  unfold State.judgeRevise
  have hsame : ¬ (Definition.revises d old = false ∨ k ≠ g.profile) := by simp [h, hk]
  simp only [hdefn, hday, harmed, if_neg hsame]
  rcases hnone with hnone | hnone
  · simp only [hnone]
  · cases s.leap.convert day d.callTime.toNat <;> simp only [hnone]

theorem judgeRevise_converted {call close : Ns} (hcall : s.leap.convert day d.callTime.toNat = some call)
    (hclose : s.leap.convert day d.closeTime.toNat = some close) : s.judgeRevise g k d =
      if call ≤ s.now then .refused .tooLate else if s.commitsFull = true then .refused .limit
      else .revise a { a with callAt := ⟨call, false⟩, closeAt := ⟨close, false⟩ } := by
  unfold State.judgeRevise
  have hsame : ¬ (Definition.revises d old = false ∨ k ≠ g.profile) := by simp [h, hk]
  simp only [hdefn, hday, harmed, if_neg hsame, hcall, hclose]

end Revise
end Judge

/-! ## The two requests -/

/-- A SEGMENT_WRITE, or with `swap` a SEGMENT_SWAP, at the head of its port's queue. -/
def writes (c : Instr) (swap : Bool) (p : Port) (tag : Tag) (seg profile : Byte) (d : Definition) (s : State) : Prop :=
  c = .segmentWrite p tag seg profile d ∧ swap = false ∧ s.canServe .schedule p tag (.segmentWrite seg profile d) ∨
    c = .segmentSwap p tag seg profile d ∧ swap = true ∧ s.canServe .schedule p tag (.segmentSwap seg profile d)

section Writes
variable {c : Instr} {swap : Bool} {p : Port} {tag : Tag} {seg profile : Byte} {d : Definition} {s : State} {i : SegId} {k : ProfileId}
  (h : writes c swap p tag seg profile d s)
include h

theorem exec_write_badIndex (hindex : 63 < seg.toNat ∨ 3 < profile.toNat) : exec c s = .next (s.done p tag .badIndex false) := by
  have hnames : segOf seg = none ∨ profileOfByte profile = none := hindex.imp segOf_above profileOfByte_above
  rcases h with ⟨rfl, -, hserve⟩ | ⟨rfl, -, hserve⟩ <;>
    refine congrArg Host.Outcome.next ((s.takeWith_of_canServe p hserve).trans ?_) <;>
    rcases hnames with hnone | hnone
  · simp only [hnone]
  · cases segOf seg <;> simp only [hnone]
  · simp only [hnone]
  · cases segOf seg <;> simp only [hnone]

variable (hi : i.val = seg.toNat) (hk : k.val = profile.toNat)
include hi hk

theorem exec_write_refused {code : ResultCode} (hjudge : s.judgeWrite i k d = .refused code) :
    exec c s = .next (s.done p tag code false) := by
  rcases h with ⟨rfl, -, hserve⟩ | ⟨rfl, -, hserve⟩ <;>
    refine congrArg Host.Outcome.next ((s.takeWith_of_canServe p hserve).trans ?_) <;>
    simp only [segOf_val hi, profileOfByte_val hk, hjudge]
  rfl

/-- The answer of an accepted write: OK, or the record as it stood (R114). -/
theorem exec_write_accepted {e : WriteEffect} (hjudge : s.judgeWrite i k d = e) (he : ∀ code, e ≠ .refused code) :
    exec c s = .next ((s.applyWrite i swap p d e).answer p
      (if swap then .segment tag (s.segmentBody i) else .done tag .ok false)) := by
  rcases h with ⟨rfl, rfl, hserve⟩ | ⟨rfl, rfl, hserve⟩ <;>
    refine congrArg Host.Outcome.next ((s.takeWith_of_canServe p hserve).trans ?_) <;>
    simp only [segOf_val hi, profileOfByte_val hk, hjudge]
  · cases e with
    | refused code => exact absurd rfl (he code)
    | _ => rfl
  · cases e with
    | refused code => exact absurd rfl (he code)
    | _ => rfl

end Writes

theorem segmentWriteIsChecked : SegmentWriteIsChecked := by
  intro p tag seg profile d s c hc refused empty inRange
  have hw : ∃ swap, writes c swap p tag seg profile d s :=
    hc.elim (fun h => ⟨false, .inl ⟨h.1, rfl, h.2⟩⟩) fun h => ⟨true, .inr ⟨h.1, rfl, h.2⟩⟩
  obtain ⟨swap, hw⟩ := hw
  have hrange : inRange → Definition.inRange d = true := fun ⟨_, _, hclose, hopen, hcall, hrep⟩ => inRange_iff.2 ⟨hclose, hopen, hcall, hrep⟩
  refine ⟨fun h => replies_done (exec_write_badIndex hw h), ?_⟩
  intro i k hi hk g ends closed open_ full
  have hrefused {code : ResultCode} (h : s.judgeWrite i k d = .refused code) : refused code :=
    replies_done (exec_write_refused hw hi hk h)
  have hopenFree (h : g.committed = .settled .opened) : ¬ closed := by
    simp [closed, h]
  refine ⟨fun h => hrefused (judgeWrite_closed h), fun h hempty hopen => hrefused ?_, fun hempty harmed hfull => hrefused ?_,
    fun h hempty hno => hrefused ?_, fun h hr hopen harm => hrefused ?_, fun a h hr hopen harm => ⟨fun hpassed => hrefused ?_,
    fun ho hca hcl hfull => hrefused ?_⟩, ?_, ?_⟩
  · rw [judgeWrite_empty h (isEmpty_iff.2 hempty), judgeEmpty_opened hopen]
  · have h : ¬ closedToWrites s i := by simp [closedToWrites, show (s.segs.get i).committed = _ from harmed]
    rw [judgeWrite_empty h (isEmpty_iff.2 hempty), judgeEmpty_armed harmed, if_pos ((commitsFull_iff s).2 hfull)]
  · refine judgeWrite_outOfRange h (Bool.eq_false_iff.2 (mt isEmpty_iff.1 hempty)) (Bool.eq_false_iff.2 fun hin => hno ?_)
    obtain ⟨hclose, hopen, hcall, hrep⟩ := inRange_iff.1 hin
    exact ⟨by omega, by omega, hclose, hopen, hcall, hrep⟩
  · rw [judgeWrite_inRange h (hrange hr), if_neg hopen, judgeArm_none harm]
  · rw [judgeWrite_inRange h (hrange hr), if_neg hopen, judgeArm_some harm, if_pos hpassed]
  · rw [judgeWrite_inRange h (hrange hr), if_neg hopen, judgeArm_some harm, if_neg (not_passed ho hca hcl), if_pos ((commitsFull_iff s).2 hfull)]
  · intro old day a hopen hr hdefn hday harmed heq hk'
    have hjudge := judgeWrite_inRange (k := k) (hopenFree hopen) (hrange hr)
    rw [if_pos hopen] at hjudge
    refine ⟨fun hnone => hrefused (hjudge.trans (judgeRevise_outOfRange hdefn hday harmed (revises_of_eq heq) hk' hnone)),
      fun call close hcall hclose => ?_⟩
    rw [judgeRevise_converted hdefn hday harmed (revises_of_eq heq) hk' hcall hclose] at hjudge
    refine ⟨fun hpassed => hrefused (hjudge.trans (if_pos hpassed)), fun hahead hfull => hrefused (hjudge.trans ?_)⟩
    rw [if_neg (not_le.2 hahead), if_pos ((commitsFull_iff s).2 hfull)]
  · intro old hopen hr hdefn hother
    have hjudge := judgeWrite_inRange (k := k) (hopenFree hopen) (hrange hr)
    rw [if_pos hopen] at hjudge
    refine hrefused (hjudge.trans (judgeRevise_other hdefn ?_))
    rw [← Bool.not_eq_true, revises_iff]
    tauto

/-- Settles O34: the conversion of R65, and the judgement of a write check by check. -/
theorem segmentWriteConvertsAndChecks : Obligations.SegmentWriteConvertsAndChecks :=
  ⟨timesOfDayConvertToXt, segmentWriteIsChecked⟩

/-! ## Accepted writes (R111 to R114) -/

/-- The lines follow the segments as they stand (R129). -/
theorem linesFollow {s u : State} (h : u.outputs = s.outputs) (p : Port) (r : Record) :
    LinesFollow s (u.followCloses.answer p r) := fun l =>
  ⟨closeLevel u.segs l, closeLevel_iff u l, by rw [← h]; exact u.followCloses_get l⟩

/-- The event of an accepted write is committed and the lines follow. -/
theorem committedWrite_frame (s : State) (i : SegId) (g : Segment) (e : SegEvent) (c : Committed) :
    State.differsIn [.segs, .commits, .outputs] s ((s.withSeg i g).commit e c).followCloses :=
  .next (withSeg_commit_frame s i g e c) (State.followCloses_frame _) (by decide) (by decide)

/-- An accepted write that commits an event: what it installs, and the lines. -/
theorem replies_committedWrite {c : Instr} {s : State} {p : Port} {r : Record} {i : SegId} {g : Segment} {kind : SegEventKind}
    {st : SegState} (hexec : exec c s = .next
      ((((s.withSeg i g).commit { seg := i, kind := kind, after := some st } (.settled st)).followCloses).answer p r)) :
    Replies c s p r [.segs, .commits, .outputs] fun t =>
      Committed1 s t i { g with committed := .settled st } kind (some st) ∧ LinesFollow s t :=
  replies_answer hexec rfl (committedWrite_frame s i g _ _)
    ⟨committed1_withSeg s i g kind (some st) (.settled st), linesFollow rfl p _⟩

/-- Settles O35: the judgement's four effects, each installed, committed or entered at once, and answered. -/
theorem segmentWriteTakesEffectAtTheTaking : Obligations.SegmentWriteTakesEffectAtTheTaking := by
  intro p tag seg profile d s c swap i k hw hi hk g answer empty inRange ends
  have haccepted {e : WriteEffect} (hjudge : s.judgeWrite i k d = e) (he : ∀ code, e ≠ .refused code) :
      exec c s = .next ((s.applyWrite i swap p d e).answer p answer) := exec_write_accepted hw hi hk hjudge he
  have hfree (h : s.commits.length < 64) : ¬ s.commitsFull = true := by rw [commitsFull_iff]; omega
  refine ⟨?_, ?_, ?_, ?_⟩
  · intro a hr hroom hstate harm ho hca hcl
    have hopen : ¬ closedToWrites s i ∧ (s.segs.get i).committed ≠ .settled .opened := by
      rcases hstate with h | h | ⟨h, hno⟩
      · simp [closedToWrites, show (s.segs.get i).committed = _ from h]
      · simp [closedToWrites, show (s.segs.get i).committed = _ from h]
      · simp [closedToWrites, show (s.segs.get i).committed = _ from h, show ¬ endCommitted s i from hno]
    have hjudge : s.judgeWrite i k d = .arm k d.firstDay.toNat a := by
      rw [judgeWrite_inRange hopen.1 (inRange_iff.2 hr), if_neg hopen.2, judgeArm_some harm, if_neg (not_passed ho hca hcl), if_neg (hfree hroom)]
    exact replies_committedWrite (haccepted hjudge (by simp))
  · intro old day a call close hopen hr hroom hdefn hday harmed hk' heq hcall hclose hahead
    have hclosed : ¬ closedToWrites s i := by simp [closedToWrites, show (s.segs.get i).committed = _ from hopen]
    have hjudge : s.judgeWrite i k d = .revise a { a with callAt := ⟨call, false⟩, closeAt := ⟨close, false⟩ } := by
      rw [judgeWrite_inRange hclosed (inRange_iff.2 hr), if_pos hopen,
        judgeRevise_converted hdefn hday harmed (revises_of_eq heq) hk' hcall hclose, if_neg (not_le.2 hahead), if_neg (hfree hroom)]
    have hreplies := replies_committedWrite (haccepted hjudge (by simp))
    rw [show (s.segs.get i).defn = some old from hdefn, Option.map_some, revised_of_eq heq] at hreplies
    exact hreplies
  · intro hempty harmed hroom
    have hclosed : ¬ closedToWrites s i := by simp [closedToWrites, show (s.segs.get i).committed = _ from harmed]
    have hjudge : s.judgeWrite i k d = .disarm := by
      rw [judgeWrite_empty hclosed (isEmpty_iff.2 hempty), judgeEmpty_armed harmed, if_neg (hfree hroom)]
    exact replies_committedWrite (haccepted hjudge (by simp))
  · intro hempty hstate
    have hclosed : ¬ closedToWrites s i := by
      rcases hstate with h | ⟨h, hno⟩
      · simp [closedToWrites, show (s.segs.get i).committed = _ from h]
      · simp [closedToWrites, show (s.segs.get i).committed = _ from h, show ¬ endCommitted s i from hno]
    have hjudge : s.judgeWrite i k d = .remove := by
      rw [judgeWrite_empty hclosed (isEmpty_iff.2 hempty), judgeEmpty_resting (hstate.imp_right And.left)]
    refine replies_answer (haccepted hjudge (by simp)) rfl ?_ ⟨s.withSeg_get_same i _, fun j hj => s.withSeg_get_ne _ hj,
      wrote_of_wrote (TrailUnit.request_wrote _ _ _ rfl) rfl, linesFollow rfl p _⟩
    exact .next (.next (ds := [.segs, .trail]) (s.withSeg_frame _ _) (State.ask_frame _ _) (by decide) (by decide))
      (State.followCloses_frame _) (by decide) (by decide)

end Sys2Proof
end


section
/-! PROOFS. A draw that stands is disclosed by no request (R100, R115): every request acts on a state and on the same state with its
draws left out alike. -/

-- One proof after another: proofs elaborated side by side each hold a thread, more of them than the check has memory for.
set_option Elab.async false

namespace Sys2Proof.Machine

/-- A segment's record without the draw. -/
def Segment.undrawn (g : Segment) : Segment := { g with drawn := none }

/-- The state with every draw left out. -/
def State.undrawn (s : State) : State := s.withSegs (s.segs.map Segment.undrawn)

/-- A change of the state that leaving out the draws goes along with. -/
def Blind (f : State → State) : Prop := ∀ s : State, f s.undrawn = (f s).undrawn

theorem undrawn_eq_of_differ {s : State} {segs : Bank 64 Segment}
    (h : ∀ i : SegId, ∃ d : Option Draw, segs.get i = { s.segs.get i with drawn := d }) : (s.withSegs segs).undrawn = s.undrawn := by
  refine congrArg s.withSegs (Bank.ext_get fun i => ?_)
  obtain ⟨d, hd⟩ := h i
  rw [State.withSegs_segs, Bank.get_map, Bank.get_map, hd]
  rfl

/-! ## Ways to put blind changes together -/

section Build
variable {f g : State → State}

theorem Blind.comp (hg : Blind g) (hf : Blind f) : Blind fun s => g (f s) := fun s =>
  (congrArg g (hf s)).trans (hg (f s))

theorem blind_ite {c : State → Prop} [∀ s, Decidable (c s)] (hc : ∀ s, c s.undrawn ↔ c s) (hf : Blind f) (hg : Blind g) :
    Blind fun s => if c s then f s else g s := by
  intro s
  dsimp only
  by_cases h : c s
  · rw [if_pos h, if_pos ((hc s).2 h), hf]
  · rw [if_neg h, if_neg (mt (hc s).1 h), hg]

theorem blind_take {p : Port} {tag : Tag} {body : ReqBody} (hf : Blind f) : Blind fun s => s.take p tag body f :=
  blind_ite (fun _ => Iff.rfl) hf fun _ => rfl

theorem blind_done (p : Port) (tag : Tag) (code : ResultCode) (clamped : Bool) : Blind fun s => s.done p tag code clamped := fun _ => rfl

theorem blind_takeWith {right : Right} {p : Port} {tag : Tag} {body : ReqBody} (hf : Blind f) :
    Blind fun s => s.takeWith right p tag body f :=
  blind_take (blind_ite (c := fun s => (s.port p).role.has right = true) (fun _ => Iff.rfl) hf (blind_done _ _ _ _))

theorem Blind.done (hf : Blind f) (p : Port) (tag : Tag) (code : ResultCode) (clamped : Bool) :
    Blind fun s => (f s).done p tag code clamped := .comp (g := fun s => s.done p tag code clamped) (blind_done p tag code clamped) hf

theorem Blind.foldl {α : Type} {f : State → α → State} (hf : ∀ a, Blind fun s => f s a) : ∀ l : List α, Blind fun s => l.foldl f s
  | [] => fun _ => rfl
  | a :: l => (Blind.foldl hf l).comp (hf a)

end Build

/-! ## Segments, lines and the leap record -/

section Parts
variable (s : State)

@[simp] theorem undrawn_leap : s.undrawn.leap = s.leap := rfl
@[simp] theorem undrawn_steer : s.undrawn.steer = s.steer := rfl
@[simp] theorem undrawn_outputs : s.undrawn.outputs = s.outputs := rfl
@[simp] theorem undrawn_commits : s.undrawn.commits = s.commits := rfl
@[simp] theorem undrawn_profiles : s.undrawn.profiles = s.profiles := rfl
@[simp] theorem undrawn_tick : s.undrawn.tick = s.tick := rfl
@[simp] theorem undrawn_refs : s.undrawn.refs = s.refs := rfl
@[simp] theorem undrawn_now : s.undrawn.now = s.now := rfl
@[simp] theorem undrawn_leapNow : s.undrawn.leapNow = s.leapNow := rfl

@[simp] theorem undrawn_get (i : SegId) : s.undrawn.segs.get i = (s.segs.get i).undrawn := Bank.get_map _ _ _

theorem withSeg_undrawn (i : SegId) (g : Segment) : s.undrawn.withSeg i g.undrawn = (s.withSeg i g).undrawn := by
  refine congrArg s.withSegs (Bank.ext_get fun j => ?_)
  rw [Bank.get_set, Bank.get_map, State.withSeg, State.withSegs_segs, Bank.get_set, undrawn_get]
  split <;> rfl

theorem commit_undrawn (e : SegEvent) (c : Committed) : s.undrawn.commit e c = (s.commit e c).undrawn := by
  have h := withSeg_undrawn s e.seg { s.segs.get e.seg with committed := c }
  rw [State.commit, undrawn_get]
  rw [State.commit]
  exact congrArg (fun u : State => u.withCommits (s.commits ++ [e])) h

theorem closeLevel_undrawn (l : Line) : closeLevel s.undrawn.segs l = closeLevel s.segs l := by
  rw [Bool.eq_iff_iff, closeLevel, closeLevel, bank_any_iff, bank_any_iff]
  refine exists_congr fun i => ?_
  rw [undrawn_get]
  exact Iff.rfl

theorem followCloses_undrawn : s.undrawn.followCloses = s.followCloses.undrawn := by
  unfold State.followCloses
  simp only [closeLevel_undrawn]
  rfl

theorem shiftSegments_undrawn (t : Option Ns) (a : Int) : s.undrawn.shiftSegments t a = (s.shiftSegments t a).undrawn := by
  refine congrArg s.withSegs (Bank.ext_get fun i => ?_)
  rw [Bank.get_map, undrawn_get, Bank.get_map, State.shiftSegments_get]
  rfl

theorem withdrawLeap_undrawn (p : PendingLeap) : s.undrawn.withdrawLeap p = (s.withdrawLeap p).undrawn :=
  congrArg (fun u : State => u.reportLeap _) (shiftSegments_undrawn (s.withLeap { s.leap with pending := none }) _ _)

theorem makePending_undrawn (leap : Leap) (source : LeapSource) :
    s.undrawn.makePending leap source = (s.makePending leap source).undrawn := by
  unfold State.makePending
  dsimp only [undrawn_leap, undrawn_now]
  cases s.leap.check leap s.now with
  | outOfRange => rfl
  | late => rfl
  | pass => exact congrArg (fun u : State => u.reportLeap _) (shiftSegments_undrawn (s.withLeap _) _ _)

theorem agreeLeap_undrawn (target : Option Leap) (source : LeapSource) :
    s.undrawn.agreeLeap target source = (s.agreeLeap target source).undrawn := by
  unfold State.agreeLeap
  refine blind_ite (c := fun u => target = u.leap.pending.map PendingLeap.leap) (f := fun u => u)
    (g := fun u => match target with
      | some leap => (match u.leap.pending with
          | some p => u.withdrawLeap p
          | none => u).makePending leap source
      | none => match u.leap.pending with
          | some p => u.withdrawLeap p
          | none => u)
    (fun _ => Iff.rfl) (fun _ => rfl) (fun u => ?_) s
  have hwithdrawn : (match u.undrawn.leap.pending with
        | some p => u.undrawn.withdrawLeap p
        | none => u.undrawn) =
      (match u.leap.pending with
        | some p => u.withdrawLeap p
        | none => u).undrawn := by
    rw [undrawn_leap]
    cases u.leap.pending with
    | none => rfl
    | some p => exact withdrawLeap_undrawn u p
  cases target with
  | none => exact hwithdrawn
  | some leap => exact (congrArg (fun v : State => v.makePending leap source) hwithdrawn).trans (makePending_undrawn _ _ _)

theorem compareLeap_undrawn : s.undrawn.compareLeap = s.compareLeap.undrawn :=
  blind_ite (c := fun u => (decide (u.steer.state = .locked) && u.leap.disagrees) = true) (f := fun u => u.ask _) (g := fun u => u)
    (fun _ => Iff.rfl) (fun _ => rfl) (fun _ => rfl) s

theorem correctOffset_undrawn (n : Int) (source : LeapSource) :
    s.undrawn.correctOffset n source = (s.correctOffset n source).undrawn := by
  unfold State.correctOffset
  dsimp only [undrawn_leap]
  split
  · rfl
  · exact congrArg (fun v : State => v.reportLeap _) (shiftSegments_undrawn (s.withLeap _) _ _)

theorem beginLeap_undrawn : s.undrawn.beginLeap = s.beginLeap.undrawn := by
  unfold State.beginLeap
  rw [undrawn_leap]
  cases s.leap.pending with
  | none => rfl
  | some p => rfl

theorem executeLeap_undrawn : s.undrawn.executeLeap = s.executeLeap.undrawn := by
  unfold State.executeLeap
  rw [undrawn_leap]
  cases s.leap.pending with
  | none => rfl
  | some p => rfl

theorem actOnLeap_undrawn : s.undrawn.actOnLeap = s.actOnLeap.undrawn :=
  Blind.comp (g := fun u => if u.leap.executeDue u.now then u.executeLeap else u)
    (f := fun u => if u.leap.beginDue u.now then u.beginLeap else u)
    (blind_ite (fun _ => Iff.rfl) executeLeap_undrawn fun _ => rfl) (blind_ite (fun _ => Iff.rfl) beginLeap_undrawn fun _ => rfl) s

/-! ## Changes of the timescale state and the opening of stamping -/

theorem takeStore_undrawn (l : Leap) : Blind fun u => if u.leapNow = .inLeap then u else u.agreeLeap (some l) .request :=
  blind_ite (fun _ => Iff.rfl) (fun _ => rfl) fun u => agreeLeap_undrawn u _ _

theorem tellLeap_undrawn (old : TimescaleState) : s.undrawn.tellLeap old = (s.tellLeap old).undrawn := by
  unfold State.tellLeap
  rw [undrawn_steer, undrawn_leap]
  cases s.steer.state <;> cases old <;> cases s.leap.store <;> first | rfl | exact takeStore_undrawn _ s

theorem enterState_undrawn (st : TimescaleState) : s.undrawn.enterState st = (s.enterState st).undrawn :=
  tellLeap_undrawn (s.withSteer { s.steer with state := st }) _

theorem withdrawSteps_undrawn : s.undrawn.withdrawSteps = s.withdrawSteps.undrawn := by
  refine congrArg (fun u : State => u.withSteer { u.steer with pendingSteps := [] })
    (Blind.foldl (fun st u => ?_) s.steer.pendingSteps s)
  dsimp only
  cases st.origin with
  | manual p tag => cases p <;> rfl
  | _ => rfl

theorem missSegment_undrawn (i : SegId) : Blind fun u => u.missSegment i := by
  intro u
  unfold State.missSegment
  dsimp only
  rw [undrawn_get]
  cases harmed : (u.segs.get i).armed with
  | none => simp only [Segment.undrawn, harmed]
  | some a =>
    simp only [Segment.undrawn, harmed, undrawn_now]
    split
    · rw [← commit_undrawn, ← withSeg_undrawn]
      rfl
    · rfl

theorem openStamping_undrawn : s.undrawn.openStamping = s.openStamping.undrawn := by
  unfold State.openStamping
  rw [withdrawSteps_undrawn, undrawn_steer]
  generalize s.withdrawSteps = u
  split
  · rfl
  · exact Blind.foldl missSegment_undrawn _ (u.withSteer { u.steer with stampingOpen := true })

theorem expireAcquisition_undrawn : s.undrawn.expireAcquisition = s.expireAcquisition.undrawn :=
  blind_ite (c := fun u => u.steer.timeSet = true)
    (f := fun u => ((((u.withSteer _).withSteer _).enterState .holdover).openStamping).reportTimescale .acquire .acqTimeout)
    (g := fun u => u.withSteer _) (fun _ => Iff.rfl)
    (Blind.comp (g := fun u => u.reportTimescale .acquire .acqTimeout) (fun _ => rfl)
      (Blind.comp openStamping_undrawn (Blind.comp (g := fun u => u.enterState .holdover) (fun u => enterState_undrawn u _) fun _ => rfl)))
    (fun _ => rfl) s

end Parts

/-! ## Writes of segments -/

section Writes
variable (s : State)

theorem extendRefusal_undrawn (i : SegId) : s.undrawn.extendRefusal i = s.extendRefusal i := by
  unfold State.extendRefusal
  rw [undrawn_get]
  rfl

theorem releaseRefusal_undrawn (i : SegId) : s.undrawn.releaseRefusal i = s.releaseRefusal i := by
  unfold State.releaseRefusal
  rw [undrawn_get]
  rfl

theorem haltRefusal_undrawn (i : SegId) : s.undrawn.haltRefusal i = s.haltRefusal i := by
  unfold State.haltRefusal
  rw [undrawn_get]
  rfl

theorem judgeWrite_undrawn (i : SegId) (k : ProfileId) (d : Definition) : s.undrawn.judgeWrite i k d = s.judgeWrite i k d := by
  unfold State.judgeWrite
  rw [undrawn_get]
  rfl

theorem segmentBody_undrawn (i : SegId) : s.undrawn.segmentBody i = s.segmentBody i := by
  unfold State.segmentBody
  rw [undrawn_get]
  rfl

theorem profileBusy_undrawn (k : ProfileId) : s.undrawn.profileBusy k = s.profileBusy k := by
  rw [Bool.eq_iff_iff, profileBusy_iff, profileBusy_iff]
  refine exists_congr fun i => ?_
  rw [undrawn_get]
  exact Iff.rfl

theorem withSeg_commit_undrawn (i : SegId) (g : Segment) (e : SegEvent) (c : Committed) :
    (s.undrawn.withSeg i g.undrawn).commit e c = ((s.withSeg i g).commit e c).undrawn := by
  rw [withSeg_undrawn, commit_undrawn]

theorem applyWrite_undrawn (i : SegId) (swap : Bool) (p : Port) (d : Definition) (e : WriteEffect) :
    s.undrawn.applyWrite i swap p d e = (s.applyWrite i swap p d e).undrawn := by
  cases e with
  | refused code => rfl
  | remove =>
    unfold State.applyWrite
    dsimp only
    rw [undrawn_get, ← followCloses_undrawn]
    exact congrArg State.followCloses ((congrArg (fun u : State => u.ask (.segment i.val
      (.write swap (s.segs.get i).profile none none none none) (some p) 0)) (withSeg_undrawn s i
        { s.segs.get i with defn := none, armedDay := none, armed := none })))
  | arm profile day armed =>
    unfold State.applyWrite
    dsimp only
    rw [undrawn_get, ← followCloses_undrawn, ← withSeg_commit_undrawn]
    rfl
  | revise old new =>
    unfold State.applyWrite
    dsimp only
    rw [undrawn_get, ← followCloses_undrawn, ← withSeg_commit_undrawn]
    rfl
  | disarm =>
    unfold State.applyWrite
    dsimp only
    rw [undrawn_get, ← followCloses_undrawn, ← withSeg_commit_undrawn]
    rfl

end Writes

/-! ## Requests -/

section Requests
variable (p : Port) (tag : Tag)

/-- What a command does to the state, blind to the draws. -/
def ActsBlind (c : Instr) : Prop := ∃ f : State → State, (∀ s, exec c s = .next (f s)) ∧ Blind f

theorem blind_stamp (seg : Option Byte) : ActsBlind (.stamp p tag seg) := by
  refine ⟨_, fun _ => rfl, blind_takeWith ?_⟩
  have hpresent (g : Option SegId) : Blind fun s : State =>
      if s.steer.stampingOpen then s.withPort p { s.port p with service := .stamping tag g } else s.done p tag .notReady false :=
    blind_ite (fun _ => Iff.rfl) (fun _ => rfl) fun _ => rfl
  cases seg with
  | none => exact hpresent none
  | some b =>
    cases hb : segOf b with
    | none => simp only [hb]; exact blind_done _ _ _ _
    | some i => simp only [hb]; exact hpresent (some i)

theorem blind_setTime (sec : BitVec 64) : ActsBlind (.setTime p tag sec) :=
  ⟨_, fun _ => rfl, blind_takeWith (blind_ite (c := fun s => s.steer.stampingOpen = true) (fun _ => Iff.rfl) (blind_done _ _ _ _)
    (blind_ite (c := fun _ => stepLimit ≤ sec.toNat * secondNs) (fun _ => Iff.rfl) (blind_done _ _ _ _) fun _ => rfl))⟩

theorem storeLeap_blind (store : Option Leap) : Blind fun s => s.storeLeap store :=
  Blind.comp (g := fun s : State => if s.steer.state = .locked then s.compareLeap else s.agreeLeap store .request)
    (f := fun s => s.withLeap { s.leap with store := store })
    (blind_ite (fun _ => Iff.rfl) compareLeap_undrawn fun s => agreeLeap_undrawn s _ _) fun _ => rfl

theorem setLeap_blind (leap : Leap) : Blind fun s => s.setLeap p tag leap := by
  unfold State.setLeap
  refine blind_ite (fun _ => Iff.rfl) (blind_done _ _ _ _) fun s => ?_
  dsimp only [undrawn_leap, undrawn_now]
  cases (s.leap.check leap s.now).refusal with
  | none => exact (storeLeap_blind (some leap)).done p tag .ok false s
  | some code => rfl

theorem blind_setLeapWithdraw (day : BitVec 32) : ActsBlind (.setLeapWithdraw p tag day) :=
  ⟨_, fun _ => rfl, blind_takeWith (blind_ite (c := fun s => s.leapNow = .inLeap) (fun _ => Iff.rfl) (blind_done _ _ _ _)
    ((storeLeap_blind none).done p tag .ok false))⟩

theorem blind_profileWrite (k m : Byte) (ext : BitVec 16) (w : BitVec 32) : ActsBlind (.profileWrite p tag k m ext w) := by
  refine ⟨_, fun _ => rfl, blind_takeWith ?_⟩
  cases hk : profileOfByte k with
  | none => exact blind_done _ _ _ _
  | some pr => exact blind_ite (fun s => by rw [profileBusy_undrawn]) (blind_done _ _ _ _) fun _ => rfl

/-- An event that a request commits, with its answer. -/
theorem blind_commit (e : SegEvent) (c : Committed) : Blind fun s => (s.commit e c).done p tag .ok false :=
  Blind.done (f := fun s => s.commit e c) (fun s => commit_undrawn s e c) p tag .ok false

theorem blind_extend (seg : Byte) : ActsBlind (.extend p tag seg) := by
  refine ⟨_, fun _ => rfl, blind_takeWith ?_⟩
  cases segOf seg with
  | none => exact blind_done _ _ _ _
  | some i =>
    intro s
    dsimp only
    rw [extendRefusal_undrawn]
    cases s.extendRefusal i with
    | none => exact blind_commit p tag _ _ s
    | some code => rfl

theorem blind_release (seg : Byte) : ActsBlind (.release p tag seg) := by
  refine ⟨_, fun _ => rfl, blind_takeWith ?_⟩
  cases segOf seg with
  | none => exact blind_done _ _ _ _
  | some i =>
    intro s
    dsimp only
    rw [releaseRefusal_undrawn]
    cases s.releaseRefusal i with
    | none => exact blind_commit p tag _ _ s
    | some code => rfl

theorem blind_halt (seg : Byte) : ActsBlind (.halt p tag seg) := by
  refine ⟨_, fun _ => rfl, blind_takeWith ?_⟩
  cases segOf seg with
  | none => exact blind_done _ _ _ _
  | some i =>
    intro s
    dsimp only
    rw [haltRefusal_undrawn]
    cases s.haltRefusal i with
    | none => exact blind_commit p tag _ _ s
    | some code => rfl

theorem blind_segmentRead (seg : Byte) : ActsBlind (.segmentRead p tag seg) := by
  refine ⟨_, fun _ => rfl, blind_takeWith ?_⟩
  cases segOf seg with
  | none => exact blind_done _ _ _ _
  | some i =>
    intro s
    dsimp only
    rw [segmentBody_undrawn]
    rfl

theorem blind_segmentWrite (seg k : Byte) (d : Definition) : ActsBlind (.segmentWrite p tag seg k d) := by
  refine ⟨_, fun _ => rfl, blind_takeWith ?_⟩
  cases segOf seg <;> cases profileOfByte k <;> try exact blind_done _ _ _ _
  intro s
  dsimp only
  rw [judgeWrite_undrawn, applyWrite_undrawn]
  rfl

theorem blind_segmentSwap (seg k : Byte) (d : Definition) : ActsBlind (.segmentSwap p tag seg k d) := by
  refine ⟨_, fun _ => rfl, blind_takeWith ?_⟩
  cases segOf seg <;> cases profileOfByte k <;> try exact blind_done _ _ _ _
  intro s
  dsimp only
  rw [judgeWrite_undrawn, segmentBody_undrawn]
  cases s.judgeWrite _ _ d with
  | refused code => rfl
  | _ => exact congrArg (fun u : State => u.answer p _) (applyWrite_undrawn s _ _ _ _ _)

theorem setEdges_blind (l : Line) (sel : EdgeSel) : Blind fun s => s.setEdges p l sel :=
  blind_ite (c := fun s => (s.capture.get l).edgeSel = sel) (fun _ => Iff.rfl) (fun _ => rfl) fun _ => rfl

theorem remap_blind (l : Line) (q : Port) : Blind fun s => s.remap l q :=
  blind_ite (c := fun s => (s.capture.get l).port = q) (fun _ => Iff.rfl) (fun _ => rfl) fun _ => rfl

theorem setMapping_blind (l : Line) (q : Port) : Blind fun s => s.setMapping p l q :=
  blind_ite (c := fun s => (s.capture.get l).port = q) (fun _ => Iff.rfl) (fun _ => rfl)
    fun s => congrArg (fun u : State => u.ask (captureConfig p (264 + l.val) (s.capture.get l).port.val q.val)) (remap_blind l q s)

theorem applyCapture_blind (l : Line) (f : FieldRead EdgeSel) (g : FieldRead Port) : Blind fun s => s.applyCapture p l f g := by
  cases f <;> cases g
  case value.value sel q => exact Blind.comp (g := fun s => s.setMapping p l q) (setMapping_blind p l q) (setEdges_blind p l sel)
  case value.keep sel => exact setEdges_blind p l sel
  case value.wrong sel => exact setEdges_blind p l sel
  case keep.value q => exact setMapping_blind p l q
  case wrong.value q => exact setMapping_blind p l q
  all_goals exact fun _ => rfl

theorem captureRefusal_undrawn (s : State) (l : Option Line) (f : FieldRead EdgeSel) (g : FieldRead Port) :
    s.undrawn.captureRefusal p l f g = s.captureRefusal p l f g := by
  cases l <;> cases f <;> cases g <;> rfl

theorem blind_captureSet (line edge port : Byte) : ActsBlind (.captureSet p tag line edge port) := by
  refine ⟨_, fun _ => rfl, blind_take fun s => ?_⟩
  rw [captureRefusal_undrawn]
  cases s.captureRefusal p (eightOf line) (readField edgeSelOf edge) (readField eightOf port) with
  | some code => rfl
  | none =>
    cases eightOf line with
    | none => rfl
    | some l => exact (applyCapture_blind p l _ _).done p tag .ok false s

/-- An OUTPUT_SET whose new line is found without the draws. -/
theorem serveOutput_blind (m : OutputMode) (f : OutputFields) {make : State → Line → OutputLine → OutputLine}
    (hmake : ∀ s l o, make s.undrawn l o = make s l o) : Blind fun s => s.serveOutput p tag m f make := by
  refine blind_takeWith ?_
  cases eightOf f.line with
  | none => exact blind_done _ _ _ _
  | some l =>
    intro s
    dsimp only
    rw [hmake, undrawn_outputs]
    generalize make s l (s.outputs.get l) = new
    refine Blind.done (f := fun s => if (s.outputs.get l).sameAs new then s.withOutputs (s.outputs.set l new)
      else (s.withOutputs (s.outputs.set l new)).ask (outputConfig p l (s.outputs.get l) new (widthClamped f.width))) ?_ p tag .ok
        (widthClamped f.width) s
    exact blind_ite (fun _ => Iff.rfl) (fun _ => rfl) fun _ => rfl

theorem blind_outputSetAtInstant (f : OutputFields) : ActsBlind (.outputSetAtInstant p tag f) := by
  refine ⟨_, fun _ => rfl, ?_⟩
  cases eightOf f.line <;> cases levelOf f.level
  case some.none => exact blind_takeWith (blind_done _ _ _ _)
  all_goals exact serveOutput_blind p tag .atInstant f fun _ _ _ => rfl

theorem blind_trailRead (start : BitVec 64) (n : Byte) : ActsBlind (.trailRead p tag start n) :=
  ⟨_, fun _ => rfl, blind_takeWith (blind_ite (fun _ => Iff.rfl) (blind_done _ _ _ _)
    (blind_ite (fun _ => Iff.rfl) (blind_done _ _ _ _) fun _ => rfl))⟩

theorem blind_trailAck (n : BitVec 64) : ActsBlind (.trailAck p tag n) :=
  ⟨_, fun _ => rfl, blind_takeWith (blind_ite (fun _ => Iff.rfl) (blind_done _ _ _ _)
    (blind_ite (fun _ => Iff.rfl) (fun _ => rfl) fun _ => rfl))⟩

theorem blind_subscribe (b : Byte) (n : BitVec 16) : ActsBlind (.subscribe p tag b n) := by
  refine ⟨_, fun _ => rfl, blind_takeWith ?_⟩
  cases statusField b with
  | none => exact blind_done _ _ _ _
  | some sub => exact fun _ => rfl

/-! ## SET_TIMING -/

section Items
variable {item : TimingItem} {v : BitVec 64} {write : Int → State → State}

theorem acceptItem_blind {old : State → Int} (hold : ∀ s, old s.undrawn = old s) (hwrite : ∀ x, Blind (write x)) :
    Blind fun s => s.acceptItem p tag item v (old s) write := by
  intro s
  dsimp only
  rw [hold]
  exact congrArg (fun u : State => u.done p tag .ok (itemClamped item v))
    (hwrite (itemValue item v) (s.ask (itemConfig p item (old s) v)))

theorem serveItem_blind {old : State → Int} (hold : ∀ s, old s.undrawn = old s) (hwrite : ∀ x, Blind (write x)) :
    Blind fun s => s.serveItem p tag item v old write :=
  blind_takeWith (acceptItem_blind p tag hold hwrite)

end Items

theorem tryLockWait_blind : Blind State.tryLockWait :=
  blind_ite (c := fun s => s.lockWaitOpens = true) (fun _ => Iff.rfl) (fun _ => rfl) fun _ => rfl

theorem completeSettle_blind : Blind State.completeSettle :=
  Blind.comp (f := fun s => s.withTick { s.tick with returnPhase := .lockWait, settleDeadline := none }) tryLockWait_blind fun _ => rfl

theorem writeSettle_blind (n : Nat) : Blind (State.writeSettle n) := by
  intro s
  unfold State.writeSettle
  dsimp only [undrawn_tick]
  refine blind_ite (c := fun _ => s.tick.returnPhase = .settle)
    (f := fun u => if reached _ u.now then (u.withTick _).completeSettle else u.withTick _) (g := fun u => u.withTick _)
    (fun _ => Iff.rfl) ?_ (fun _ => rfl) s
  exact blind_ite (fun _ => Iff.rfl) (Blind.comp completeSettle_blind fun _ => rfl) fun _ => rfl

theorem writeAcqTimeout_blind (n : Nat) : Blind (State.writeAcqTimeout n) :=
  Blind.comp (g := fun s => if s.acqExpired then s.expireAcquisition else s)
    (f := fun s => s.withSteer { s.steer with acqTimeout := n })
    (blind_ite (fun _ => Iff.rfl) expireAcquisition_undrawn fun _ => rfl) fun _ => rfl

theorem writeM_blind (n : Nat) : Blind (State.writeM n) :=
  blind_ite (c := fun s => ({ s.steer with limitM := n } : SteeringUnit).retrace.traceable = s.steer.traceable)
    (fun _ => Iff.rfl) (fun _ => rfl) fun _ => rfl

theorem offsetRefusal_undrawn (s : State) (n : Int) : s.undrawn.offsetRefusal n = s.offsetRefusal n := rfl

theorem blind_utcOffset (v : BitVec 64) : ActsBlind (.setTimingUtcOffset p tag v) := by
  refine ⟨_, fun _ => rfl, blind_takeWith fun s => ?_⟩
  rw [offsetRefusal_undrawn]
  cases s.offsetRefusal (itemValue .utcOffset v) with
  | some code => rfl
  | none =>
    exact acceptItem_blind p tag (write := fun x s => (s.correctOffset x .request).actOnLeap) (old := fun s => s.leap.offset)
      (fun _ => rfl) (fun x => Blind.comp actOnLeap_undrawn fun s => correctOffset_undrawn s x .request) s

end Requests

/-- Every request command acts blind to the draws (R100, R115). -/
theorem actsBlind_of_asked {c : Instr} {p : Port} {tag : Tag} {body : ReqBody} (h : Instr.asked c = some (p, tag, body)) :
    ActsBlind c := by
  cases c <;> cases h
  case stamp seg => exact blind_stamp p tag seg
  case readTime => exact ⟨_, fun _ => rfl, blind_takeWith fun _ => rfl⟩
  case readEvidence => exact ⟨_, fun _ => rfl, blind_takeWith fun _ => rfl⟩
  case setTime sec => exact blind_setTime p tag sec
  case setLeapInsert day => exact ⟨_, fun _ => rfl, blind_takeWith (setLeap_blind p tag _)⟩
  case setLeapDelete day => exact ⟨_, fun _ => rfl, blind_takeWith (setLeap_blind p tag _)⟩
  case setLeapWithdraw day => exact blind_setLeapWithdraw p tag day
  case profileWrite => exact blind_profileWrite _ _ _ _ _ _
  case segmentWrite => exact blind_segmentWrite _ _ _ _ _
  case segmentSwap => exact blind_segmentSwap _ _ _ _ _
  case segmentRead => exact blind_segmentRead _ _ _
  case extend => exact blind_extend _ _ _
  case release => exact blind_release _ _ _
  case halt => exact blind_halt _ _ _
  case captureSet => exact blind_captureSet _ _ _ _ _
  case outputSetOff f => exact ⟨_, fun _ => rfl, serveOutput_blind p tag .off f fun _ _ _ => rfl⟩
  case outputSetSecondPulse f => exact ⟨_, fun _ => rfl, serveOutput_blind p tag .secondPulse f fun _ _ _ => rfl⟩
  case outputSetCloseFollow f =>
    exact ⟨_, fun _ => rfl, serveOutput_blind p tag .closeFollow f fun s l o => by rw [closeLevel_undrawn]⟩
  case outputSetAtInstant f => exact blind_outputSetAtInstant p tag f
  case trailRead => exact blind_trailRead _ _ _ _
  case trailAck => exact blind_trailAck _ _ _
  case summaryNow => exact ⟨_, fun _ => rfl, blind_takeWith fun _ => rfl⟩
  case subscribe => exact blind_subscribe _ _ _ _
  case drain => exact ⟨_, fun _ => rfl, blind_take fun _ => rfl⟩
  case malformedRequest => exact ⟨_, fun _ => rfl, blind_take fun _ => rfl⟩
  case setTimingSettlePeriod => exact ⟨_, fun _ => rfl, serveItem_blind p tag (fun _ => rfl) fun x => writeSettle_blind _⟩
  case setTimingAcquisitionTimeout => exact ⟨_, fun _ => rfl, serveItem_blind p tag (fun _ => rfl) fun x => writeAcqTimeout_blind _⟩
  case setTimingM => exact ⟨_, fun _ => rfl, serveItem_blind p tag (fun _ => rfl) fun x => writeM_blind _⟩
  case setTimingUtcOffset v => exact blind_utcOffset p tag v
  case setTimingUnknownItem => exact ⟨_, fun _ => rfl, blind_takeWith (blind_done _ _ _ _)⟩
  all_goals exact ⟨_, fun _ => rfl, serveItem_blind p tag (fun _ => rfl) fun _ _ => rfl⟩

end Sys2Proof.Machine

namespace Sys2Proof

open Machine

/-- Settles O36: a request acts on both states as on the state without draws. -/
theorem requestsDoNotDiscloseTheDraw : Obligations.RequestsDoNotDiscloseTheDraw := by
  intro c p tag body s segs t hasked hdiffer hexec
  obtain ⟨f, hf, hblind⟩ := actsBlind_of_asked hasked
  obtain rfl : f s = t := Host.Outcome.next.inj ((hf s).symm.trans hexec)
  have hsame : (f (s.withSegs segs)).undrawn = (f s).undrawn := by
    rw [← hblind, ← hblind, undrawn_eq_of_differ hdiffer]
  have hports : (f (s.withSegs segs)).undrawn.ports = (f s).undrawn.ports := congrArg State.ports hsame
  have houtputs : (f (s.withSegs segs)).undrawn.outputs = (f s).undrawn.outputs := congrArg State.outputs hsame
  have htrail : (f (s.withSegs segs)).undrawn.trail = (f s).undrawn.trail := congrArg State.trail hsame
  have hcommits : (f (s.withSegs segs)).undrawn.commits = (f s).undrawn.commits := congrArg State.commits hsame
  exact ⟨_, hf _, hports, houtputs, htrail, hcommits⟩

end Sys2Proof
end


section
/-! PROOFS. The grants of the segment events (R94, R96, R98 to R103, R105, R107, R108, R110 to R113). -/

-- One proof after another: proofs elaborated side by side each hold a thread, more of them than the check has memory for.
set_option Elab.async false

namespace Sys2Proof

open Machine

/-! ## What every grant does (R83, R94, R105) -/

theorem heldAfter_eq (s : State) : heldAfter s = s.headRequest := by
  unfold heldAfter State.headRequest
  cases s.commits with
  | nil => rfl
  | cons e es => cases h : e.kind <;> simp [h, SegEventKind.ofRequest]

theorem linesFollow_followCloses {s u : State} (h : u.outputs = s.outputs) : LinesFollow s u.followCloses := fun l =>
  ⟨closeLevel u.segs l, closeLevel_iff u l, by rw [← h]; exact u.followCloses_get l⟩

theorem notifySubscribers_port {u : State} {n : SegNotice} {d : Definition} (h : (u.segs.get n.seg).defn = some d) (p : Port) :
    (u.notifySubscribers n).port p = if d.subscribers.getLsbD p.val then (u.port p).notifySegment n else u.port p := by
  unfold State.notifySubscribers
  rw [h]
  exact Bank.get_mapFin _ _ p

theorem notifySubscribers_none {u : State} {n : SegNotice} (h : (u.segs.get n.seg).defn = none) : u.notifySubscribers n = u := by
  unfold State.notifySubscribers
  rw [h]

/-- The notice of a granted event, at the readings of `s` (R118). -/
def grantedNotice (s : State) (i : SegId) (g : Segment) (event : SegEventCode) (newClose : Option Ns) (closed : Option CloseRecord) :
    SegNotice :=
  { epoch := s.epoch.epoch
    seg := i
    event := event
    after := g.state
    fromSet := false
    count := 1
    cycle := g.cycle
    extensions := g.extensions
    seq := s.arb.seq + 1
    xt := s.now
    offset := (table42 s.leap s.now).1
    leapState := (table42 s.leap s.now).2
    newClose := newClose
    lastOpen := g.lastOpen
    lastCall := g.lastCall
    lastClose := g.lastClose
    closeRec := closed }

/-- A subscriber's port after the report of a granted event (R105, R118). -/
theorem granted_port {s v : State} {k : Nat} {i : SegId} {g : Segment} (hv : (s.grantHead.withDrawIndex k).withSeg i g = v)
    (entry : TrailBody) (event : SegEventCode) (closed : Option CloseRecord) (newClose : Option Ns) (p : Port) :
    ((v.ask entry).notifySubscribers (v.segNotice i event closed newClose)).port p =
      if (match g.defn with
        | some d => d.subscribers.getLsbD p.val
        | none => false) then
        (s.port p).notifySegment (grantedNotice s i g event newClose closed)
      else s.port p := by
  have hget : v.segs.get i = g := by rw [← hv]; exact State.withSeg_get_same _ i g
  have hnotice : v.segNotice i event closed newClose = grantedNotice s i g event newClose closed := by
    rw [State.segNotice, grantedNotice, hget, table42_eq, ← hv]
    rfl
  have hport : v.port p = s.port p := by rw [← hv]; rfl
  rw [← hnotice, ← hport]
  have hdefn : ((v.ask entry).segs.get i).defn = g.defn := congrArg Segment.defn hget
  cases hd : g.defn with
  | none =>
    rw [notifySubscribers_none (hdefn.trans hd)]
    rfl
  | some d => exact notifySubscribers_port (hdefn.trans hd) p

/-- The record, the entry and the notices of a granted event; the place of the random source is any. -/
theorem report_granted (s : State) (k : Nat) (i : SegId) (g : Segment) {entry : TrailBody} (hclass : entry.classB = false)
    (event : SegEventCode) (closed : Option CloseRecord) (newClose : Option Ns) :
    SegmentGranted s (((s.grantHead.withDrawIndex k).withSeg i g).report i entry event closed newClose) i g entry event newClose
      closed := by
  generalize hv : (s.grantHead.withDrawIndex k).withSeg i g = v
  have hsegs : (v.report i entry event closed newClose).segs = v.segs := v.report_frame _ _ _ _ _ .segs (by decide)
  have hcommits : (v.report i entry event closed newClose).commits = v.commits := v.report_frame _ _ _ _ _ .commits (by decide)
  have hget : v.segs.get i = g := by rw [← hv]; exact State.withSeg_get_same _ i g
  have hnotify : (v.report i entry event closed newClose).trail = (v.ask entry).trail :=
    (v.ask entry).notifySubscribers_frame _ .trail (by decide)
  refine ⟨?_, ?_, ?_, fun j hj => ?_, ?_, fun p => ?_, linesFollow_followCloses ?_⟩
  · rw [State.report_arb, ← hv, heldAfter_eq]
    rfl
  · rw [hcommits, ← hv]
    rfl
  · rw [hsegs, hget]
  · rw [hsegs, ← hv]
    exact State.withSeg_get_ne _ g hj
  · have hwriting : v.writing = { s.writing with seq := s.arb.seq + 1 } := by rw [← hv]; rfl
    have htrail : v.trail = s.trail := by rw [← hv]; rfl
    rw [hnotify, ← hwriting, ← htrail]
    exact TrailUnit.request_wrote v.trail entry v.writing hclass
  · exact granted_port hv entry event closed newClose p
  · refine ((v.ask entry).notifySubscribers_frame _ .outputs (by decide)).trans ?_
    rw [← hv]
    rfl

section Grants
variable {s : State} {i : SegId} {st : SegState}

/-! ## ARM, REVISE, DISARM and MISSED -/

theorem exec_armGrant {swap port day armed} (h : segmentTurn s { seg := i, kind := .arm swap port day armed, after := some st }) :
    ∃ t : State, exec .armGrant s = .next t ∧ SegmentGranted s t i { s.segs.get i with state := st }
      (.segment i.val (.write swap (s.segs.get i).profile day (s.segs.get i).defn armed none) (some port) (s.arb.seq + 1))
      .arm none none := by
  have hexec : exec .armGrant s = execArmGrant s := rfl
  unfold execArmGrant at hexec
  simp only [presented_eq_some_iff.2 h] at hexec
  exact ⟨_, hexec, report_granted s s.drawIndex i _ rfl _ _ _⟩

theorem exec_reviseGrant {swap port oldCall oldClose newCall newClose}
    (h : segmentTurn s { seg := i, kind := .revise swap port oldCall oldClose newCall newClose, after := some st }) :
    ∃ t : State, exec .reviseGrant s = .next t ∧ SegmentGranted s t i { s.segs.get i with state := st }
      (.segment i.val
        (.write swap (s.segs.get i).profile (s.segs.get i).armedDay (s.segs.get i).defn
          ((s.segs.get i).armed.map fun a => { a with callAt := ⟨newCall, false⟩, closeAt := ⟨newClose, false⟩ })
          (some (oldCall, oldClose))) (some port) (s.arb.seq + 1)) .revise none none := by
  have hexec : exec .reviseGrant s = execReviseGrant s := rfl
  unfold execReviseGrant at hexec
  simp only [presented_eq_some_iff.2 h] at hexec
  exact ⟨_, hexec, report_granted s s.drawIndex i _ rfl _ _ _⟩

theorem exec_disarmGrant {swap port day armed}
    (h : segmentTurn s { seg := i, kind := .disarm swap port day armed, after := some st }) :
    ∃ t : State, exec .disarmGrant s = .next t ∧ SegmentGranted s t i { s.segs.get i with state := st }
      (.segment i.val (.write swap (s.segs.get i).profile day none armed none) (some port) (s.arb.seq + 1)) .disarm none none := by
  have hexec : exec .disarmGrant s = execDisarmGrant s := rfl
  unfold execDisarmGrant at hexec
  simp only [presented_eq_some_iff.2 h] at hexec
  exact ⟨_, hexec, report_granted s s.drawIndex i _ rfl _ _ _⟩

theorem exec_missedGrant {day openXt} (h : segmentTurn s { seg := i, kind := .missed day openXt, after := some st }) :
    ∃ t : State, exec .missedGrant s = .next t ∧ SegmentGranted s t i { s.segs.get i with state := st }
      (.segment i.val (.missed day openXt) none (s.arb.seq + 1)) .missed none none := by
  have hexec : exec .missedGrant s = execMissedGrant s := rfl
  unfold execMissedGrant at hexec
  simp only [presented_eq_some_iff.2 h] at hexec
  exact ⟨_, hexec, report_granted s s.drawIndex i _ rfl _ _ _⟩

/-! ## OPEN, CALL and DRAW -/

theorem exec_openGrant (h : segmentTurn s { seg := i, kind := .opening, after := some st }) :
    ∃ t : State, exec .openGrant s = .next t ∧ SegmentGranted s t i
      { s.segs.get i with
        state := st
        cycle := ((s.segs.get i).cycle + 1) % 4294967296
        closeRec := none
        lastOpen := s.arb.seq + 1 }
      (.segment i.val (.opened (((s.segs.get i).cycle + 1) % 4294967296) (s.segs.get i).armedDay (s.segs.get i).armed) none
        (s.arb.seq + 1)) .opened none none := by
  have hexec : exec .openGrant s = execOpenGrant s := rfl
  unfold execOpenGrant at hexec
  simp only [presented_eq_some_iff.2 h] at hexec
  exact ⟨_, hexec, report_granted s s.drawIndex i _ rfl _ _ _⟩

theorem closeXt_eq {g : Segment} {a : ArmedInstants} (h : g.armed = some a) : g.closeXt = a.closeAt.xt := by
  rw [Segment.closeXt, h]

theorem exec_callGrant {a : ArmedInstants} (ha : (s.segs.get i).armed = some a)
    (h : segmentTurn s { seg := i, kind := .call, after := some st }) :
    ∃ t : State, exec .callGrant s = .next t ∧ SegmentGranted s t i { s.segs.get i with state := st, lastCall := s.arb.seq + 1 }
      (.segment i.val (.call (s.segs.get i).cycle a.closeAt.xt) none (s.arb.seq + 1)) .call none none := by
  have hexec : exec .callGrant s = execCallGrant s := rfl
  unfold execCallGrant at hexec
  simp only [presented_eq_some_iff.2 h, closeXt_eq ha] at hexec
  exact ⟨_, hexec, report_granted s s.drawIndex i _ rfl _ _ _⟩

/-- The draw lies within its window (R100). -/
theorem draw_lt {raw : BitVec 32} {w : Nat} (hw : 0 < w) : raw.toNat * w / 4294967296 < w := by
  rw [Nat.div_lt_iff_lt_mul (by norm_num), Nat.mul_comm]
  exact Nat.mul_lt_mul_of_pos_left raw.isLt hw

theorem exec_drawGrant {a : ArmedInstants} {w r : Nat} (ha : (s.segs.get i).armed = some a)
    (hw : (s.profiles.get (s.segs.get i).profile).window = w) (hr : (Config.randomDraw s.drawIndex).toNat * w / 4294967296 = r)
    (h : segmentTurn s { seg := i, kind := .draw, after := some st }) :
    ∃ t : State, exec .drawGrant s = .next t ∧ t.drawIndex = s.drawIndex + 1 ∧ SegmentGranted s t i
      { s.segs.get i with
        state := st
        drawn := some { closeXt := a.closeAt.xt + ((r * 1000 : Nat) : Int), r := r, raw := Config.randomDraw s.drawIndex } }
      (.draw i (s.segs.get i).cycle w a.closeAt.xt (s.arb.seq + 1)) .random none none := by
  have hexec : exec .drawGrant s = execDrawGrant s := rfl
  unfold execDrawGrant at hexec
  simp only [presented_eq_some_iff.2 h, closeXt_eq ha] at hexec
  subst hw hr
  exact ⟨_, hexec, State.report_frame _ _ _ _ _ _ .drawIndex (by decide), report_granted s (s.drawIndex + 1) i _ rfl _ _ _⟩

end Grants

/-- Settles O38: the four grants that take the state recorded at the commit. -/
theorem armingGrantsTakeTheRecordedState : Obligations.ArmingGrantsTakeTheRecordedState := by
  intro s i st g n frame
  have hframe {c : Instr} {P : State → Prop} (hc : Instr.touches c = [.arb, .segs, .commits, .outputs, .trail, .ports])
      (h : ∃ t : State, exec c s = .next t ∧ P t) : ∃ t : State, exec c s = .next t ∧ frame t ∧ P t :=
    h.imp fun _ ⟨hexec, hp⟩ => ⟨hexec, exec_differs hexec hc, hp⟩
  exact ⟨fun _ _ _ _ h => hframe rfl (exec_armGrant h), fun _ _ _ _ _ _ h => hframe rfl (exec_reviseGrant h),
    fun _ _ _ _ h => hframe rfl (exec_disarmGrant h), fun _ _ h => hframe rfl (exec_missedGrant h)⟩

/-- Settles O39: OPEN, CALL and DRAW, the draw formed in the profile's window. -/
theorem cycleGrantsOpenCallAndDraw : Obligations.CycleGrantsOpenCallAndDraw := by
  intro s i st g n
  refine ⟨fun h => ?_, fun a ha => ⟨fun h => ?_, ?_⟩⟩
  · obtain ⟨t, hexec, hgranted⟩ := exec_openGrant h
    exact ⟨t, hexec, exec_differs hexec, hgranted⟩
  · obtain ⟨t, hexec, hgranted⟩ := exec_callGrant ha h
    exact ⟨t, hexec, exec_differs hexec, hgranted⟩
  · intro h raw w r
    obtain ⟨t, hexec, hindex, hgranted⟩ := exec_drawGrant ha (w := w) (r := r) rfl rfl h
    exact ⟨t, hexec, hindex, fun hw => by simp [r, hw], draw_lt, exec_differs hexec, hgranted⟩

end Sys2Proof
end


section
/-! PROOFS. The grants that end a cycle or carry it back to its call (R102, R103, R107, R108, R110). -/

-- One proof after another: proofs elaborated side by side each hold a thread, more of them than the check has memory for.
set_option Elab.async false

namespace Sys2Proof

open Machine

/-! ## The next cycle (R103, step 4) -/

/-- What `rearm` finds when the days from `first` to the `k` days before the one it looks at have been passed over. -/
def RearmFound (u : LeapUnit) (d : Definition) (now : Ns) (first k n : Nat) (found : Option (Nat × ArmedInstants) × Nat × Nat) : Prop :=
  k ≤ found.2.2 ∧ (∀ j : Nat, k ≤ j → j < found.2.2 → ∃ a : ArmedInstants, u.arm (first + j) d = some a ∧ a.openAt.xt ≤ now) ∧
    (∀ day a, found.1 = some (day, a) → day = first + found.2.2 ∧ u.arm day d = some a ∧ now < a.openAt.xt ∧
      found.2.1 + found.2.2 + 1 = k + n) ∧
    (found.1 = none → found.2.1 = 0 ∧ found.2.2 ≤ k + n ∧ (found.2.2 = k + n ∨ u.arm (first + found.2.2) d = none))

theorem rearm_found (u : LeapUnit) (d : Definition) (now : Ns) (first : Nat) :
    ∀ n k : Nat, RearmFound u d now first k n (u.rearm d now n (first + k) k)
  | 0, k => ⟨le_refl k, fun j h1 h2 => absurd h2 (not_lt.2 h1), by simp [LeapUnit.rearm], fun _ => ⟨rfl, le_refl k, .inl rfl⟩⟩
  | n + 1, k => by
    cases harm : u.arm (first + k) d with
    | none =>
      rw [LeapUnit.rearm, harm]
      exact ⟨le_refl k, fun j h1 h2 => absurd h2 (not_lt.2 h1), by simp, fun _ => ⟨rfl, Nat.le_add_right k _, .inr harm⟩⟩
    | some a =>
      by_cases hpassed : a.openAt.xt ≤ now
      · have hnext : u.rearm d now (n + 1) (first + k) k = u.rearm d now n (first + (k + 1)) (k + 1) := by
          rw [LeapUnit.rearm, harm]
          exact if_pos hpassed
        obtain ⟨hle, hskipped, hsome, hnone⟩ := rearm_found u d now first n (k + 1)
        rw [hnext]
        refine ⟨by omega, fun j h1 h2 => ?_, fun day b hb => ?_, fun hb => ?_⟩
        · rcases Nat.eq_or_lt_of_le h1 with rfl | h
          · exact ⟨a, harm, hpassed⟩
          · exact hskipped j h h2
        · obtain ⟨hday, harmed, hahead, hcount⟩ := hsome day b hb
          exact ⟨hday, harmed, hahead, by omega⟩
        · obtain ⟨hleft, hmost, hend⟩ := hnone hb
          exact ⟨hleft, by omega, hend.imp_left fun h => by omega⟩
      · have hnext : u.rearm d now (n + 1) (first + k) k = (some (first + k, a), n, k) := by
          rw [LeapUnit.rearm, harm]
          exact if_neg hpassed
        rw [hnext]
        refine ⟨le_refl k, fun j h1 h2 => absurd h2 (not_lt.2 h1), fun day b hb => ?_, by simp⟩
        cases hb
        exact ⟨rfl, harm, not_le.1 hpassed, Nat.add_left_comm n k 1 ▸ rfl⟩

theorem nextCycle (s : State) (d : Definition) (day : Nat) {found : Option (Nat × ArmedInstants) × Nat × Nat}
    (h : s.leap.rearm d s.now d.repeats.toNat (day + 1) 0 = found) : NextCycle s d day found.1 found.2.1 found.2.2 := by
  obtain ⟨-, hskipped, hsome, hnone⟩ := h ▸ rearm_found s.leap d s.now (day + 1) d.repeats.toNat 0
  rw [Nat.zero_add] at hsome hnone
  refine ⟨fun j hj => hskipped j (Nat.zero_le j) hj, ?_⟩
  cases hf : found.1 with
  | none => exact hnone hf
  | some x => exact hsome x.1 x.2 hf

/-! ## The end of a cycle (R103) -/

theorem nextDay_grantHead {s : State} {g : Segment} {d : Definition} {day : Nat} (hdefn : g.defn = some d) (hday : g.armedDay = some day) :
    s.grantHead.nextDay g = s.leap.rearm d s.now d.repeats.toNat (day + 1) 0 := by
  unfold State.nextDay
  rw [hdefn, hday]
  rfl

theorem SegmentGranted.of_eq {s t : State} {i : SegId} {g g' : Segment} {entry : TrailBody} {event : SegEventCode}
    {newClose : Option Ns} {closed : Option CloseRecord} (h : SegmentGranted s t i g entry event newClose closed) (hg : g' = g) :
    SegmentGranted s t i g' entry event newClose closed := hg ▸ h

theorem endCycle_eq {g : Segment} {d : Definition} (hdefn : g.defn = some d) (r : CloseRecord)
    (next : Option (Nat × ArmedInstants) × Nat × Nat) : g.endCycle r next =
      { g with
        state := .closed
        closeRec := some r
        lastClose := r.closeSeq
        extensions := 0
        drawn := none
        armedDay := next.1.map Prod.fst
        armed := next.1.map Prod.snd
        defn := some { d with repeats := BitVec.ofNat 8 next.2.1 } } := by
  rw [Segment.endCycle, hdefn]
  rfl

/-- The grant that ends a cycle, its segment's committed state as it stands. -/
theorem endCycle_ended (s : State) (i : SegId) (outcome : CloseOutcome) (closeXt : Ns) (draw : Option Draw) (voided : Bool)
    (port : Option Port) (event : SegEventCode) :
    CycleEnded s (s.grantHead.endCycle i outcome closeXt draw voided port event) i (s.segs.get i).committed outcome closeXt
      (if outcome = .drawn then draw.map Draw.r else none) draw voided port event := by
  intro d day hdefn hday
  have hnext := nextDay_grantHead (s := s) hdefn hday
  generalize hfound : s.leap.rearm d s.now d.repeats.toNat (day + 1) 0 = found at hnext
  refine ⟨found.1, found.2.1, found.2.2, nextCycle s d day hfound, ?_⟩
  have hgranted := report_granted s s.drawIndex i
    ((s.segs.get i).endCycle (s.grantHead.closeRecord (s.segs.get i) outcome closeXt (if outcome = .drawn then draw.map Draw.r else none)) found)
    (entry := .close
      { seg := i
        outcome := outcome
        traceable := s.steer.traceable
        draw := draw
        voided := voided
        port := port
        stateBefore := (s.segs.get i).state
        skipped := found.2.2
        cycle := (s.segs.get i).cycle
        dayArmed := found.1.map Prod.fst
        window := (s.profiles.get (s.segs.get i).profile).window
        bound := s.steer.bound
        closeXt := closeXt
        grantXt := s.now
        eventSeq := s.arb.seq + 1 }) rfl event
    (some (s.grantHead.closeRecord (s.segs.get i) outcome closeXt (if outcome = .drawn then draw.map Draw.r else none))) none
  rw [← hnext] at hgranted ⊢
  exact SegmentGranted.of_eq hgranted (endCycle_eq hdefn (s.grantHead.closeRecord (s.segs.get i) outcome closeXt
    (if outcome = .drawn then draw.map Draw.r else none)) (s.grantHead.nextDay (s.segs.get i))).symm

/-! ## END (R102) -/

/-- Which committed state a segment has is read by no line (R129). -/
theorem someSegmentRaises_committed (t : State) (i : SegId) (c : Committed) (l : Line) :
    someSegmentRaises (t.withSeg i { t.segs.get i with committed := c }) l ↔ someSegmentRaises t l := by
  refine exists_congr fun j => ?_
  by_cases hj : j = i
  · subst hj
    rw [t.withSeg_get_same]
  · rw [t.withSeg_get_ne _ hj]

/-- A granted event whose segment gets another committed state after its report. -/
theorem SegmentGranted.withCommitted {s t : State} {i : SegId} {g : Segment} {entry : TrailBody} {event : SegEventCode}
    {newClose : Option Ns} {closed : Option CloseRecord} (h : SegmentGranted s t i g entry event newClose closed) (c : Committed) :
    SegmentGranted s (t.withSeg i { t.segs.get i with committed := c }) i { g with committed := c } entry event newClose closed := by
  obtain ⟨harb, hcommits, hget, hother, htrail, hports, hlines⟩ := h
  refine ⟨harb, hcommits, ?_, fun j hj => ?_, htrail, hports, fun l => ?_⟩
  · rw [t.withSeg_get_same, hget]
  · rw [t.withSeg_get_ne _ hj]
    exact hother j hj
  · obtain ⟨high, hraises, hline⟩ := hlines l
    exact ⟨high, hraises.trans (someSegmentRaises_committed t i c l).symm, hline⟩

theorem CycleEnded.withCommitted {s t : State} {i : SegId} {c₀ : Committed} {outcome : CloseOutcome} {closeXt : Ns} {r : Option Nat}
    {draw : Option Draw} {voided : Bool} {port : Option Port} {event : SegEventCode}
    (h : CycleEnded s t i c₀ outcome closeXt r draw voided port event) (c : Committed) :
    CycleEnded s (t.withSeg i { t.segs.get i with committed := c }) i c outcome closeXt r draw voided port event := by
  intro d day hdefn hday
  obtain ⟨next, left, skipped, hnext, hgranted⟩ := h d day hdefn hday
  exact ⟨next, left, skipped, hnext, SegmentGranted.withCommitted hgranted c⟩

section End
variable {s : State} {i : SegId} {after : Option SegState} {d : Definition} {draw : Draw}

theorem exec_endGrant_closes (h : segmentTurn s { seg := i, kind := .ending, after := after }) (hdefn : (s.segs.get i).defn = some d)
    (hdraw : (s.segs.get i).drawn = some draw) (hyes : s.steer.traceable = true ∨ d.hold = false) :
    ∃ t : State, exec .endGrant s = .next t ∧
      CycleEnded s t i (.settled .closed) .drawn draw.closeXt (some draw.r) (some draw) false none .close := by
  have hcond : (s.steer.traceable || !d.hold) = true := by simpa using hyes
  replace hcond : (s.grantHead.steer.traceable || !d.hold) = true := hcond
  have hexec : exec .endGrant s = execEndGrant s := rfl
  have hdefn' : (s.grantHead.segs.get i).defn = some d := hdefn
  have hdraw' : (s.grantHead.segs.get i).drawn = some draw := hdraw
  unfold execEndGrant at hexec
  simp only [presented_eq_some_iff.2 h, hdefn', hdraw', if_pos hcond] at hexec
  exact ⟨_, hexec, CycleEnded.withCommitted (endCycle_ended s i .drawn draw.closeXt (some draw) false none .close) (.settled .closed)⟩

theorem exec_endGrant_suspends (h : segmentTurn s { seg := i, kind := .ending, after := after }) (hdefn : (s.segs.get i).defn = some d)
    (hdraw : (s.segs.get i).drawn = some draw) (hflag : s.steer.traceable = false) (hhold : d.hold = true) :
    ∃ t : State, exec .endGrant s = .next t ∧ SegmentGranted s t i
      { s.segs.get i with state := .suspended, committed := .settled .suspended, drawn := none }
      (.segment i.val (.suspend (s.segs.get i).cycle (s.profiles.get (s.segs.get i).profile).window (some draw) false s.steer.bound)
        none (s.arb.seq + 1)) .suspend none none := by
  have hcond : ¬ (s.steer.traceable || !d.hold) = true := by simp [hflag, hhold]
  replace hcond : ¬ (s.grantHead.steer.traceable || !d.hold) = true := hcond
  have hexec : exec .endGrant s = execEndGrant s := rfl
  have hdefn' : (s.grantHead.segs.get i).defn = some d := hdefn
  unfold execEndGrant at hexec
  simp only [presented_eq_some_iff.2 h, hdefn', if_neg hcond] at hexec
  have hentry : TrailBody.segment i.val (.suspend (s.segs.get i).cycle (s.profiles.get (s.segs.get i).profile).window (some draw) false
      s.steer.bound) none (s.arb.seq + 1) = .segment i.val (.suspend (s.segs.get i).cycle
        (s.profiles.get (s.segs.get i).profile).window (s.segs.get i).drawn s.steer.traceable s.steer.bound) none (s.arb.seq + 1) := by
    rw [hdraw, hflag]
  have hrecord : ({ s.segs.get i with state := .suspended, committed := .settled .suspended, drawn := none } : Segment) =
      { s.segs.get i with state := .suspended, committed := .settled .suspended, drawn := none, defn := some d } := by
    rw [← hdefn]
  refine ⟨_, hexec, ?_⟩
  rw [hentry]
  exact SegmentGranted.of_eq (report_granted s s.drawIndex i _ rfl _ _ _) hrecord

end End

/-- Settles O40: by the traceable flag and hold-on-untraceable. -/
theorem endGrantClosesOrSuspends : Obligations.EndGrantClosesOrSuspends := by
  intro s i after d draw g h hdefn hdraw
  refine ⟨fun hyes => ?_, fun hflag hhold => ?_⟩
  · obtain ⟨t, hexec, hended⟩ := exec_endGrant_closes h hdefn hdraw hyes
    exact ⟨t, hexec, exec_differs hexec, hended⟩
  · obtain ⟨t, hexec, hgranted⟩ := exec_endGrant_suspends h hdefn hdraw hflag hhold
    exact ⟨t, hexec, exec_differs hexec, hgranted⟩

/-! ## EXTEND, RELEASE and HALT (R107, R108, R110) -/

section Carry
variable {s : State} {i : SegId} {port : Port}

theorem exec_extendGrant {st : SegState} {a : ArmedInstants} (ha : (s.segs.get i).armed = some a)
    (h : segmentTurn s { seg := i, kind := .extend port, after := some st }) :
    ∃ t : State, exec .extendGrant s = .next t ∧ SegmentGranted s t i
      { s.segs.get i with
        state := st
        armed := some { a with closeAt :=
          { xt := s.now + (((s.profiles.get (s.segs.get i).profile).extLength * 1000000000 : Nat) : Int), taken := false } }
        extensions := (s.segs.get i).extensions + 1
        drawn := if (s.segs.get i).state = .random then none else (s.segs.get i).drawn }
      (.extend i (s.segs.get i).cycle ((s.segs.get i).extensions + 1)
        (s.now + (((s.profiles.get (s.segs.get i).profile).extLength * 1000000000 : Nat) : Int)) (s.arb.seq + 1) port
        (if (s.segs.get i).state = .random then (s.segs.get i).drawn else none))
      .extend (some (s.now + (((s.profiles.get (s.segs.get i).profile).extLength * 1000000000 : Nat) : Int))) none := by
  have hexec : exec .extendGrant s = execExtendGrant s := rfl
  unfold execExtendGrant at hexec
  simp only [presented_eq_some_iff.2 h, ha] at hexec
  exact ⟨_, hexec, report_granted s s.drawIndex i _ rfl _ _ _⟩

theorem exec_releaseGrant {after : Option SegState} (h : segmentTurn s { seg := i, kind := .release port, after := after }) :
    ∃ t : State, exec .releaseGrant s = .next t ∧
      CycleEnded s t i (s.segs.get i).committed .released s.now none none false (some port) .close := by
  have hexec : exec .releaseGrant s = execReleaseGrant s := rfl
  unfold execReleaseGrant at hexec
  simp only [presented_eq_some_iff.2 h] at hexec
  exact ⟨_, hexec, endCycle_ended s i .released s.now none false (some port) .close⟩

theorem exec_haltGrant {after : Option SegState} (h : segmentTurn s { seg := i, kind := .halt port, after := after }) :
    ∃ t : State, exec .haltGrant s = .next t ∧ CycleEnded s t i (s.segs.get i).committed .halted s.now none
      (if (s.segs.get i).state = .random then (s.segs.get i).drawn else none) true (some port) .halt := by
  have hexec : exec .haltGrant s = execHaltGrant s := rfl
  unfold execHaltGrant at hexec
  simp only [presented_eq_some_iff.2 h] at hexec
  exact ⟨_, hexec, endCycle_ended s i .halted s.now _ true (some port) .halt⟩

end Carry

/-- Settles O41: EXTEND, and the two grants that end a cycle at XT now. -/
theorem extendReleaseAndHaltGrants : Obligations.ExtendReleaseAndHaltGrants := by
  intro s i port st g n
  refine ⟨fun a ha h => ?_, fun after h => ?_, fun after h => ?_⟩
  · obtain ⟨t, hexec, hgranted⟩ := exec_extendGrant ha h
    exact ⟨t, hexec, exec_differs hexec, hgranted⟩
  · obtain ⟨t, hexec, hended⟩ := exec_releaseGrant h
    exact ⟨t, hexec, exec_differs hexec, hended⟩
  · obtain ⟨t, hexec, hended⟩ := exec_haltGrant h
    exact ⟨t, hexec, exec_differs hexec, hended⟩

end Sys2Proof
end


section
/-! PROOFS. STATUS notices in a row (R38, R157), the entries of a leap's instants (R64), and the correction of the UTC offset (R72, R73). -/

-- One proof after another: proofs elaborated side by side each hold a thread, more of them than the check has memory for.
set_option Elab.async false

namespace Sys2Proof

open Machine

/-! ## Entries in a row (R132) -/

theorem wroteAll_append {w : Writing} {t u v : TrailUnit} : ∀ {as bs : List TrailBody}, WroteAll w as t u → WroteAll w bs u v →
    WroteAll w (as ++ bs) t v
  | [], _, ha, hb => by
    cases ha
    exact hb
  | _ :: _, _, ⟨x, hx, ha⟩, hb => ⟨x, hx, wroteAll_append ha hb⟩

theorem wroteAll_one {w : Writing} {t u : TrailUnit} {b : TrailBody} (h : TrailUnit.Wrote t u b w) : WroteAll w [b] t u := ⟨u, h, rfl⟩

/-! ## A STATUS notice reaches a port (R157, R158) -/

section Notify
variable {pc : PortCtl} {b : StatusBody}

theorem notifyStatus_requests : (pc.notifyStatus b).requests = pc.requests := by
  unfold PortCtl.notifyStatus
  split_ifs <;> rfl

theorem notifyStatus_service : (pc.notifyStatus b).service = pc.service := by
  unfold PortCtl.notifyStatus
  split_ifs <;> rfl

theorem notifyStatus_up : (pc.notifyStatus b).up = pc.up := by
  unfold PortCtl.notifyStatus
  split_ifs <;> rfl

theorem notifyStatus_statusSub : (pc.notifyStatus b).statusSub = pc.statusSub := by
  unfold PortCtl.notifyStatus
  split_ifs <;> rfl

theorem notifyStatus_length : (pc.notifyStatus b).responses.length ≤ pc.responses.length + 1 := by
  unfold PortCtl.notifyStatus
  split_ifs
  · exact Nat.le_succ _
  · rw [PortCtl.enqueue, List.length_append, List.length_singleton]
  · exact Nat.le_succ _

theorem notifyStatus_mem {r : Record} (h : r ∈ pc.responses) : r ∈ (pc.notifyStatus b).responses := by
  unfold PortCtl.notifyStatus
  split_ifs
  · exact h
  · exact List.mem_append_left _ h
  · exact h

theorem notifyStatus_pendStatus (h : pc.pendStatus ≠ none) : (pc.notifyStatus b).pendStatus ≠ none := by
  unfold PortCtl.notifyStatus
  split_ifs
  · exact h
  · exact h
  · simp

/-- A port that has the notice of a cause keeps it through another. -/
theorem hasStatus_notifyStatus {c : StatusCause} (h : hasStatus c pc) : hasStatus c (pc.notifyStatus b) := by
  intro hup hsub
  rw [notifyStatus_up] at hup
  rw [notifyStatus_statusSub] at hsub
  exact (h hup hsub).imp notifyStatus_pendStatus fun ⟨body, hmem, hc⟩ => ⟨body, notifyStatus_mem hmem, hc⟩

theorem hasStatus_of_notified {c : StatusCause} (h : b.cause = some c) : hasStatus c (pc.notifyStatus b) := by
  intro hup hsub
  rw [notifyStatus_up] at hup
  rw [notifyStatus_statusSub] at hsub
  rw [notifyStatus_of_heard b hup hsub]
  split_ifs
  · exact .inr ⟨b, List.mem_append_right _ (List.mem_singleton.2 rfl), h⟩
  · exact .inl (by simp)

end Notify

/-- An answer leaves a port's notices. -/
theorem hasStatus_answered {c : StatusCause} {pc : PortCtl} {r : Record} (h : hasStatus c pc) : hasStatus c (pc.answered r) := by
  unfold PortCtl.answered
  split_ifs
  · exact fun hup hsub => (h hup hsub).imp_right fun ⟨body, hmem, hc⟩ => ⟨body, List.mem_append_left _ hmem, hc⟩
  · exact h

/-! ## Notices in a row -/

/-- From `s` to `t`, STATUS notices of these causes have been raised one after another. -/
def Noticed (cs : List StatusCause) (s t : State) : Prop :=
  t.lastCause = cs.getLast?.or s.lastCause ∧ (cs = [] → t.statusBody 1 = s.statusBody 1) ∧
    ∃ bodies : List StatusBody, bodies.map StatusBody.cause = cs.map some ∧ (∀ b, bodies.getLast? = some b → b = t.statusBody 1) ∧
      ∀ p : Port, t.port p = bodies.foldl PortCtl.notifyStatus (s.port p)

theorem noticed_nil (s : State) : Noticed [] s s := ⟨rfl, fun _ => rfl, [], rfl, by simp, fun _ => rfl⟩

theorem noticed_of_toldStatus {s t : State} {c : StatusCause} (h : State.toldStatus c s t) : Noticed [c] s t := by
  obtain ⟨hcause, hports⟩ := h
  exact ⟨hcause, by simp, [t.statusBody 1], by simp [State.statusBody, hcause], by simp, hports⟩

section Noticed
variable {cs ds : List StatusCause} {s t u : State}

theorem Noticed.trans (h : Noticed cs s t) (h' : Noticed ds t u) : Noticed (cs ++ ds) s u := by
  obtain ⟨hcause, hkept, bodies, hbodies, hlast, hports⟩ := h
  obtain ⟨hcause', hkept', bodies', hbodies', hlast', hports'⟩ := h'
  refine ⟨?_, fun hnil => ?_, bodies ++ bodies', by rw [List.map_append, List.map_append, hbodies, hbodies'], fun b hb => ?_, fun p => ?_⟩
  · rw [hcause', hcause, List.getLast?_append, Option.or_assoc]
  · obtain ⟨hcs, hds⟩ := List.append_eq_nil_iff.1 hnil
    exact (hkept' hds).trans (hkept hcs)
  · rw [List.getLast?_append, Option.or_eq_some_iff] at hb
    rcases hb with hb | ⟨hnone, hb⟩
    · exact hlast' b hb
    · have hnil : bodies' = [] := List.getLast?_eq_none_iff.1 hnone
      have hds : ds = [] := by simpa [hnil] using hbodies'.symm
      exact (hlast b hb).trans (hkept' hds).symm
  · rw [hports', hports, List.foldl_append]

/-- No notice leaves the ports and the last cause. -/
theorem Noticed.of_nil (h : Noticed [] s t) : t.lastCause = s.lastCause ∧ ∀ p : Port, t.port p = s.port p := by
  obtain ⟨hcause, -, bodies, hbodies, -, hports⟩ := h
  obtain rfl : bodies = [] := by simpa using hbodies
  exact ⟨hcause, hports⟩

/-- One notice has the body of a notice raised now. -/
theorem Noticed.of_one {c : StatusCause} (h : Noticed [c] s t) (p : Port) : t.port p = (s.port p).notifyStatus (t.statusBody 1) := by
  obtain ⟨-, -, bodies, hbodies, hlast, hports⟩ := h
  obtain ⟨b, rfl⟩ := List.length_eq_one_iff.1 (by simpa using congrArg List.length hbodies)
  rw [hports p, ← hlast b rfl]
  rfl

theorem hasStatus_foldl {c : StatusCause} : ∀ {bodies : List StatusBody} {pc : PortCtl},
    (hasStatus c pc ∨ some c ∈ bodies.map StatusBody.cause) → hasStatus c (bodies.foldl PortCtl.notifyStatus pc)
  | [], _, h => h.resolve_right (by simp)
  | b :: bodies, pc, h => by
    refine hasStatus_foldl (bodies := bodies) (pc := pc.notifyStatus b) ?_
    rw [List.map_cons, List.mem_cons] at h
    rcases h with h | h | h
    · exact .inl (hasStatus_notifyStatus h)
    · exact .inl (hasStatus_of_notified h.symm)
    · exact .inr h

theorem Noticed.reaches {c : StatusCause} (h : Noticed cs s t) (hc : c ∈ cs) (p : Port) : hasStatus c (t.port p) := by
  obtain ⟨-, -, bodies, hbodies, -, hports⟩ := h
  rw [hports p]
  exact hasStatus_foldl (.inr (hbodies ▸ List.mem_map_of_mem hc))

theorem foldl_notified : ∀ (bodies : List StatusBody) (pc : PortCtl),
    (bodies.foldl PortCtl.notifyStatus pc).requests = pc.requests ∧ (bodies.foldl PortCtl.notifyStatus pc).service = pc.service ∧
      (bodies.foldl PortCtl.notifyStatus pc).responses.length ≤ pc.responses.length + bodies.length
  | [], _ => ⟨rfl, rfl, le_refl _⟩
  | b :: bodies, pc => by
    obtain ⟨hreq, hserv, hlen⟩ := foldl_notified bodies (pc.notifyStatus b)
    have hmore := notifyStatus_length (pc := pc) (b := b)
    refine ⟨hreq.trans notifyStatus_requests, hserv.trans notifyStatus_service, ?_⟩
    rw [List.foldl_cons, List.length_cons]
    omega

/-- An answer after some notices enters a response queue that has room for all of them. -/
theorem Noticed.answered_enters (h : Noticed cs s t) {p : Port} {r : Record} {n : Nat} (hn : cs.length ≤ n)
    (hroom : (s.port p).responses.length + n < 64) :
    r ∈ ((t.port p).answered r).responses ∧ ((t.port p).answered r).requests = (s.port p).requests.tail ∧
      ((t.port p).answered r).service = .untaken := by
  obtain ⟨-, -, bodies, hbodies, -, hports⟩ := h
  obtain ⟨hreq, -, hlen⟩ := foldl_notified bodies (s.port p)
  have hcount : bodies.length = cs.length := by
    simpa only [List.length_map] using congrArg List.length hbodies
  have hfree : (t.port p).responses.length < 64 := by
    rw [hports p]
    omega
  rw [PortCtl.answered, if_pos hfree]
  refine ⟨List.mem_append_right _ (List.mem_singleton.2 rfl), ?_, rfl⟩
  rw [← hreq, ← hports p]
  rfl

end Noticed

/-! ## The instants of a pending leap (R64) -/

/-- A LEAP report writes its entry and raises its notice. -/
theorem reportLeap_reported (s : State) (e : LeapEntry) :
    TrailUnit.Wrote s.trail (s.reportLeap e).trail (.leap e) s.writing ∧ State.toldStatus (.leap e.cause) s (s.reportLeap e) :=
  ⟨TrailUnit.request_wrote s.trail (.leap e) s.writing rfl, toldStatus_of_same ((s.ask (.leap e)).raiseStatus_toldStatus _)⟩

section Instants
variable {s : State} {q : PendingLeap}

theorem beginLeap_of (h : s.leap.pending = some q) : s.beginLeap =
    (s.withLeap { s.leap with pending := some { q with begun := true } }).reportLeap { LeapEntry.blank .leapBegin with
      leap := some q.leap, source := q.source, offsetBefore := q.lOff, offsetAfter := q.lOff, t := q.t } := by
  rw [State.beginLeap, h]

theorem result_eq : q.result = if q.leap.kind = .insert then q.lOff + 1 else q.lOff - 1 := by
  unfold PendingLeap.result
  cases q.leap.kind <;> rfl

theorem executeLeap_of (h : s.leap.pending = some q) : s.executeLeap =
    (s.withLeap { s.leap with
      offset := q.result
      pending := none
      store := if s.leap.store.map Leap.day = some q.leap.day then none else s.leap.store }).reportLeap
    { LeapEntry.blank .executed with
      leap := some q.leap, source := q.source, offsetBefore := q.lOff, offsetAfter := q.result, t := q.t } := by
  rw [State.executeLeap, h]

theorem beginDue_iff (h : s.leap.pending = some q) (x : Ns) : s.leap.beginDue x = true ↔
    q.leap.kind = .insert ∧ q.begun = false ∧ q.t ≤ x := by
  simp [LeapUnit.beginDue, h, and_assoc]

theorem executeDue_iff (h : s.leap.pending = some q) (x : Ns) : s.leap.executeDue x = true ↔
    q.leap.kind = .insert ∧ q.begun = true ∧ q.t + 1000000000 ≤ x ∨ q.leap.kind = .delete ∧ q.t ≤ x := by
  have hover : decide (q.t + (secondNs : Int) ≤ x) = true ↔ q.t + 1000000000 ≤ x := decide_eq_true_iff
  cases hk : q.leap.kind <;> simp [LeapUnit.executeDue, h, hk, hover]

/-- LEAP_BEGIN keeps what Table 4-2 reads. -/
theorem begun_reading (h : s.leap.pending = some q) (x : Ns) :
    ({ s.leap with pending := some { q with begun := true } } : LeapUnit).reading x = s.leap.reading x := by
  rw [LeapUnit.reading, LeapUnit.reading, h]

/-- The carrying out of a leap keeps what Table 4-2 reads at and after its instant. -/
theorem executed_reading (h : s.leap.pending = some q) {x : Ns}
    (hx : q.leap.kind = .insert ∧ q.t + 1000000000 ≤ x ∨ q.leap.kind = .delete ∧ q.t ≤ x) :
    ({ s.leap with
      offset := q.result
      pending := none
      store := if s.leap.store.map Leap.day = some q.leap.day then none else s.leap.store } : LeapUnit).reading x =
        s.leap.reading x := by
  have hread := s.executeLeap_reading x q h (by
    rcases hx with ⟨hk, hx⟩ | ⟨hk, hx⟩ <;> simp only [hk] <;> exact hx)
  rw [executeLeap_of h] at hread
  exact hread

/-- A leap record that reads the same now, with its LEAP report. -/
theorem withLeap_reported (u : LeapUnit) (e : LeapEntry) (hread : u.reading s.now = s.leap.reading s.now) :
    ((s.withLeap u).reportLeap e).leap = u ∧ ((s.withLeap u).reportLeap e).writing = s.writing ∧
      TrailUnit.Wrote s.trail ((s.withLeap u).reportLeap e).trail (.leap e) s.writing ∧
      State.toldStatus (.leap e.cause) s ((s.withLeap u).reportLeap e) := by
  have hwriting : (s.withLeap u).writing = s.writing := s.writing_congr rfl rfl hread
  obtain ⟨hwrote, htold⟩ := reportLeap_reported (s.withLeap u) e
  rw [hwriting] at hwrote
  exact ⟨rfl, hwriting, hwrote, toldStatus_of_same htold⟩

end Instants

/-- Settles O23: LEAP_BEGIN and the carrying out, each with its entry and its notice. -/
theorem leapIsBegunAndCarriedOut : Obligations.LeapIsBegunAndCarriedOut := by
  refine ⟨fun s q hq hkind hbegun ht => ?_, fun s q hq hdue => ?_⟩
  · have hexec : exec .leapBegin s = .next s.beginLeap :=
      congrArg Host.Outcome.next (if_pos ((beginDue_iff hq s.now).2 ⟨hkind, hbegun, ht⟩))
    obtain ⟨hleap, -, hwrote, htold⟩ := withLeap_reported _ { LeapEntry.blank .leapBegin with
      leap := some q.leap, source := q.source, offsetBefore := q.lOff, offsetAfter := q.lOff, t := q.t } (begun_reading hq s.now)
    rw [← beginLeap_of hq] at hleap hwrote htold
    refine ⟨_, hexec, hleap, ?_, htold, s.beginLeap_frame⟩
    rw [State.wrote, State.writingTo, hleap, begun_reading hq]
    exact hwrote
  · have hexec : exec .leapExecuted s = .next s.executeLeap :=
      congrArg Host.Outcome.next (if_pos ((executeDue_iff hq s.now).2 hdue))
    have hread := executed_reading hq (x := s.now) (hdue.imp_left fun h => ⟨h.1, h.2.2⟩)
    obtain ⟨hleap, -, hwrote, htold⟩ := withLeap_reported _ { LeapEntry.blank .executed with
      leap := some q.leap, source := q.source, offsetBefore := q.lOff, offsetAfter := q.result, t := q.t } hread
    rw [← executeLeap_of hq] at hleap hwrote htold
    refine ⟨_, hexec, ?_, ?_, htold, s.executeLeap_frame⟩
    · rw [hleap, result_eq]
    · rw [State.wrote, State.writingTo, hleap, hread, ← result_eq]
      exact hwrote

/-- From `s` to `t`, these LEAP entries have been written and their notices raised, at the readings of `s`. -/
def LeapReported (es : List LeapEntry) (s t : State) : Prop :=
  t.writing = s.writing ∧ WroteAll s.writing (es.map TrailBody.leap) s.trail t.trail ∧
    Noticed (es.map fun e => .leap e.cause) s t

section LeapReported
variable {s t u : State} {es fs : List LeapEntry}

theorem leapReported_nil (s : State) : LeapReported [] s s := ⟨rfl, rfl, noticed_nil s⟩

theorem LeapReported.append (h : LeapReported es s t) (h' : LeapReported fs t u) : LeapReported (es ++ fs) s u := by
  obtain ⟨hw, ht, hn⟩ := h
  obtain ⟨hw', ht', hn'⟩ := h'
  rw [LeapReported, List.map_append, List.map_append]
  exact ⟨hw'.trans hw, wroteAll_append ht (hw ▸ ht'), hn.trans hn'⟩

theorem withLeap_leapReported (v : LeapUnit) (e : LeapEntry) (hread : v.reading s.now = s.leap.reading s.now) :
    LeapReported [e] s ((s.withLeap v).reportLeap e) := by
  obtain ⟨-, hwriting, hwrote, htold⟩ := withLeap_reported v e hread
  exact ⟨hwriting, wroteAll_one hwrote, noticed_of_toldStatus htold⟩

end LeapReported

/-- A pending leap whose carrying out has come, as R64 gives it. -/
abbrev carriedOut (q : PendingLeap) (now : Ns) : Prop :=
  q.leap.kind = .insert ∧ q.t + 1000000000 ≤ now ∨ q.leap.kind = .delete ∧ q.t ≤ now

theorem executeStage {u : State} {q : PendingLeap} (hq : u.leap.pending = some q)
    (hbegun : q.leap.kind = .insert → q.t + 1000000000 ≤ u.now → q.begun = true) {t : State}
    (ht : t = if u.leap.executeDue u.now then u.executeLeap else u) :
    LeapReported (if carriedOut q u.now then [{ LeapEntry.blank .executed with
      leap := some q.leap, source := q.source, offsetBefore := q.lOff,
      offsetAfter := if q.leap.kind = .insert then q.lOff + 1 else q.lOff - 1, t := q.t }] else []) u t ∧
    t.leap = if carriedOut q u.now then { u.leap with
      offset := if q.leap.kind = .insert then q.lOff + 1 else q.lOff - 1
      pending := none
      store := if u.leap.store.map Leap.day = some q.leap.day then none else u.leap.store } else u.leap := by
  have hdue : u.leap.executeDue u.now = true ↔ carriedOut q u.now := by
    rw [executeDue_iff hq]
    exact or_congr_left ⟨fun h => ⟨h.1, h.2.2⟩, fun h => ⟨h.1, hbegun h.1 h.2, h.2⟩⟩
  subst ht
  by_cases h : carriedOut q u.now
  · rw [if_pos h, if_pos h, if_pos (hdue.2 h), executeLeap_of hq, ← result_eq]
    exact ⟨withLeap_leapReported _ _ (executed_reading hq h), rfl⟩
  · rw [if_neg h, if_neg h, if_neg (mt hdue.1 h)]
    exact ⟨leapReported_nil u, rfl⟩

/-- The Leap Unit acts for every instant that XT has reached. -/
theorem actOnLeap_reported (s : State) :
    LeapReported (leapEntriesAt s.leap s.now) s s.actOnLeap ∧ s.actOnLeap.leap = leapActed s.leap s.now := by
  cases hq : s.leap.pending with
  | none =>
    have hidle : s.actOnLeap = s := by simp [State.actOnLeap, LeapUnit.beginDue, LeapUnit.executeDue, hq]
    simp only [hidle, leapEntriesAt, leapActed, hq]
    exact ⟨leapReported_nil s, trivial⟩
  | some q =>
    by_cases hdue : q.leap.kind = .insert ∧ q.begun = false ∧ q.t ≤ s.now
    · have hbegun : (if s.leap.beginDue s.now then s.beginLeap else s) = s.beginLeap := if_pos ((beginDue_iff hq s.now).2 hdue)
      have hfirst := withLeap_leapReported _ { LeapEntry.blank .leapBegin with
        leap := some q.leap, source := q.source, offsetBefore := q.lOff, offsetAfter := q.lOff, t := q.t } (begun_reading hq s.now)
      rw [← beginLeap_of hq] at hfirst
      have hpending : s.beginLeap.leap.pending = some { q with begun := true } := by rw [beginLeap_of hq]; rfl
      have hnow : s.beginLeap.now = s.now := by rw [beginLeap_of hq]; rfl
      obtain ⟨hsecond, hleap⟩ := executeStage (t := s.actOnLeap) hpending (fun _ _ => rfl) (by rw [State.actOnLeap, hbegun])
      rw [hnow] at hsecond hleap
      simp only [leapEntriesAt, leapActed, hq]
      rw [if_pos hdue]
      refine ⟨hfirst.append hsecond, hleap.trans ?_⟩
      rw [beginLeap_of hq, if_pos (⟨hdue.1, hdue.2.2⟩ : q.leap.kind = .insert ∧ q.t ≤ s.now)]
      rfl
    · have hidle : (if s.leap.beginDue s.now then s.beginLeap else s) = s := if_neg (mt (beginDue_iff hq s.now).1 hdue)
      have hbegun (hkind : q.leap.kind = .insert) (ht : q.t ≤ s.now) : q.begun = true := by
        by_contra hfalse
        exact hdue ⟨hkind, Bool.eq_false_iff.2 hfalse, ht⟩
      obtain ⟨hsecond, hleap⟩ := executeStage (t := s.actOnLeap) hq
        (fun hkind ht => hbegun hkind (le_trans (Int.le_add_of_nonneg_right (by decide)) ht)) (by rw [State.actOnLeap, hidle])
      simp only [leapEntriesAt, leapActed, hq]
      rw [if_neg hdue, List.nil_append]
      refine ⟨hsecond, hleap.trans ?_⟩
      congr 1
      split_ifs with hkind
      · rw [← hbegun hkind.1 hkind.2, ← hq]
      · rfl

end Sys2Proof
end


section
/-! PROOFS. The correction of the held UTC offset (R72, R73). -/

-- One proof after another: proofs elaborated side by side each hold a thread, more of them than the check has memory for.
set_option Elab.async false

namespace Sys2Proof

open Machine

/-! ## Shifts (R68) -/

theorem movedSegment_eq (threshold : Option Ns) (amount : Int) (g : Segment) : movedSegment threshold amount g = g.shift threshold amount := by
  cases threshold <;> simp [movedSegment, Segment.shift, Instant.shift, shiftNs, atOrAbove]

theorem movedSegment_zero (g : Segment) : movedSegment none 0 g = g := by
  simp [movedSegment]

/-- A new leap record with a shift of the armed instants and a LEAP report. -/
theorem shifted_reported {s t : State} {u : LeapUnit} {threshold : Option Ns} {amount : Int} {e : LeapEntry}
    (ht : t = ((s.withLeap u).shiftSegments threshold amount).reportLeap e) :
    t.leap = u ∧ (∀ i : SegId, t.segs.get i = movedSegment threshold amount (s.segs.get i)) ∧
      TrailUnit.Wrote s.trail t.trail (.leap e) t.writing ∧ State.toldStatus (.leap e.cause) s t := by
  subst ht
  obtain ⟨hwrote, htold⟩ := reportLeap_reported ((s.withLeap u).shiftSegments threshold amount) e
  refine ⟨rfl, fun i => ?_, hwrote, toldStatus_of_same htold⟩
  rw [movedSegment_eq]
  exact State.shiftSegments_get _ _ _ i

/-! ## A corrected offset (R72) -/

/-- The held offset corrected to `x`, with a pending record moved by the change. -/
def offsetMoved (u : LeapUnit) (x : Int) : LeapUnit :=
  if x = u.offset then u else { u with
    offset := x
    pending := u.pending.map fun r =>
      { r with lOff := x, t := r.t + (x - u.offset) * 1000000000, q := r.q + (x - u.offset) * 1000000000 } }

/-- The entry of a corrected offset, if it changes. -/
def offsetEntries (u : LeapUnit) (x : Int) (source : LeapSource) : List LeapEntry :=
  if x = u.offset then [] else
    [{ LeapEntry.blank .offsetCorrected with
      source := source, offsetBefore := u.offset, offsetAfter := x, amount := (x - u.offset) * 1000000000 }]

theorem correctOffset_reported (s : State) (x : Int) (source : LeapSource) :
    (s.correctOffset x source).leap = offsetMoved s.leap x ∧
      (∀ i : SegId, (s.correctOffset x source).segs.get i = movedSegment none ((x - s.leap.offset) * 1000000000) (s.segs.get i)) ∧
      WroteAll (s.correctOffset x source).writing ((offsetEntries s.leap x source).map TrailBody.leap) s.trail
        (s.correctOffset x source).trail ∧
      Noticed ((offsetEntries s.leap x source).map fun e => .leap e.cause) s (s.correctOffset x source) := by
  unfold offsetMoved offsetEntries
  by_cases h : x = s.leap.offset
  · have hsame : s.correctOffset x source = s := if_pos (by rw [h, Int.sub_self])
    rw [hsame, if_pos h, if_pos h]
    refine ⟨rfl, fun i => ?_, rfl, noticed_nil s⟩
    rw [h, Int.sub_self, Int.zero_mul, movedSegment_zero]
  · have hne : x - s.leap.offset ≠ 0 := by omega
    rw [if_neg h, if_neg h]
    obtain ⟨hleap, hsegs, hwrote, htold⟩ := shifted_reported (t := s.correctOffset x source) (if_neg hne)
    exact ⟨hleap, hsegs, wroteAll_one hwrote, noticed_of_toldStatus htold⟩

theorem leapEntriesAt_length (u : LeapUnit) (now : Ns) : (leapEntriesAt u now).length ≤ 2 := by
  unfold leapEntriesAt
  split
  · exact Nat.zero_le 2
  · split_ifs <;> simp

theorem offsetEntries_length (u : LeapUnit) (x : Int) (source : LeapSource) : (offsetEntries u x source).length ≤ 1 := by
  unfold offsetEntries
  split_ifs <;> simp

/-! ## An answer after notices (R154, R157) -/

section Answered
variable {cs : List StatusCause} {s w : State} (h : Noticed cs s w) (p : Port) (tag : Tag) (code : ResultCode) (clamped : Bool)
include h

theorem done_of_noNotice (hcs : cs = []) : (w.done p tag code clamped).lastCause = s.lastCause ∧
    State.answeredBy p (.done tag code clamped) s (w.done p tag code clamped) := by
  subst hcs
  obtain ⟨hcause, hports⟩ := h.of_nil
  obtain ⟨hsame, hother⟩ := w.done_answeredBy p tag code clamped
  exact ⟨hcause, by rw [hsame, hports], fun q hq => by rw [hother q hq, hports]⟩

theorem done_lastCause : (w.done p tag code clamped).lastCause = cs.getLast?.or s.lastCause := h.1

theorem done_of_oneNotice {c : StatusCause} (hcs : cs = [c]) :
    (w.done p tag code clamped).port p =
        ((s.port p).notifyStatus ((w.done p tag code clamped).statusBody 1)).answered (.done tag code clamped) ∧
      ∀ q : Port, q ≠ p → (w.done p tag code clamped).port q = (s.port q).notifyStatus ((w.done p tag code clamped).statusBody 1) := by
  subst hcs
  obtain ⟨hsame, hother⟩ := w.done_answeredBy p tag code clamped
  refine ⟨?_, fun q hq => ?_⟩
  · rw [hsame, h.of_one p]
    rfl
  · rw [hother q hq, h.of_one q]
    rfl

theorem done_hasStatus {c : StatusCause} (hc : c ∈ cs) (q : Port) : hasStatus c ((w.done p tag code clamped).port q) := by
  obtain ⟨hsame, hother⟩ := w.done_answeredBy p tag code clamped
  by_cases hq : q = p
  · subst hq
    rw [hsame]
    exact hasStatus_answered (h.reaches hc q)
  · rw [hother q hq]
    exact h.reaches hc q

theorem done_enters {n : Nat} (hn : cs.length ≤ n) (hroom : (s.port p).responses.length + n < 64) :
    .done tag code clamped ∈ ((w.done p tag code clamped).port p).responses ∧
      ((w.done p tag code clamped).port p).requests = (s.port p).requests.tail ∧
      ((w.done p tag code clamped).port p).service = .untaken := by
  obtain ⟨hsame, -⟩ := w.done_answeredBy p tag code clamped
  rw [hsame]
  exact h.answered_enters hn hroom

end Answered

/-! ## SET_TIMING UTC offset (R73) -/

theorem offsetFits_iff (r : PendingLeap) (x : Int) : offsetFits r.leap.kind x = true ↔
    if r.leap.kind = .insert then x + 1 ≤ 127 else -128 ≤ x - 1 := by
  cases r.leap.kind <;> simp [offsetFits]

theorem offsetRefusal_inLeap {s : State} {x : Int} (h : s.leapNow = .inLeap) : s.offsetRefusal x = some .badState := if_pos h

theorem offsetRefusal_limit {s : State} {x : Int} {r : PendingLeap} (h : s.leapNow ≠ .inLeap) (hr : s.leap.pending = some r)
    (hfits : ¬ offsetFits r.leap.kind x = true) : s.offsetRefusal x = some .limit := by
  rw [State.offsetRefusal, if_neg h, hr]
  exact if_neg hfits

theorem offsetRefusal_none {s : State} {x : Int} (h : s.leapNow ≠ .inLeap)
    (hfits : ∀ r, s.leap.pending = some r → offsetFits r.leap.kind x = true) : s.offsetRefusal x = none := by
  rw [State.offsetRefusal, if_neg h]
  cases hr : s.leap.pending with
  | none => rfl
  | some r => exact if_pos (hfits r hr)

section UtcOffset
variable {p : Port} {tag : Tag} {v : BitVec 64} {s : State}

theorem exec_utcOffset_refused {code : ResultCode} (hserve : s.canServe .timing p tag (timingBody .utcOffset v))
    (h : s.offsetRefusal (itemValue .utcOffset v) = some code) :
    exec (.setTimingUtcOffset p tag v) s = .next (s.done p tag code false) := by
  refine congrArg Host.Outcome.next ((s.takeWith_of_canServe p hserve).trans ?_)
  simp only [h]

theorem exec_utcOffset_accepted (hserve : s.canServe .timing p tag (timingBody .utcOffset v))
    (h : s.offsetRefusal (itemValue .utcOffset v) = none) : exec (.setTimingUtcOffset p tag v) s =
      .next ((((s.ask (itemConfig p .utcOffset s.leap.offset v)).correctOffset (itemValue .utcOffset v) .request).actOnLeap).done p tag
        .ok (itemClamped .utcOffset v)) := by
  refine congrArg Host.Outcome.next ((s.takeWith_of_canServe p hserve).trans ?_)
  simp only [h]
  rfl

end UtcOffset

/-- Settles O26: the refusals, and the CONFIG entry, the correction and the instants reached of an accepted write. -/
theorem utcOffsetIsCorrected : Obligations.UtcOffsetIsCorrected := by
  intro p tag v s hserve c x clamped fits delta moved leaps
  have hfits (r : PendingLeap) : offsetFits r.leap.kind x = true ↔ fits r := offsetFits_iff r x
  refine ⟨fun h => replies_done (exec_utcOffset_refused hserve (offsetRefusal_inLeap h)), fun h ⟨r, hr, hno⟩ =>
    replies_done (exec_utcOffset_refused hserve (offsetRefusal_limit h hr (mt (hfits r).1 hno))), fun h hall => ?_⟩
  have hexec := exec_utcOffset_accepted hserve (offsetRefusal_none h fun r hr => (hfits r).2 (hall r hr))
  have hclamped : itemClamped .utcOffset v = clamped := itemClamped_eq _ _
  rw [hclamped] at hexec
  set a := s.ask (itemConfig p .utcOffset s.leap.offset v)
  have hconfig : TrailUnit.Wrote s.trail a.trail (.config (.item p 48 s.leap.offset x clamped)) s.writing := by
    rw [← hclamped]
    exact TrailUnit.request_wrote _ _ _ rfl
  obtain ⟨hleap, hsegs, hwrote, hnoticed⟩ := correctOffset_reported a x .request
  obtain ⟨⟨hwriting, hwrote', hnoticed'⟩, hacted⟩ := actOnLeap_reported (a.correctOffset x .request)
  have hnow : (a.correctOffset x .request).now = s.now :=
    congrArg (fun c : XtCounter => (c.ns : Int)) (a.correctOffset_frame x .request .xt (by decide))
  have hleaps : leaps = offsetEntries a.leap x .request ++ leapEntriesAt (offsetMoved a.leap x) (a.correctOffset x .request).now := by
    rw [hnow]
    rfl
  rw [hleap] at hacted hwrote' hnoticed'
  have hall : Noticed (leaps.map fun e => .leap e.cause) a (a.correctOffset x .request).actOnLeap := by
    rw [hleaps, List.map_append]
    exact hnoticed.trans hnoticed'
  have hsegs' : (a.correctOffset x .request).actOnLeap.segs = (a.correctOffset x .request).segs := State.actOnLeap_frame _ .segs (by decide)
  refine ⟨_, hexec, ?_, fun i => ?_, ⟨_, hconfig, ?_⟩, fun hnil => ?_, fun e he => ?_, fun e he => ?_, fun e he q => ?_, fun hroom => ?_,
    exec_differs hexec⟩
  · rw [hnow] at hacted
    exact hacted
  · exact (congrArg (fun b : Bank 64 Segment => b.get i) hsegs').trans (hsegs i)
  · rw [hleaps, List.map_append]
    refine wroteAll_append (hwriting ▸ hwrote) (hwriting ▸ hwrote')
  · exact done_of_noNotice hall p tag .ok clamped (by rw [hnil]; rfl)
  · refine (done_lastCause hall p tag .ok clamped).trans ?_
    rw [List.getLast?_map, he]
    rfl
  · exact done_of_oneNotice hall p tag .ok clamped (by rw [he]; rfl)
  · exact done_hasStatus hall p tag .ok clamped (List.mem_map_of_mem he) q
  · refine done_enters hall p tag .ok clamped (n := 3) ?_ hroom
    rw [List.length_map, hleaps, List.length_append]
    have h1 := offsetEntries_length a.leap x .request
    have h2 := leapEntriesAt_length (offsetMoved a.leap x) (a.correctOffset x .request).now
    omega

end Sys2Proof
end


section
/-! PROOFS. The applied step (R10). -/

-- One proof after another: proofs elaborated side by side each hold a thread, more of them than the check has memory for.
set_option Elab.async false

namespace Sys2Proof

open Machine

/-- The state in which an applied step is reported: XT stepped, what is measured against it moved, the step no longer pending. -/
def steppedState (s : State) (st : PendingStep) : State :=
  (s.stepTo st.value).withSteer ((s.stepTo st.value).steer.stepped (s.stepTo st.value).steer.pendingSteps.tail st.origin)

/-- The TIMESCALE entry of an applied step (R38, R42, R45). -/
def stepEntry (s : State) (st : PendingStep) : TrailBody :=
  .timescale s.steer.state s.steer.state st.origin.cause s.steer.bound s.steer.traceable (some (st.value - s.now))

section Stepped
variable {s : State} {st : PendingStep} {rest : List PendingStep}

theorem steppedState_steer (h : s.steer.pendingSteps = st :: rest) : (steppedState s st).steer = { s.steer with
    pendingSteps := rest
    timeSet := s.steer.timeSet || decide (st.origin.cause = .manualStep)
    acqTimer := if s.steer.state = .acquire then s.steer.acqTimer.map (· + 1) else s.steer.acqTimer } := by
  have hsteer : (steppedState s st).steer = s.acqElapsed.stepped s.acqElapsed.pendingSteps.tail st.origin := rfl
  rw [hsteer, acqElapsed_eq, h]
  cases st.origin <;> simp [SteeringUnit.stepped, StepOrigin.cause]

theorem steppedState_now (h : 0 ≤ st.value) : (steppedState s st).now = st.value := Int.toNat_of_nonneg h

theorem exec_stepApplied (h : s.nextStep = some st) : exec .stepApplied s =
    .next (((steppedState s st).ask (stepEntry s st)).actOnLeap.answerStep st.origin) := by
  have hentry : stepEntry s st = .timescale (steppedState s st).steer.state (steppedState s st).steer.state st.origin.cause
      (steppedState s st).steer.bound (steppedState s st).steer.traceable (some (st.value - s.now)) := by
    have hsteer : (steppedState s st).steer = s.acqElapsed.stepped s.acqElapsed.pendingSteps.tail st.origin := rfl
    rw [hsteer, acqElapsed_eq]
    rfl
  rw [hentry]
  have hexec : exec .stepApplied s = execStepApplied s := rfl
  unfold execStepApplied at hexec
  simp only [h] at hexec
  exact hexec

end Stepped

/-! ## The answer to an applied step (R45, R62) -/

section AnswerStep
variable (w : State) {o : StepOrigin} {p : Port}

theorem answerStep_port_of {tag : Tag} (h : o = .manual (some p) tag) :
    (w.answerStep o).port p = (w.port p).answered (.done tag .ok false) := by
  subst h
  exact (w.done_answeredBy p tag .ok false).1

theorem answerStep_port_ne (h : ∀ tag, o ≠ .manual (some p) tag) : (w.answerStep o).port p = w.port p := by
  rcases o with _ | ⟨_ | q, tag⟩
  · rfl
  · rfl
  · exact (w.done_answeredBy q tag .ok false).2 p fun hp => h tag (by rw [hp])

theorem answerStep_writing (o : StepOrigin) : (w.answerStep o).writing = w.writing := by
  have hkeep := State.answerStep_frame w o
  exact w.writing_congr (congrArg (fun x : XtCounter => (x.ns : Int)) (hkeep .xt (by decide)))
    (congrArg Arbiter.seq (hkeep .arb (by decide))) (congrArg (fun u : LeapUnit => u.reading w.now) (hkeep .leap (by decide)))

theorem answerStep_hasStatus {c : StatusCause} (h : hasStatus c (w.port p)) : hasStatus c ((w.answerStep o).port p) := by
  by_cases ho : ∃ tag, o = .manual (some p) tag
  · obtain ⟨tag, ho⟩ := ho
    rw [answerStep_port_of w ho]
    exact hasStatus_answered h
  · rw [answerStep_port_ne w fun tag htag => ho ⟨tag, htag⟩]
    exact h

end AnswerStep

/-- Settles O19: the step moves XT and what is measured against it, and is then reported, acted on and answered. -/
theorem stepIsApplied : Obligations.StepIsApplied := by
  intro s st rest hst hclosed hlow hhigh d cause leaps
  have htaken : s.nextStep = some st := State.nextStep_iff.2 ⟨by rw [hst]; rfl, hclosed, hlow, hhigh⟩
  have hcause : st.origin.cause = cause := by
    cases ho : st.origin <;> simp only [cause, ho] <;> rfl
  have hexec := exec_stepApplied htaken
  set v := steppedState s st with hv
  set a := v.ask (stepEntry s st) with ha
  obtain ⟨⟨hwriting, hwrote, hnoticed⟩, hleap⟩ := actOnLeap_reported a
  have hnow : a.now = st.value := steppedState_now hlow
  have hentry : TrailUnit.Wrote s.trail a.trail (stepEntry s st) v.writing := TrailUnit.request_wrote _ _ _ rfl
  rw [hnow] at hleap hwrote hnoticed
  have hkeep : State.differsIn [.leap, .trail, .ports, .lastCause] a (a.actOnLeap.answerStep st.origin) :=
    (State.actOnLeap_frame a).trans ((State.answerStep_frame _ _).mono (by decide))
  have hport (p : Port) : a.port p = portTicked s.cycles (s.port p) := advance_port s p
  have hrefs (r : RefId) : (a.actOnLeap.answerStep st.origin).refs.get r =
      ((s.refs.get r).displace d (st.value - ((s.xt.advance s.increment).ns : Int))) := by
    rw [hkeep .refs (by decide)]
    exact PerRef.get_map _ _ _
  have ht : (a.actOnLeap.answerStep st.origin).writing = v.writing := (answerStep_writing _ _).trans hwriting
  have hnone (hnil : leaps = []) : a.actOnLeap.lastCause = a.lastCause ∧ ∀ p, a.actOnLeap.port p = a.port p := by
    refine Noticed.of_nil ?_
    rw [← List.map_nil (f := fun e : LeapEntry => StatusCause.leap e.cause), ← hnil]
    exact hnoticed
  refine ⟨_, s.cycles, hexec, ?_, ?_, ?_, fun r => ?_, fun inc hinc hend r => ?_, fun l => ?_, ?_, ?_, ?_,
    fun hnil => ⟨?_, fun p => ⟨fun tag htag => ?_, fun htag => ?_⟩⟩, fun e he => ?_, fun e he p => ?_,
    fun p tag htag hroom => ?_, exec_differs hexec⟩
  · unfold Ticked
    rw [hkeep .tick (by decide)]
    obtain ⟨hle, hpll, hring, htick⟩ := advance_ticked s
    exact ⟨hle, hpll, hring, rfl⟩
  · exact hkeep .xt (by decide)
  · exact hkeep .arb (by decide)
  · rw [hrefs r]
    rfl
  · have hns : (s.xt.advance s.increment).ns = s.xt.ns + (s.xt.frac + inc) / 4294967296 := by
      rw [increment_of_ticksBy hinc]
      exact Nat.mod_eq_of_lt hend
    rw [hrefs r, hns]
    rfl
  · rw [hkeep .outputs (by decide)]
    exact Bank.get_map _ _ _
  · rw [hkeep .steer (by decide), ← hcause]
    exact steppedState_steer hst
  · exact (State.answerStep_frame _ _ .leap (by decide)).trans hleap
  · rw [ht, ← hcause]
    exact ⟨a.trail, hentry, (State.answerStep_frame _ _ .trail (by decide)).symm ▸ hwrote⟩
  · exact (State.answerStep_frame _ _ .lastCause (by decide)).trans (hnone hnil).1
  · rw [answerStep_port_of _ htag, (hnone hnil).2, hport]
  · rw [answerStep_port_ne _ htag, (hnone hnil).2, hport]
  · refine (State.answerStep_frame _ _ .lastCause (by decide)).trans (hnoticed.1.trans ?_)
    rw [List.getLast?_map]
    exact he ▸ rfl
  · exact answerStep_hasStatus _ (hnoticed.reaches (List.mem_map_of_mem he) p)
  · rw [answerStep_port_of _ htag]
    obtain ⟨hanswer, hrequests, hservice⟩ := hnoticed.answered_enters (p := p) (r := .done tag .ok false) (n := 2) (by
      rw [List.length_map]
      exact leapEntriesAt_length _ _) (by
      rw [hport]
      exact hroom)
    exact ⟨hanswer, hrequests.trans (by rw [hport]; rfl), hservice⟩

end Sys2Proof
end


section
/-! PROOFS. What is due on an empty queue, and the idle step (O2). -/

-- One proof after another: proofs elaborated side by side each hold a thread, more of them than the check has memory for.
set_option Elab.async false

namespace Sys2Proof

open Machine

/-! ## The due events -/

/-- The grants of the segment events. -/
def segmentGrants : List Instr :=
  [.armGrant, .reviseGrant, .disarmGrant, .missedGrant, .openGrant, .callGrant, .drawGrant, .endGrant, .extendGrant, .releaseGrant,
    .haltGrant]

theorem grantOf_mem (k : SegEventKind) : grantOf k ∈ segmentGrants := by
  cases k <;> simp [grantOf, segmentGrants]

theorem ne_requestCommand {c : Instr} (h : Instr.asked c = none) (p : Port) (q : Request) : c ≠ requestCommand p q := by
  rintro rfl
  rw [asked_requestCommand] at h
  cases h

theorem mem_grantDue {s : State} {c : Instr} : c ∈ s.grantDue ↔
    (∃ l, captureTurn s l ∧ c = .captureGrant l) ∨ (∃ p, stampTurn s p ∧ c = .stampGrant p) ∨
      ∃ e, segmentTurn s e ∧ c = grantOf e.kind := by
  simp only [← arbiterChoice_capture_iff, ← arbiterChoice_stamp_iff, ← presented_eq_some_iff, State.presented]
  unfold State.grantDue
  cases s.arbiterChoice with
  | none => simp
  | some choice =>
    cases choice with
    | capture l => simp
    | stamp p => simp
    | segment =>
      cases s.commits with
      | nil => simp
      | cons e es => cases hk : e.kind <;> simp [hk, grantOf]

theorem mem_headDue {s : State} {p : Port} {c : Instr} : c ∈ s.headDue p ↔
    ∃ q rest, (s.port p).requests = q :: rest ∧ (s.port p).service = .untaken ∧ c = requestCommand p q := by
  unfold State.headDue
  cases (s.port p).requests <;> simp [mem_dueIf]

theorem mem_dueEvents {s : State} {c : Instr} : c ∈ s.dueEvents ↔
    c ∈ s.timeDue ∨ (∃ r, c ∈ s.refDue r) ∨ c ∈ s.grantDue ∨ (∃ i, c ∈ s.segDue i) ∨ (∃ l, c ∈ s.lineDue l) ∨ ∃ p, c ∈ s.portDue p := by
  have hall (r : RefId) : r ∈ RefId.all := by cases r <;> decide
  simp [State.dueEvents, hall]

theorem notMem_headDue {s : State} {p : Port} {c : Instr} (h : Instr.asked c = none) : c ∉ s.headDue p := by
  rw [mem_headDue]
  rintro ⟨q, -, -, -, hc⟩
  exact ne_requestCommand h p q hc

/-- The own events that neither take a request nor grant a segment event, each with what makes it due. -/
theorem ownDue_iff {s : State} {c : Instr} (hasked : Instr.asked c = none) (hgrant : c ∉ segmentGrants) : c ∈ s.dueEvents ↔
    (s.tick.mainSilent = true ∧ c = .mainAbsent ∨ s.tick.lockWaitOver = true ∧ c = .lockWaitExpiry ∨
      (decide (s.tick.returnPhase = .settle) && reached s.tick.settleDeadline s.now) = true ∧ c = .settleComplete ∨
      s.returnDue = true ∧ c = .mainReturn ∨ s.xt.markDue.isSome = true ∧ c = .secondMark true ∨
      s.xt.markDue.isSome = true ∧ c = .secondMark false ∨ s.acqExpired = true ∧ c = .acqTimeout ∨
      s.leap.beginDue s.now = true ∧ c = .leapBegin ∨ s.leap.executeDue s.now = true ∧ c = .leapExecuted) ∨
    (∃ r, (s.missed r).isSome = true ∧ c = .missingVerdict r ∨
      reached (s.refs.get r).absence s.now = true ∧ c = .absenceDeadline r) ∨
    ((∃ l, captureTurn s l ∧ c = .captureGrant l) ∨ ∃ p, stampTurn s p ∧ c = .stampGrant p) ∨
    (∃ i, s.openDue i = true ∧ c = .openInstantDue i ∨ s.callDue i = true ∧ c = .callInstantDue i ∨
      s.closeDue i = true ∧ c = .armedCloseDue i ∨ s.drawnDue i = true ∧ c = .drawnCloseDue i) ∨
    (∃ l, reached (s.outputs.get l).pulseEnd s.now = true ∧ c = .pulseEnd l ∨
      reached ((s.outputs.get l).armed.map LevelAt.xt) s.now = true ∧ c = .atInstantFire l) ∨
    ∃ p, (s.port p).silent = true ∧ c = .linkTimeout p ∨ (s.port p).idleDue = true ∧ c = .idleFrame p ∨
      (s.port p).batchDue = true ∧ c = .batchFrame p ∨ ((s.port p).answerWaits && (s.port p).hasRoom) = true ∧ c = .waitingAnswer p ∨
      (s.port p).drainsNotices = true ∧ c = .pendingNoticeDrain p ∨ (s.port p).drained = true ∧ c = .drainComplete p := by
  have hne (e : SegEvent) : c ≠ grantOf e.kind := fun h => hgrant (h ▸ grantOf_mem e.kind)
  have hhead (p : Port) : c ∉ s.headDue p := notMem_headDue hasked
  rw [mem_dueEvents, mem_grantDue]
  simp only [hne, and_false, exists_false, or_false, State.timeDue, State.refDue, State.segDue, State.lineDue, State.portDue,
    List.mem_append, mem_dueIf, hhead, or_assoc]

theorem reached_iff {x : Option Ns} {now : Ns} : reached x now = true ↔ ∃ d, x = some d ∧ d ≤ now := by
  cases x <;> simp [reached]

theorem missed_isSome {s : State} {r : RefId} : (s.missed r).isSome = true ↔ ∃ x, (s.refs.get r).expected = some x ∧ x < s.now := by
  unfold State.missed
  cases (s.refs.get r).expected with
  | none => simp
  | some x => by_cases h : x < s.now <;> simp [h]

theorem beginDue_iff_pending {s : State} : s.leap.beginDue s.now = true ↔
    ∃ q, s.leap.pending = some q ∧ q.leap.kind = .insert ∧ q.begun = false ∧ q.t ≤ s.now := by
  cases hq : s.leap.pending with
  | none => simp [LeapUnit.beginDue, hq]
  | some q => simpa using beginDue_iff hq s.now

theorem executeDue_iff_pending {s : State} : s.leap.executeDue s.now = true ↔ ∃ q, s.leap.pending = some q ∧
    (q.leap.kind = .insert ∧ q.begun = true ∧ q.t + 1000000000 ≤ s.now ∨ q.leap.kind = .delete ∧ q.t ≤ s.now) := by
  cases hq : s.leap.pending with
  | none => simp [LeapUnit.executeDue, hq]
  | some q => simpa using executeDue_iff hq s.now

theorem clockEventsAreDue : ClockEventsAreDue := by
  intro s due
  have own {c : Instr} (hasked : Instr.asked c = none) (hgrant : c ∉ segmentGrants) := ownDue_iff (s := s) hasked hgrant
  refine ⟨(own rfl (by simp [segmentGrants])).trans (by simp [mainSilent_iff]), (own rfl (by simp [segmentGrants])).trans ?_,
    (own rfl (by simp [segmentGrants])).trans (by simp [reached_iff]),
    (own rfl (by simp [segmentGrants])).trans (by simp [returnDue_iff_returnEdge]),
    fun first => (own rfl (by simp [segmentGrants])).trans ?_,
    (own rfl (by simp [segmentGrants])).trans (by simp [State.acqExpired_iff, ticksPerSecond]),
    (own rfl (by simp [segmentGrants])).trans (by simp [beginDue_iff_pending]),
    (own rfl (by simp [segmentGrants])).trans (by simp [executeDue_iff_pending]),
    fun r => ⟨(own rfl (by simp [segmentGrants])).trans (by simp [missed_isSome]),
      (own rfl (by simp [segmentGrants])).trans (by simp [reached_iff])⟩⟩
  · simp [TickUnit.lockWaitOver]
  · cases first <;> simp [Option.isSome_iff_exists]

/-! ## Grants, instants and lines -/

/-- A segment event's grant is due only by the arbiter's choice. -/
theorem grantOf_due {s : State} {k : SegEventKind} (h : grantOf k ∈ s.dueEvents) : ∃ e, segmentTurn s e ∧ grantOf k = grantOf e.kind := by
  have hasked : Instr.asked (grantOf k) = none := by cases k <;> rfl
  rw [mem_dueEvents, mem_grantDue] at h
  have hhead (p : Port) : grantOf k ∉ s.headDue p := notMem_headDue hasked
  simp only [State.timeDue, State.refDue, State.segDue, State.lineDue, State.portDue, List.mem_append, mem_dueIf, hhead] at h
  cases k <;> simpa [grantOf] using h

theorem grantsAndInstantsAreDue : GrantsAndInstantsAreDue := by
  intro s due
  have own {c : Instr} (hasked : Instr.asked c = none) (hgrant : c ∉ segmentGrants) := ownDue_iff (s := s) hasked hgrant
  refine ⟨fun e he => mem_dueEvents.2 (.inr (.inr (.inl (mem_grantDue.2 (.inr (.inr ⟨e, he, rfl⟩)))))), ?_,
    fun l => (own rfl (by simp [segmentGrants])).trans (by simp), fun p => (own rfl (by simp [segmentGrants])).trans (by simp),
    fun i => ⟨(own rfl (by simp [segmentGrants])).trans (by simp [openDue_iff]),
      (own rfl (by simp [segmentGrants])).trans (by simp [callDue_iff]),
      (own rfl (by simp [segmentGrants])).trans (by simp [closeDue_iff]),
      (own rfl (by simp [segmentGrants])).trans (by simp [drawnDue_iff])⟩,
    fun l => ⟨(own rfl (by simp [segmentGrants])).trans (by simp [reached_iff]),
      (own rfl (by simp [segmentGrants])).trans (by simp [reached_iff])⟩⟩
  rintro _ ⟨k, rfl⟩ h
  exact grantOf_due h

/-! ## Ports -/

theorem idleDue_iff {pc : PortCtl} :
    pc.idleDue = true ↔ pc.sending = false ∧ ¬ batchIsDue pc ∧ (pc.idleTimer = 0 ∨ pc.holdChanged = true) := by
  simp [PortCtl.idleDue, ← batchDue_iff, and_assoc]

theorem answerWaits_iff {pc : PortCtl} : pc.answerWaits = true ↔ ∃ r ofDrain, pc.service = .waiting r ofDrain := by
  unfold PortCtl.answerWaits
  cases pc.service <;> simp

theorem hasRoom_iff {pc : PortCtl} : pc.hasRoom = true ↔ pc.responses.length < 64 := decide_eq_true_iff

theorem drainsNotices_iff {pc : PortCtl} : pc.drainsNotices = true ↔ pc.up = true ∧
    (pc.pendStatus ≠ none ∨ pc.pendSegs ≠ [] ∨ pc.pendPort = true) ∧ pc.responses.length < 64 ∧
      ¬ ∃ r ofDrain, pc.service = .waiting r ofDrain := by
  have hslots : pc.noSlots = false ↔ pc.pendStatus ≠ none ∨ pc.pendSegs ≠ [] ∨ pc.pendPort = true := by
    rw [← Bool.not_eq_true, PortCtl.noSlots_iff]
    cases pc.pendPort <;> simp [Classical.or_iff_not_imp_left]
  unfold PortCtl.drainsNotices
  rw [← answerWaits_iff, ← hasRoom_iff, ← hslots]
  simp [and_assoc]

theorem drained_iff {pc : PortCtl} : pc.drained = true ↔ ∃ tag, pc.service = .draining tag 0 := by
  unfold PortCtl.drained
  cases pc.service with
  | draining tag left => cases left <;> simp
  | _ => simp

theorem asked_of_dueIf {b : Bool} {c d : Instr} (hd : Instr.asked d = none) (h : c ∈ dueIf b d) : Instr.asked c = none := by
  obtain ⟨-, rfl⟩ := mem_dueIf.1 h
  exact hd

/-- An own event that is at the head of no queue takes no request. -/
theorem asked_of_own {s : State} {c : Instr} (h : c ∈ s.dueEvents) (hhead : ∀ p, c ∉ s.headDue p) : Instr.asked c = none := by
  have hdue {b : Bool} {d : Instr} (hd : Instr.asked d = none) : c ∈ dueIf b d → Instr.asked c = none := asked_of_dueIf hd
  have hgrant (h : c ∈ s.grantDue) : Instr.asked c = none := by
    rcases mem_grantDue.1 h with ⟨l, -, rfl⟩ | ⟨p, -, rfl⟩ | ⟨e, -, rfl⟩
    · rfl
    · rfl
    · cases e.kind <;> rfl
  rw [mem_dueEvents] at h
  simp only [State.timeDue, State.refDue, State.segDue, State.lineDue, State.portDue, List.mem_append, hhead, or_false, or_assoc] at h
  rcases h with h | h | h | h | h | h | h | h | h | ⟨r, h | h⟩ | h | ⟨i, h | h | h | h⟩ | ⟨l, h | h⟩ | ⟨p, h | h | h | h | h | h⟩
  any_goals exact hdue rfl h
  exact hgrant h

/-- A request's taking is due exactly at the head of its own port's queue. -/
theorem asked_due {s : State} {p : Port} {c : Instr} {tag : Tag} {body : ReqBody} (hc : Instr.asked c = some (p, tag, body))
    (h : c ∈ s.dueEvents) : (s.port p).service = .untaken ∧ (s.port p).requests.head? = some { tag := tag, body := body } := by
  have hhead : ∃ q, c ∈ s.headDue q := by
    by_contra hnone
    exact absurd (asked_of_own h (not_exists.1 hnone)) (by rw [hc]; simp)
  obtain ⟨q, hq⟩ := hhead
  obtain ⟨x, rest, hx, hserv, rfl⟩ := mem_headDue.1 hq
  rw [asked_requestCommand] at hc
  cases hc
  exact ⟨hserv, by rw [hx]; rfl⟩

theorem portEventsAreDue : PortEventsAreDue := by
  intro s p pc due waits
  have own {c : Instr} (hasked : Instr.asked c = none) (hgrant : c ∉ segmentGrants) := ownDue_iff (s := s) hasked hgrant
  refine ⟨(own rfl (by simp [segmentGrants])).trans (by simp [PortCtl.silent, pc]),
    (own rfl (by simp [segmentGrants])).trans (by simp [idleDue_iff, pc]),
    (own rfl (by simp [segmentGrants])).trans (by simp [batchDue_iff, pc]),
    (own rfl (by simp [segmentGrants])).trans (by simp [answerWaits_iff, hasRoom_iff, pc, waits]),
    (own rfl (by simp [segmentGrants])).trans (by simp [drainsNotices_iff, pc, waits]),
    (own rfl (by simp [segmentGrants])).trans (by simp [drained_iff, pc]), fun q rest hq hserv => ?_,
    fun c tag body hc hdue => asked_due hc hdue⟩
  exact mem_dueEvents.2 (.inr (.inr (.inr (.inr (.inr ⟨p, List.mem_append_right _ (mem_headDue.2 ⟨q, rest, hq, hserv, rfl⟩)⟩)))))

/-! ## The idle step -/

theorem step_of_due {s : State} (hp : s.pending = []) (hdue : s.dueEvents ≠ []) :
    ∃ d ∈ s.dueEvents, step s = exec d (s.withFreeIndex (s.freeIndex + 1)) := by
  have hlt : Config.firstTaken s.freeIndex % s.dueEvents.length < s.dueEvents.length := Nat.mod_lt _ (List.length_pos_of_ne_nil hdue)
  have hown : s.ownEvent = some s.dueEvents[Config.firstTaken s.freeIndex % s.dueEvents.length] := by
    rw [← List.getElem?_eq_getElem hlt]
    unfold State.ownEvent
    cases hd : s.dueEvents with
    | nil => exact absurd hd hdue
    | cons c cs => rfl
  refine ⟨_, List.getElem_mem hlt, ?_⟩
  simp only [step, hp, idle, hown]

theorem anIdleStepDoesOneDueEventOrTicks : AnIdleStepDoesOneDueEventOrTicks := by
  intro s hp
  refine ⟨fun c hc => step_of_due hp (List.ne_nil_of_mem hc), step_eq_advance hp, fun hd hst => ?_⟩
  obtain ⟨st, hst⟩ := hst
  rw [step_of_nothing_due hp hd, State.nextTick, State.nextStep_iff.2 hst]
  rfl

/-- Settles O2: the idle step, and what makes each own event due. -/
theorem idleStepDoesDueEventOrTick : Obligations.IdleStepDoesDueEventOrTick :=
  ⟨anIdleStepDoesOneDueEventOrTicks, clockEventsAreDue, grantsAndInstantsAreDue, portEventsAreDue⟩

end Sys2Proof
end


section
/-! PROOFS. The second mark: its two ends, the references' stages and the steering stages (R30 to R33, R39, R48 to R55). -/

-- One proof after another: proofs elaborated side by side each hold a thread, more of them than the check has memory for.
set_option Elab.async false

namespace Sys2Proof

open Machine

/-! ## The two ends of a mark's work (R8, R138) -/

/-- The state on which the Steering Unit works at a mark. -/
def markStart (first : Bool) (s : State) : State :=
  if first then (s.withXt { s.xt with markDue := none }).trailMark else s.withXt { s.xt with markDue := none }

/-- The other blocks' work after the Steering Unit's at the mark of the whole multiple `m`. -/
def markEnd (first : Bool) (m : Nat) (v : State) : State :=
  let u := (v.withTick v.tick.calibrate).withOutputs (v.outputs.map (OutputLine.mark m))
  if first then u else u.trailMark

theorem exec_secondMark {first : Bool} {s : State} {m : Nat} (h : s.xt.markDue = some m) :
    exec (.secondMark first) s = .next (markEnd first m (markStart first s).steerMark) := by
  have hexec : exec (.secondMark first) s = execSecondMark first s := rfl
  unfold execSecondMark at hexec
  simp only [h] at hexec
  exact hexec

theorem markStart_frame (first : Bool) (s : State) : State.differsIn [.xt, .trail] s (markStart first s) := by
  unfold markStart
  split_ifs
  · exact ((s.withXt_frame _).mono (by decide)).trans ((State.trailMark_frame _).mono (by decide))
  · exact (s.withXt_frame _).mono (by decide)

theorem markEnd_frame (first : Bool) (m : Nat) (v : State) : State.differsIn [.tick, .outputs, .trail] v (markEnd first m v) := by
  have hend : State.differsIn [.tick, .outputs, .trail] v
      ((v.withTick v.tick.calibrate).withOutputs (v.outputs.map (OutputLine.mark m))) :=
    ((v.withTick_frame _).mono (by decide)).trans ((State.withOutputs_frame _ _).mono (by decide))
  unfold markEnd
  dsimp only
  split_ifs
  · exact hend
  · exact hend.trans ((State.trailMark_frame _).mono (by decide))

theorem markStart_now (first : Bool) (s : State) : (markStart first s).now = s.now := by
  cases first <;> rfl

/-! ## The references' stages (R30, R31) -/

theorem goodHandedOver_eq (x : RefRecord) (now : Ns) :
    goodHandedOver x now = goodOf ((x.ripen now).ready.map HeldVerdict.verdict) := by
  have hhanded : (x.ripen now).ready.map HeldVerdict.verdict = handedOver x now := by
    unfold RefRecord.ripen handedOver
    cases x.waiting with
    | none => rfl
    | some h => by_cases hr : h.maturity ≤ now <;> simp [hr]
  rw [hhanded, goodHandedOver]
  cases handedOver x now with
  | none => rfl
  | some v => cases v <;> rfl

theorem steerMark_refs (u : State) : u.steerMark.refs = u.markReferences.refs := by
  have hreport (w : State) (old oldT) : (w.reportMark old oldT).refs = w.refs := w.reportMark_frame old oldT .refs (by decide)
  unfold State.steerMark
  dsimp only
  rw [State.leapHandOver_frame _ _ .refs (by decide), State.evidenceStage_frame _ _ .refs (by decide), hreport,
    State.markSteer_frame _ _ _ .refs (by decide)]

section Selection
variable (x : SteeringUnit) (changed : Bool) (good : Option Measure) (now : Ns)

theorem opened_selection : x.opened.selection = x.selection := by
  unfold SteeringUnit.opened
  split_ifs <;> rfl

theorem counted_selection (m : Measure) : (x.counted changed m now).selection = x.selection := by
  unfold SteeringUnit.counted
  dsimp only
  generalize (if changed = true then 0 else x.lockCount) + 1 = count
  split_ifs
  · rfl
  · rfl
  · exact opened_selection _

theorem decided_selection : (x.decided changed good now).selection = x.selection := by
  unfold SteeringUnit.decided
  split
  · split
    · rfl
    · exact counted_selection x changed now _
  · split <;> rfl
  · split <;> rfl
  · rfl

theorem loopStage_selection : (x.loopStage good).selection = x.selection := by
  obtain ⟨a, i, h⟩ := SteeringUnit.loopStage_eq (x := x) (good := good)
  rw [h]

/-- Stage 7 changes the bound and the count of its growth alone. -/
theorem boundStage_fields (s : State) (entered : Bool) :
    ∃ b n, s.boundStage entered = { s.steer with bound := b, hSeconds := n } := by
  unfold State.boundStage
  dsimp only
  split
  · exact ⟨_, s.steer.hSeconds, rfl⟩
  · split_ifs
    · exact ⟨_, s.steer.hSeconds, rfl⟩
    · exact ⟨_, _, rfl⟩
  · exact ⟨_, s.steer.hSeconds, rfl⟩
  · exact ⟨_, s.steer.hSeconds, rfl⟩
  · exact ⟨_, s.steer.hSeconds, rfl⟩

end Selection

theorem markSteer_selection (w : State) (changed : Bool) (good : Option Measure) :
    (w.markSteer changed good).steer.selection = w.steer.selection := by
  obtain ⟨b, n, hbound⟩ := boundStage_fields
    (w.withSteer ((w.steer.takeItems.decided changed good w.now).loopStage good)) (decide (w.steer.state = .locked))
  rw [State.markSteer_steer, hbound]
  exact (loopStage_selection _ good).trans (decided_selection _ changed good w.now)

/-- The traceable flag after a mark agrees with the bound (R57). -/
theorem markSteer_traceable (w : State) (changed : Bool) (good : Option Measure) : (w.markSteer changed good).steer.traceable =
    decide ((w.markSteer changed good).steer.bound ≤ w.steer.limitM) := by
  obtain ⟨b, n, hbound⟩ := boundStage_fields
    (w.withSteer ((w.steer.takeItems.decided changed good w.now).loopStage good)) (decide (w.steer.state = .locked))
  obtain ⟨a, i, hloop⟩ := SteeringUnit.loopStage_eq (x := w.steer.takeItems.decided changed good w.now) (good := good)
  have hlimit : (w.steer.takeItems.decided changed good w.now).limitM = w.steer.limitM :=
    SteeringUnit.decided_kept.limitM
  rw [State.markSteer_steer, hbound, hloop, ← hlimit]
  rfl

/-- What a mark leaves of the Steering Unit and of the references. -/
theorem marked_steer (first : Bool) (m : Nat) (u : State) : (markEnd first m u.steerMark).steer =
    (u.markReferences.markSteer u.selectionChanges u.markGood).steer :=
  (markEnd_frame first m _ .steer (by decide)).trans u.steerMark_steer

theorem marked_refs (first : Bool) (m : Nat) (u : State) : (markEnd first m u.steerMark).refs = u.markReferences.refs :=
  (markEnd_frame first m _ .refs (by decide)).trans (steerMark_refs u)

theorem marked_selection (first : Bool) (m : Nat) (u : State) :
    (markEnd first m u.steerMark).steer.selection = u.markReferences.steer.selection := by
  rw [marked_steer, markSteer_selection]

/-- The selected reference's GOOD second, as the obligations read it. -/
theorem selectedGood_marked (first : Bool) (m : Nat) (s : State) :
    selectedGood s (markEnd first m (markStart first s).steerMark) = (markStart first s).markGood := by
  have hrefs : (markStart first s).refs = s.refs := markStart_frame first s .refs (by decide)
  unfold selectedGood State.markGood State.goodSecond
  rw [marked_selection]
  cases (markStart first s).markReferences.steer.selection with
  | none => rfl
  | some r =>
    simp only [State.seconds, PerRef.get_map, hrefs, markStart_now]
    exact goodHandedOver_eq _ _

/-- Without a selection no second is GOOD. -/
theorem selection_of_markGood {u : State} {g : Measure} (h : u.markGood = some g) : ∃ r, u.markReferences.steer.selection = some r := by
  unfold State.markGood State.goodSecond at h
  cases hsel : u.markReferences.steer.selection with
  | none => simp [hsel] at h
  | some r => exact ⟨r, rfl⟩

/-! ## The steering stages in LOCKED and HOLDOVER (R48, R49, R51 to R55) -/

/-- The LOCKED bound as R54 writes it. -/
theorem lockedBound_eq {z t : State} {e : Int} (hrefs : t.refs = z.refs) (hsel : t.steer.selection = z.steer.selection)
    (hfixed : t.steer.uFixed = z.steer.uFixed) (he : z.steer.eHeld.getD 0 = e) : saturate z.lockedBound = lockedBound e t := by
  unfold saturate lockedBound State.lockedBound State.selectedUncertainty State.excess
  rw [hrefs, hsel, hfixed, he]
  rfl

theorem loopStage_none (x : SteeringUnit) : x.loopStage none = x := rfl

theorem loopStage_locked {x : SteeringUnit} {g : Measure} (h : x.state = .locked) :
    x.loopStage (some g) = x.runLoop (x.eHeld.getD g.e) := if_pos h

theorem loopStage_other {x : SteeringUnit} (good : Option Measure) (h : x.state ≠ .locked) : x.loopStage good = x := by
  cases good with
  | none => rfl
  | some g => exact if_neg h

section BoundStage
variable {z : State} {entered : Bool}

theorem boundStage_locked (h : z.steer.state = .locked) :
    z.boundStage entered = { z.steer with bound := saturate z.lockedBound } := by
  unfold State.boundStage
  simp only [h]

theorem boundStage_entered (h : z.steer.state = .holdover) : z.boundStage true = { z.steer with bound := z.steer.bEntry } := by
  unfold State.boundStage
  simp only [h, if_true]

theorem boundStage_growing (h : z.steer.state = .holdover) : z.boundStage false = { z.steer with
    hSeconds := satAdd max32 z.steer.hSeconds 1
    bound := saturate (z.steer.bEntry + z.steer.inForce.growthH * satAdd max32 z.steer.hSeconds 1) } := by
  unfold State.boundStage
  simp [h]

theorem boundStage_fallback (h : z.steer.state = .fallback) :
    z.boundStage entered = { z.steer with bound := saturate (z.steer.bound + z.steer.inForce.growthHRing) } := by
  unfold State.boundStage
  simp only [h]

theorem boundStage_greatest (h : z.steer.state = .cold ∨ z.steer.state = .acquire) :
    z.boundStage entered = { z.steer with bound := max32 } := by
  unfold State.boundStage
  rcases h with h | h <;> simp only [h]

end BoundStage

section Steering
variable {w : State} {changed : Bool} {good : Option Measure}

/-- The Steering Unit after a mark, from what stages 5 and 6 leave. -/
theorem markSteer_of {y z : SteeringUnit} (hy : w.steer.takeItems.decided changed good w.now = y) (hz : y.loopStage good = z) :
    (w.markSteer changed good).steer = ((w.withSteer z).boundStage (decide (w.steer.state = .locked))).retrace := by
  rw [State.markSteer_steer, hy, hz]

theorem takeItems_of_other (x : SteeringUnit) (h : x.state ≠ .holdover) : x.takeItems = { x with
    inForce := x.written
    integ := clampInt (-x.written.slewL) x.written.slewL x.integ
    adj := clampInt (-x.written.slewL) x.written.slewL x.adj } := by
  unfold SteeringUnit.takeItems
  simp [h]

/-- A change of H in HOLDOVER rebases the growth (R55). -/
theorem takeItems_rebased {x : SteeringUnit} (hst : x.state = .holdover) (h : x.written.growthH ≠ x.inForce.growthH) :
    x.takeItems.bEntry = x.bound ∧ x.takeItems.hSeconds = 0 := by
  unfold SteeringUnit.takeItems
  dsimp only
  rw [if_pos ⟨hst, h.symm⟩, if_pos ⟨hst, h.symm⟩]
  exact ⟨rfl, rfl⟩

theorem takeItems_not_rebased {x : SteeringUnit} (h : ¬ x.written.growthH ≠ x.inForce.growthH) :
    x.takeItems.bEntry = x.bEntry ∧ x.takeItems.hSeconds = x.hSeconds := by
  have hsame : ¬ (x.state = .holdover ∧ x.inForce.growthH ≠ x.written.growthH) := fun hc => h hc.2.symm
  unfold SteeringUnit.takeItems
  dsimp only
  rw [if_neg hsame, if_neg hsame]
  exact ⟨rfl, rfl⟩

/-- A GOOD second in LOCKED or HOLDOVER (R48, R49, R51, R54). -/
theorem markSteer_good {g : Measure} (hst : w.steer.state = .locked ∨ w.steer.state = .holdover) {r : RefId}
    (hsel : w.steer.selection = some r) : (w.markSteer changed (some g)).steer = SteeringUnit.retrace { w.steer with
      state := .locked
      eHeld := some g.e
      integ := (loopUpdate w.steer.written (clampInt (-w.steer.written.slewL) w.steer.written.slewL w.steer.integ) g.e).1
      adj := (loopUpdate w.steer.written (clampInt (-w.steer.written.slewL) w.steer.written.slewL w.steer.integ) g.e).2
      bound := saturate (w.withSteer { w.steer with eHeld := some g.e }).lockedBound
      inForce := w.steer.written
      bEntry := w.steer.takeItems.bEntry
      hSeconds := w.steer.takeItems.hSeconds } := by
  have hdecided : w.steer.takeItems.decided changed (some g) w.now =
      { w.steer.takeItems with eHeld := some g.e, state := .locked } := by
    rcases hst with hst | hst
    · have hst' : w.steer.takeItems.state = .locked := hst
      rw [SteeringUnit.decided_locked_good hst' (r := r) hsel, hst']
    · exact SteeringUnit.decided_holdover_good (x := w.steer.takeItems) hst
  rw [markSteer_of hdecided (loopStage_locked rfl), boundStage_locked rfl]
  rfl

/-- A second in LOCKED that is not GOOD, with a selection (R48, R54). -/
theorem markSteer_locked_poor (hst : w.steer.state = .locked) {r : RefId} (hsel : w.steer.selection = some r) :
    (w.markSteer changed none).steer = SteeringUnit.retrace { w.steer.takeItems with
      bound := saturate (w.withSteer w.steer.takeItems).lockedBound } := by
  have hst' : w.steer.takeItems.state = .locked := hst
  rw [markSteer_of (SteeringUnit.decided_locked_poor hst' (r := r) hsel) (loopStage_none _),
    boundStage_locked (z := w.withSteer w.steer.takeItems) hst']
  rfl

/-- No selection in LOCKED: HOLDOVER begins (R48, R55). -/
theorem markSteer_locked_left (hst : w.steer.state = .locked) (hsel : w.steer.selection = none) :
    (w.markSteer changed good).steer = SteeringUnit.retrace { w.steer.takeItems with
      state := .holdover, bEntry := w.steer.bound, hSeconds := 0, adj := w.steer.takeItems.integ } := by
  rw [markSteer_of (SteeringUnit.decided_locked_none (x := w.steer.takeItems) hst hsel) (loopStage_other good nofun),
    decide_eq_true hst, boundStage_entered rfl]
  rfl

/-- A second in HOLDOVER without a GOOD one (R49, R55). -/
theorem markSteer_holdover_poor (hst : w.steer.state = .holdover) : (w.markSteer changed none).steer =
    SteeringUnit.retrace { w.steer.takeItems with
      hSeconds := satAdd max32 w.steer.takeItems.hSeconds 1
      bound := saturate (w.steer.takeItems.bEntry + w.steer.written.growthH * satAdd max32 w.steer.takeItems.hSeconds 1) } := by
  have hst' : w.steer.takeItems.state = .holdover := hst
  rw [markSteer_of (SteeringUnit.decided_holdover_poor hst') (loopStage_none _), decide_eq_false (by rw [hst]; decide),
    boundStage_growing (z := w.withSteer w.steer.takeItems) hst']
  rfl

end Steering

/-! ## The Steering Unit after a mark, from the state before it -/

section Marked
variable {first : Bool} {s : State} {m : Nat}

/-- The Steering Unit at stage 4 of a mark: the record before the mark with the selection re-made. -/
theorem markReferences_steer_of (first : Bool) (s : State) : (markStart first s).markReferences.steer =
    { s.steer with selection := (markStart first s).markReferences.steer.selection } := by
  rw [State.markReferences_steer, (markStart_frame first s .steer (by decide) : (markStart first s).steer = s.steer)]

theorem marked_traceable (first : Bool) (s : State) (m : Nat) : (markEnd first m (markStart first s).steerMark).steer.traceable =
    decide ((markEnd first m (markStart first s).steerMark).steer.bound ≤ s.steer.limitM) := by
  rw [marked_steer, markSteer_traceable, markReferences_steer_of]

end Marked

/-- Settles O16: in LOCKED and HOLDOVER a mark takes the items, runs the loop on a GOOD second, and sets B. -/
theorem secondMarkSteersInLockedAndHoldover : Obligations.SecondMarkSteersInLockedAndHoldover := by
  intro first s m hm hst
  set u := markStart first s
  set w := u.markReferences
  refine ⟨markEnd first m u.steerMark, exec_secondMark hm, ?_⟩
  have hsteer := marked_steer first m u
  have hgood := selectedGood_marked first m s
  have hsel := marked_selection first m u
  have hrefs := marked_refs first m u
  have hw : w.steer = { s.steer with selection := w.steer.selection } := markReferences_steer_of first s
  set t := markEnd first m u.steerMark
  intro x l i a
  refine ⟨?_, fun g hg => ?_, fun hnone hlocked hsome => ?_, fun hlocked hnone => ?_, fun hnone hholdover => ?_⟩
  · exact marked_traceable first s m
  · obtain ⟨r, hr⟩ := selection_of_markGood (hgood.symm.trans hg)
    rw [← hgood, hg, markSteer_good (by rw [hw]; exact hst) hr] at hsteer
    have hbound := lockedBound_eq (z := w.withSteer { w.steer with eHeld := some g.e }) (e := g.e) (t := t) hrefs hsel
      (by rw [hsteer]; rfl) rfl
    rw [hbound, hw] at hsteer
    rw [hsteer]
    rfl
  · obtain ⟨r, hr⟩ := Option.ne_none_iff_exists'.1 hsome
    rw [← hgood, hnone, markSteer_locked_poor (by rw [hw]; exact hlocked) (hsel.symm.trans hr)] at hsteer
    have hbound := lockedBound_eq (z := w.withSteer w.steer.takeItems) (e := x.eHeld.getD 0) (t := t) hrefs hsel
      (by rw [hsteer]; rfl) (by rw [hw]; rfl)
    rw [hbound, takeItems_of_other _ (by rw [hw]; exact (by rw [hlocked]; decide)), hw] at hsteer
    rw [hsteer]
    rfl
  · have hother : w.steer.state ≠ .holdover := by rw [hw]; exact (by rw [hlocked]; decide)
    rw [markSteer_locked_left (by rw [hw]; exact hlocked) (hsel.symm.trans hnone), takeItems_of_other _ hother, hw,
      hsel.symm.trans hnone] at hsteer
    rw [hsteer]
    rfl
  · rw [← hgood, hnone, markSteer_holdover_poor (by rw [hw]; exact hholdover), hw] at hsteer
    intro rebased
    refine ⟨x.takeItems.bEntry, min (x.takeItems.hSeconds + 1) 4294967295, fun h => ?_, fun h => ?_, ?_⟩
    · obtain ⟨hentry, hseconds⟩ := takeItems_rebased hholdover h
      exact ⟨hentry, by rw [hseconds]; rfl⟩
    · obtain ⟨hentry, hseconds⟩ := takeItems_not_rebased h
      exact ⟨hentry, by rw [hseconds]⟩
    · rw [hsteer, ← satAdd_eq_min]
      rfl

end Sys2Proof
end


section
/-! PROOFS. Entries asked for one after another (R132 to R134). -/

-- One proof after another: proofs elaborated side by side each hold a thread, more of them than the check has memory for.
set_option Elab.async false

namespace Sys2Proof

open Machine

/-- The trail after some entries have been asked for, each at its own readings. -/
def requests (t : TrailUnit) (evs : List (TrailBody × Writing)) : TrailUnit := evs.foldl (fun t e => t.request e.1 e.2) t

/-- The entries that some writings append from the number `n` on. -/
def numbered : Nat → List (TrailBody × Writing) → List TrailEntry
  | _, [] => []
  | n, e :: evs => { seq := n, written := e.2, body := e.1 } :: numbered (n + 1) evs

/-- From `t` to `t'`, these entries have been asked for, and only the summary counters and the seconds covered changed beside. -/
def Grew (evs : List (TrailBody × Writing)) (t t' : TrailUnit) : Prop :=
  ∃ c n, t' = { requests t evs with counters := c, seconds := n }

section Request
variable {t : TrailUnit} {b : TrailBody} {w : Writing}

/-- With room for class B an entry asked for is written (R133, R134). -/
theorem request_of_room (h : t.wIx - t.k < 3840) : t.request b w = { t with
    entries := t.entries ++ [{ seq := t.wIx, written := w, body := b }]
    wIx := t.wIx + 1
    evidence := if b.isEvidence then t.wIx else t.evidence
    prevSummary := if b.isSummary then t.wIx else t.prevSummary } := by
  have hplace : t.makePlace = t := if_pos (lt_trans h (by decide))
  have hwrite : t.request b w = t.write b w := by
    cases hb : b.classB with
    | false => exact t.request_classA b w hb
    | true => rw [t.request_classB b w hb, if_pos h]
  rw [hwrite, TrailUnit.write, hplace]
  rfl

theorem request_counters (c : Counters) (n : Nat) :
    ∃ c', ({ t with counters := c, seconds := n } : TrailUnit).request b w = { t.request b w with counters := c', seconds := n } := by
  have hunread : ({ t with counters := c, seconds := n } : TrailUnit).unread = t.unread := rfl
  unfold TrailUnit.request TrailUnit.write TrailUnit.makePlace
  rw [hunread]
  split_ifs
  · exact ⟨_, rfl⟩
  · exact ⟨_, rfl⟩
  · exact ⟨_, rfl⟩

end Request

section Grew
variable {t u v : TrailUnit} {as bs evs : List (TrailBody × Writing)}

theorem requests_append : requests t (as ++ bs) = requests (requests t as) bs := List.foldl_append

theorem requests_counters (c : Counters) (n : Nat) :
    ∃ c', requests { t with counters := c, seconds := n } evs = { requests t evs with counters := c', seconds := n } := by
  induction evs generalizing t c with
  | nil => exact ⟨c, rfl⟩
  | cons e evs ih =>
    obtain ⟨c', hc'⟩ := request_counters (t := t) (b := e.1) (w := e.2) c n
    have hstep : requests { t with counters := c, seconds := n } (e :: evs) =
        requests { t.request e.1 e.2 with counters := c', seconds := n } evs := congrArg (requests · evs) hc'
    rw [hstep]
    exact ih c'

theorem Grew.of_requests (h : u = requests t evs) : Grew evs t u := ⟨u.counters, u.seconds, by rw [← h]⟩

theorem Grew.of_counted {c : Counters} {n : Nat} (h : u = { t with counters := c, seconds := n }) : Grew [] t u := ⟨c, n, h⟩

theorem Grew.refl (t : TrailUnit) : Grew [] t t := .of_requests rfl

theorem Grew.trans (h : Grew as t u) (h' : Grew bs u v) : Grew (as ++ bs) t v := by
  obtain ⟨c, n, rfl⟩ := h
  obtain ⟨c', n', rfl⟩ := h'
  obtain ⟨c'', hc''⟩ := requests_counters (t := requests t as) (evs := bs) c n
  refine ⟨c', n', ?_⟩
  rw [hc'', requests_append]

/-- With room for all of them, the entries asked for are appended, and none goes. -/
theorem requests_of_room (h : t.wIx - t.k + evs.length ≤ 3840) : (requests t evs).entries = t.entries ++ numbered t.wIx evs ∧
    (requests t evs).k = t.k ∧ (requests t evs).wIx = t.wIx + evs.length ∧ (requests t evs).counters = t.counters := by
  induction evs generalizing t with
  | nil => exact ⟨(List.append_nil _).symm, rfl, rfl, rfl⟩
  | cons e evs ih =>
    rw [List.length_cons] at h
    have hstep : requests t (e :: evs) = requests (t.request e.1 e.2) evs := rfl
    rw [hstep, request_of_room (by omega)]
    obtain ⟨hentries, hk, hw, hc⟩ := ih (t := { t with
      entries := t.entries ++ [{ seq := t.wIx, written := e.2, body := e.1 }]
      wIx := t.wIx + 1
      evidence := if e.1.isEvidence then t.wIx else t.evidence
      prevSummary := if e.1.isSummary then t.wIx else t.prevSummary }) (by simp only; omega)
    refine ⟨hentries.trans ?_, hk, hw.trans ?_, hc⟩
    · rw [numbered, List.append_assoc]
      rfl
    · rw [List.length_cons]
      simp only
      omega

theorem Grew.of_room (hg : Grew evs t u) (h : t.wIx - t.k + evs.length ≤ 3840) :
    u.entries = t.entries ++ numbered t.wIx evs ∧ u.k = t.k ∧ u.wIx = t.wIx + evs.length := by
  obtain ⟨c, n, rfl⟩ := hg
  obtain ⟨hentries, hk, hw, -⟩ := requests_of_room h
  exact ⟨hentries, hk, hw⟩

theorem Grew.moves (h : Grew evs t u) : t.Moves u := by
  obtain ⟨c, n, rfl⟩ := h
  refine TrailUnit.Moves.trans (u := requests t evs) ?_ (.of_eq rfl rfl rfl rfl rfl)
  induction evs generalizing t with
  | nil => exact .refl t
  | cons e evs ih => exact (TrailUnit.request_moves e.1 e.2).trans ih

end Grew

/-! ## What any entry asked for keeps -/

/-- What one entry asked for does to the numbers: none, or the next is used and perhaps the oldest freed. -/
structure Stepped (t t' : TrailUnit) (b : TrailBody) : Prop where
  last : t.wIx ≤ t'.wIx ∧ t'.wIx ≤ t.wIx + 1
  first : t'.k = t.k ∨ t'.k + 4096 ≤ t'.wIx
  entries : ∀ e ∈ t'.entries, e ∈ t.entries ∨ e.body = b
  evidence : b.isEvidence = false → t'.evidence = t.evidence
  summary : b.isSummary = false → t'.prevSummary = t.prevSummary
  kept : t'.seconds = t.seconds ∧ t'.interval = t.interval ∧ t'.mode = t.mode ∧ t'.counters.maxBound = t.counters.maxBound ∧
    t'.counters.untraceable = t.counters.untraceable

theorem Stepped.of_wrote {t t' : TrailUnit} {b : TrailBody} {w : Writing} (h : TrailUnit.Wrote t t' b w) : Stepped t t' b := by
  obtain ⟨hplace, hw, hevidence, hsummary, hseconds, hinterval, hmode⟩ := h
  refine ⟨⟨by omega, by omega⟩, ?_, fun e he => ?_, fun hb => ?_, fun hb => ?_, hseconds, hinterval, hmode, ?_⟩
  · split at hplace <;> omega
  · split at hplace
    · rw [hplace.1, List.mem_append, List.mem_singleton] at he
      exact he.imp_right fun h => by rw [h]
    · rw [hplace.1, List.mem_append, List.mem_singleton] at he
      exact he.imp List.mem_of_mem_tail fun h => by rw [h]
  · rw [hevidence, hb]
    rfl
  · rw [hsummary, hb]
    rfl
  · split at hplace <;> obtain ⟨-, -, hcounters⟩ := hplace <;> rw [hcounters] <;> exact ⟨rfl, rfl⟩

theorem request_stepped (t : TrailUnit) (b : TrailBody) (w : Writing) : Stepped t (t.request b w) b := by
  cases hb : b.classB with
  | false => exact .of_wrote (t.request_wrote b w hb)
  | true =>
    rw [t.request_classB b w hb]
    split_ifs
    · exact .of_wrote (t.write_wrote b w)
    · exact ⟨⟨le_refl _, Nat.le_succ _⟩, .inl rfl, fun _ h => .inl h, fun _ => rfl, fun _ => rfl, rfl, rfl, rfl, rfl, rfl⟩

/-- What entries asked for one after another do to the numbers. -/
structure SteppedBy (evs : List (TrailBody × Writing)) (t t' : TrailUnit) : Prop where
  last : t.wIx ≤ t'.wIx ∧ t'.wIx ≤ t.wIx + evs.length
  first : t'.k = t.k ∨ t'.k + 4096 ≤ t'.wIx
  entries : ∀ e ∈ t'.entries, e ∈ t.entries ∨ ∃ p ∈ evs, e.body = p.1
  evidence : (∀ p ∈ evs, p.1.isEvidence = false) → t'.evidence = t.evidence
  summary : (∀ p ∈ evs, p.1.isSummary = false) → t'.prevSummary = t.prevSummary
  kept : t'.interval = t.interval ∧ t'.mode = t.mode

theorem requests_stepped {evs : List (TrailBody × Writing)} {t : TrailUnit} : SteppedBy evs t (requests t evs) ∧
    (requests t evs).seconds = t.seconds ∧ (requests t evs).counters.maxBound = t.counters.maxBound ∧
      (requests t evs).counters.untraceable = t.counters.untraceable := by
  induction evs generalizing t with
  | nil => exact ⟨⟨⟨le_refl _, le_refl _⟩, .inl rfl, fun _ h => .inl h, fun _ => rfl, fun _ => rfl, rfl, rfl⟩, rfl, rfl, rfl⟩
  | cons p evs ih =>
    obtain ⟨hlast, hfirst, hentries, hevidence, hsummary, hseconds, hinterval, hmode, hbound, huntraceable⟩ :=
      request_stepped t p.1 p.2
    obtain ⟨⟨hlast', hfirst', hentries', hevidence', hsummary', hinterval', hmode'⟩, hseconds', hbound', huntraceable'⟩ :=
      ih (t := t.request p.1 p.2)
    have hstep : requests t (p :: evs) = requests (t.request p.1 p.2) evs := rfl
    rw [hstep]
    refine ⟨⟨⟨by omega, ?_⟩, by omega, fun e he => ?_, fun hp => ?_, fun hp => ?_, hinterval'.trans hinterval, hmode'.trans hmode⟩,
      hseconds'.trans hseconds, hbound'.trans hbound, huntraceable'.trans huntraceable⟩
    · rw [List.length_cons]
      omega
    · rcases hentries' e he with he | ⟨q, hq, he⟩
      · exact (hentries e he).imp_right fun h => ⟨p, List.mem_cons_self, h⟩
      · exact .inr ⟨q, List.mem_cons_of_mem _ hq, he⟩
    · exact (hevidence' fun q hq => hp q (List.mem_cons_of_mem _ hq)).trans (hevidence (hp p List.mem_cons_self))
    · exact (hsummary' fun q hq => hp q (List.mem_cons_of_mem _ hq)).trans (hsummary (hp p List.mem_cons_self))

theorem Grew.stepped {evs : List (TrailBody × Writing)} {t u : TrailUnit} (h : Grew evs t u) : SteppedBy evs t u := by
  obtain ⟨c, n, rfl⟩ := h
  obtain ⟨⟨hlast, hfirst, hentries, hevidence, hsummary, hkept⟩, -⟩ := requests_stepped (t := t) (evs := evs)
  exact ⟨hlast, hfirst, hentries, hevidence, hsummary, hkept⟩

/-- A recent entry of a trail in order stays readable through a few more. -/
theorem Grew.keeps {evs : List (TrailBody × Writing)} {t u : TrailUnit} (h : Grew evs t u) (hok : t.Ok) {e : TrailEntry}
    (he : e ∈ t.entries) (hrecent : t.wIx + evs.length ≤ e.seq + 4096) : e ∈ u.entries := by
  obtain ⟨-, -, -, -, hstays⟩ := h.moves hok
  refine hstays e he ?_
  obtain ⟨hlow, -⟩ := hok.seq_mem he
  have hlast := h.stepped.last
  rcases h.stepped.first with hk | hk
  · omega
  · omega

theorem mem_numbered {evs : List (TrailBody × Writing)} {p : TrailBody × Writing} {n : Nat} (h : p ∈ evs) :
    ∃ e ∈ numbered n evs, n ≤ e.seq ∧ e.written = p.2 ∧ e.body = p.1 := by
  induction evs generalizing n with
  | nil => exact absurd h List.not_mem_nil
  | cons q evs ih =>
    rcases List.mem_cons.1 h with rfl | h
    · exact ⟨_, List.mem_cons_self, le_refl _, rfl, rfl⟩
    · obtain ⟨e, he, hn, hrest⟩ := ih (n := n + 1) h
      exact ⟨e, List.mem_cons_of_mem _ he, by omega, hrest⟩

/-- With room for all of them, an entry asked for stands in the trail. -/
theorem Grew.mem_of_room {evs : List (TrailBody × Writing)} {t u : TrailUnit} (hg : Grew evs t u)
    (h : t.wIx - t.k + evs.length ≤ 3840) {p : TrailBody × Writing} (hp : p ∈ evs) :
    ∃ e ∈ u.entries, t.wIx ≤ e.seq ∧ e.written = p.2 ∧ e.body = p.1 := by
  obtain ⟨e, he, hrest⟩ := mem_numbered (n := t.wIx) hp
  obtain ⟨hentries, -⟩ := hg.of_room h
  exact ⟨e, hentries ▸ List.mem_append_right _ he, hrest⟩

/-- The LEAP entry that a body is. -/
def leapBody : TrailBody → Option LeapEntry
  | .leap e => some e
  | _ => none

theorem leapEntriesFrom_eq (n : Nat) (t : TrailUnit) : leapEntriesFrom n t =
    t.entries.filterMap fun e => if n ≤ e.seq then leapBody e.body else none := by
  unfold leapEntriesFrom
  refine List.filterMap_congr fun e _ => ?_
  cases e.body <;> rfl

theorem numbered_leaps (n m : Nat) (hle : n ≤ m) (evs : List (TrailBody × Writing)) :
    (numbered m evs).filterMap (fun e => if n ≤ e.seq then leapBody e.body else none) = evs.filterMap fun p => leapBody p.1 := by
  induction evs generalizing m with
  | nil => rfl
  | cons p evs ih =>
    rw [numbered, List.filterMap_cons, List.filterMap_cons, ih (m + 1) (by omega)]
    simp only [if_pos hle]

/-- With room for all entries asked for, the LEAP entries from W_ix on are those among them. -/
theorem Grew.leapEntriesFrom {evs : List (TrailBody × Writing)} {t u : TrailUnit} (hg : Grew evs t u) (hok : t.Ok)
    (h : t.wIx - t.k + evs.length ≤ 3840) : leapEntriesFrom t.wIx u = evs.filterMap fun p => leapBody p.1 := by
  obtain ⟨hentries, -⟩ := hg.of_room h
  have hold : t.entries.filterMap (fun e => if t.wIx ≤ e.seq then leapBody e.body else none) = [] := by
    refine List.filterMap_eq_nil_iff.2 fun e he => if_neg ?_
    have := hok.seq_mem he
    omega
  rw [leapEntriesFrom_eq, hentries, List.filterMap_append, hold, List.nil_append, numbered_leaps _ _ (le_refl _)]

end Sys2Proof
end


section
/-! PROOFS. The operations of the Leap Unit on the pending record (R63, R66 to R72), and SET_LEAP. -/

-- One proof after another: proofs elaborated side by side each hold a thread, more of them than the check has memory for.
set_option Elab.async false

namespace Sys2Proof

open Machine

/-! ## The record, the checks and the shift of a leap (R63, R67) -/

theorem recordOf_eq (u : LeapUnit) (l : Leap) (source : LeapSource) : u.recordOf l source = pendingOf l u.offset source := by
  unfold LeapUnit.recordOf pendingOf changeInstant
  cases l.kind <;> rfl

theorem pendingAmount_eq (l : Leap) : pendingAmount l.kind = leapShift l := by
  unfold leapShift
  cases l.kind <;> rfl

theorem leapInRange_iff (u : LeapUnit) (l : Leap) (source : LeapSource) : leapInRange l u.offset ↔
    offsetFits l.kind u.offset = true ∧ ¬ stepLimit ≤ (u.recordOf l source).q + secondNs := by
  rw [recordOf_eq, not_le]
  unfold leapInRange offsetFits
  cases l.kind <;> simp only [decide_eq_true_eq, if_true, reduceCtorEq, if_false] <;> rfl

theorem check_outOfRange {u : LeapUnit} {l : Leap} {now : Ns} (h : ¬ leapInRange l u.offset) : u.check l now = .outOfRange := by
  rw [leapInRange_iff u l .reference] at h
  unfold LeapUnit.check
  split_ifs <;> simp_all

theorem check_late {u : LeapUnit} {l : Leap} {now : Ns} (h : leapInRange l u.offset) (ht : changeInstant l u.offset ≤ now) :
    u.check l now = .late := by
  obtain ⟨hfits, hlimit⟩ := (leapInRange_iff u l .reference).1 h
  unfold LeapUnit.check
  rw [if_neg (by simp [hfits]), if_neg hlimit, if_pos (by rw [recordOf_eq]; exact ht)]

theorem check_pass {u : LeapUnit} {l : Leap} {now : Ns} (h : leapPasses l u.offset now) : u.check l now = .pass := by
  obtain ⟨hrange, ht⟩ := h
  obtain ⟨hfits, hlimit⟩ := (leapInRange_iff u l .reference).1 hrange
  unfold LeapUnit.check
  rw [if_neg (by simp [hfits]), if_neg hlimit, if_neg (by rw [recordOf_eq]; exact not_le.2 ht)]

section Operations
variable {s : State} {r : PendingLeap} {l : Leap} {source : LeapSource}

theorem withdrawLeap_eq : s.withdrawLeap r = ((s.withLeap { s.leap with pending := none }).shiftSegments
    (some (r.q + leapShift r.leap)) (-leapShift r.leap)).reportLeap (withdrawnEntry r) := by
  unfold State.withdrawLeap withdrawnEntry
  rw [pendingAmount_eq]

theorem makePending_outOfRange (h : ¬ leapInRange l s.leap.offset) : s.makePending l source =
    s.ask (.leap { LeapEntry.blank .outOfRange with
      leap := some l, source := source, offsetBefore := s.leap.offset, offsetAfter := s.leap.offset }) := by
  unfold State.makePending
  simp only [check_outOfRange h]

theorem makePending_late (h : leapInRange l s.leap.offset) (ht : changeInstant l s.leap.offset ≤ s.now) : s.makePending l source =
    s.ask (.leap { LeapEntry.blank .late with leap := some l, source := source }) := by
  unfold State.makePending
  simp only [check_late h ht]

theorem makePending_pass (h : leapPasses l s.leap.offset s.now) : s.makePending l source =
    ((s.withLeap { s.leap with pending := some (pendingOf l s.leap.offset source) }).shiftSegments
      (some (dayEndInstant l.day s.leap.offset)) (leapShift l)).reportLeap (pendingEntry l s.leap.offset source) := by
  unfold State.makePending
  simp only [check_pass h, recordOf_eq, pendingAmount_eq]
  rfl

end Operations

/-! ## LEAP entries and their notices -/

/-- The causes that raise a STATUS notice with their entry (R67, R72). -/
abbrev leapTold (c : LeapCause) : Prop := c = .offsetCorrected ∨ c = .withdrawn ∨ c = .pending

/-- From `t` to `t'`, these LEAP entries have been asked for. -/
def LeapTrail (es : List LeapEntry) (t t' : TrailUnit) : Prop :=
  ∃ evs, evs.map Prod.fst = es.map TrailBody.leap ∧ t' = requests t evs

/-- From `s` to `t`, these LEAP entries have been asked for, and each of a told cause has raised its notice. -/
def LeapAsked (es : List LeapEntry) (s t : State) : Prop :=
  LeapTrail es s.trail t.trail ∧
    ∃ cs, Noticed cs s t ∧ ∀ e ∈ es, leapTold e.cause → .leap e.cause ∈ cs

theorem leapAsked_nil (s : State) : LeapAsked [] s s := ⟨⟨[], rfl, rfl⟩, [], noticed_nil s, fun _ he => absurd he List.not_mem_nil⟩

theorem LeapAsked.append {es fs : List LeapEntry} {s t u : State} (h : LeapAsked es s t) (h' : LeapAsked fs t u) :
    LeapAsked (es ++ fs) s u := by
  obtain ⟨⟨evs, hevs, htrail⟩, cs, hcs, hes⟩ := h
  obtain ⟨⟨evs', hevs', htrail'⟩, cs', hcs', hfs⟩ := h'
  refine ⟨⟨evs ++ evs', by rw [List.map_append, List.map_append, hevs, hevs'], by rw [htrail', htrail, requests_append]⟩,
    cs ++ cs', hcs.trans hcs', fun e he htold => List.mem_append.2 ?_⟩
  exact (List.mem_append.1 he).imp (hes e · htold) (hfs e · htold)

/-- A LEAP report after changes that leave the trail and the ports. -/
theorem leapAsked_report {s u : State} (e : LeapEntry) (htrail : u.trail = s.trail) (hports : u.ports = s.ports) :
    LeapAsked [e] s (u.reportLeap e) := by
  have hasked : (u.reportLeap e).trail = u.trail.request (.leap e) u.writing := rfl
  obtain ⟨-, hcause, htold⟩ := reportLeap_reported u e
  have hport (p : Port) : u.port p = s.port p := congrArg (fun b : Bank 8 PortCtl => b.get p) hports
  refine ⟨⟨[(.leap e, u.writing)], rfl, by rw [hasked, htrail]; exact rfl⟩, [.leap e.cause],
    noticed_of_toldStatus ⟨hcause, fun p => ?_⟩, by simp⟩
  rw [htold p, hport p]

/-- A LEAP entry without a notice. -/
theorem leapAsked_ask (s : State) (e : LeapEntry) (h : ¬ leapTold e.cause) : LeapAsked [e] s (s.ask (.leap e)) :=
  ⟨⟨[(.leap e, s.writing)], rfl, rfl⟩, [], noticed_nil s, by simpa using h⟩

/-! ## Making the pending record agree (R67, R68) -/

/-- The record with its pending leap withdrawn (R67). -/
theorem withdrawLeap_asked (s : State) (r : PendingLeap) : LeapAsked [withdrawnEntry r] s (s.withdrawLeap r) ∧
    (s.withdrawLeap r).leap = { s.leap with pending := none } ∧
      ∀ i : SegId, (s.withdrawLeap r).segs.get i = unmovedSegment r (s.segs.get i) := by
  obtain ⟨hleap, hsegs, -, -⟩ := shifted_reported (withdrawLeap_eq (s := s) (r := r))
  exact ⟨withdrawLeap_eq ▸ leapAsked_report _ rfl rfl, hleap, hsegs⟩

/-- The entry of a check of R67 that fails, or of a passed one. -/
def madeEntry (l : Leap) (off : Int) (now : Ns) (source : LeapSource) : LeapEntry :=
  if ¬ leapInRange l off then
    { LeapEntry.blank .outOfRange with leap := some l, source := source, offsetBefore := off, offsetAfter := off }
  else if leapPasses l off now then pendingEntry l off source
  else { LeapEntry.blank .late with leap := some l, source := source }

theorem makePending_asked (s : State) (l : Leap) (source : LeapSource) (hnone : s.leap.pending = none) :
    LeapAsked [madeEntry l s.leap.offset s.now source] s (s.makePending l source) ∧
      (s.makePending l source).leap = { s.leap with
        pending := if leapPasses l s.leap.offset s.now then some (pendingOf l s.leap.offset source) else none } ∧
      ∀ i : SegId, (s.makePending l source).segs.get i = if leapPasses l s.leap.offset s.now then
        movedSegment (some (dayEndInstant l.day s.leap.offset)) (leapShift l) (s.segs.get i) else s.segs.get i := by
  have hkept : s.leap = { s.leap with pending := none } := by rw [← hnone]
  unfold madeEntry
  by_cases hrange : leapInRange l s.leap.offset
  · by_cases hpass : leapPasses l s.leap.offset s.now
    · obtain ⟨hleap, hsegs, -, -⟩ := shifted_reported (makePending_pass (source := source) hpass)
      rw [if_neg (not_not.2 hrange), if_pos hpass, if_pos hpass]
      simp only [if_pos hpass]
      exact ⟨makePending_pass (source := source) hpass ▸ leapAsked_report _ rfl rfl, hleap, hsegs⟩
    · have ht : changeInstant l s.leap.offset ≤ s.now := not_lt.1 fun ht => hpass ⟨hrange, ht⟩
      rw [if_neg (not_not.2 hrange), if_neg hpass, if_neg hpass, makePending_late hrange ht]
      simp only [if_neg hpass]
      exact ⟨leapAsked_ask s _ (by simp [LeapEntry.blank]), hkept, fun _ => rfl⟩
  · have hpass : ¬ leapPasses l s.leap.offset s.now := fun h => hrange h.1
    rw [if_pos hrange, if_neg hpass, makePending_outOfRange hrange]
    simp only [if_neg hpass]
    exact ⟨leapAsked_ask s _ (by simp [LeapEntry.blank]), hkept, fun _ => rfl⟩

/-- The entry of a withdrawn record, if there is one. -/
def withdrawnEntries (pending : Option PendingLeap) : List LeapEntry :=
  match pending with
  | some r => [withdrawnEntry r]
  | none => []

/-- A segment after the withdrawal of the record, if there is one. -/
def withdrawnSegment (pending : Option PendingLeap) (g : Segment) : Segment :=
  match pending with
  | some r => unmovedSegment r g
  | none => g

/-- The state with the pending record, if there is one, withdrawn (R67). -/
def withdrawnState (s : State) : State :=
  match s.leap.pending with
  | some r => s.withdrawLeap r
  | none => s

theorem withdrawnState_asked (s : State) : LeapAsked (withdrawnEntries s.leap.pending) s (withdrawnState s) ∧
    (withdrawnState s).leap = { s.leap with pending := none } ∧ (withdrawnState s).now = s.now ∧
      ∀ i : SegId, (withdrawnState s).segs.get i = withdrawnSegment s.leap.pending (s.segs.get i) := by
  unfold withdrawnEntries withdrawnState withdrawnSegment
  cases hp : s.leap.pending with
  | none => exact ⟨leapAsked_nil s, show s.leap = _ by rw [← hp], rfl, fun _ => rfl⟩
  | some r =>
    obtain ⟨hasked, hleap, hsegs⟩ := withdrawLeap_asked s r
    exact ⟨hasked, hleap, rfl, hsegs⟩

section Agree
variable {s : State} {l : Leap} {source : LeapSource} {pending : Option PendingLeap} {off : Int} {now : Ns} {g : Segment}

theorem agreeLeap_none (h : none ≠ s.leap.pending.map PendingLeap.leap) : s.agreeLeap none source = withdrawnState s := if_neg h

theorem agreeLeap_some (h : some l ≠ s.leap.pending.map PendingLeap.leap) :
    s.agreeLeap (some l) source = (withdrawnState s).makePending l source := if_neg h

theorem agreedEntries_none (h : none ≠ pending.map PendingLeap.leap) :
    agreedEntries pending none off now source = withdrawnEntries pending :=
  (if_neg h).trans (List.append_nil _)

theorem agreedEntries_some (h : some l ≠ pending.map PendingLeap.leap) :
    agreedEntries pending (some l) off now source = withdrawnEntries pending ++ [madeEntry l off now source] := by
  unfold agreedEntries madeEntry
  rw [if_neg h]
  refine congrArg (withdrawnEntries pending ++ ·) ?_
  dsimp only
  split_ifs <;> rfl

theorem agreedSegment_none (h : none ≠ pending.map PendingLeap.leap) :
    agreedSegment pending none off now g = withdrawnSegment pending g := if_neg h

theorem agreedSegment_some (h : some l ≠ pending.map PendingLeap.leap) : agreedSegment pending (some l) off now g =
    if leapPasses l off now then movedSegment (some (dayEndInstant l.day off)) (leapShift l) (withdrawnSegment pending g)
    else withdrawnSegment pending g := if_neg h

end Agree

/-- Making the pending record agree with a target. -/
theorem agreeLeap_asked (s : State) (target : Option Leap) (source : LeapSource) :
    LeapAsked (agreedEntries s.leap.pending target s.leap.offset s.now source) s (s.agreeLeap target source) ∧
      (s.agreeLeap target source).leap = { s.leap with
        pending := agreedRecord s.leap.pending target s.leap.offset s.now source } ∧
      ∀ i : SegId, (s.agreeLeap target source).segs.get i =
        agreedSegment s.leap.pending target s.leap.offset s.now (s.segs.get i) := by
  obtain ⟨hasked, hleap, hnow, hsegs⟩ := withdrawnState_asked s
  by_cases hsame : target = s.leap.pending.map PendingLeap.leap
  · have hidle : s.agreeLeap target source = s := if_pos hsame
    have hrecord : agreedRecord s.leap.pending target s.leap.offset s.now source = s.leap.pending := if_pos hsame
    have hentries : agreedEntries s.leap.pending target s.leap.offset s.now source = [] := if_pos hsame
    rw [hidle, hentries, hrecord]
    exact ⟨leapAsked_nil s, rfl, fun i => (if_pos hsame).symm⟩
  · cases target with
    | none =>
      have hrecord : agreedRecord s.leap.pending none s.leap.offset s.now source = none := if_neg hsame
      rw [agreeLeap_none hsame, agreedEntries_none hsame, hrecord]
      exact ⟨hasked, hleap, fun i => (hsegs i).trans (agreedSegment_none hsame).symm⟩
    | some l =>
      have hrecord : agreedRecord s.leap.pending (some l) s.leap.offset s.now source =
          if leapPasses l s.leap.offset s.now then some (pendingOf l s.leap.offset source) else none := if_neg hsame
      obtain ⟨hasked', hleap', hsegs'⟩ := makePending_asked (withdrawnState s) l source (by rw [hleap])
      rw [hleap, hnow] at hasked' hleap' hsegs'
      rw [agreeLeap_some hsame, agreedEntries_some hsame, hrecord]
      refine ⟨hasked.append hasked', hleap', fun i => ?_⟩
      rw [hsegs', hsegs, agreedSegment_some hsame]

/-! ## SET_LEAP (R69, R70) -/

section SetLeap
variable {s : State} {p : Port} {tag : Tag} {l : Leap}

theorem setLeap_refused {code : ResultCode} (h : s.leapNow ≠ .inLeap) (hcode : (s.leap.check l s.now).refusal = some code) :
    s.setLeap p tag l = s.done p tag code false := by
  unfold State.setLeap
  simp only [if_neg h, hcode]

theorem setLeap_stored (h : s.leapNow ≠ .inLeap) (hpass : leapPasses l s.leap.offset s.now) :
    s.setLeap p tag l = (s.storeLeap (some l)).done p tag .ok false := by
  unfold State.setLeap
  simp only [if_neg h, check_pass hpass, LeapCheck.refusal]

/-- Outside LOCKED a stored leap is made pending. -/
theorem storeLeap_of_not_locked {store : Option Leap} (h : s.steer.state ≠ .locked) :
    s.storeLeap store = (s.withLeap { s.leap with store := store }).agreeLeap store .request := if_neg h

/-- In LOCKED a stored leap is compared with the announcement. -/
theorem storeLeap_of_locked {store : Option Leap} (h : s.steer.state = .locked) : s.storeLeap store =
    if ({ s.leap with store := store } : LeapUnit).disagrees then
      (s.withLeap { s.leap with store := store }).ask (.leap { LeapEntry.blank .disagree with
        leap := store, second := s.leap.announced.leap?, source := .request })
    else s.withLeap { s.leap with store := store } := by
  unfold State.storeLeap State.compareLeap
  simp [h]

/-- The STATUS notice, the entry and the answer of a SET_LEAP outside LOCKED, after the changes in `w`. -/
theorem exec_setLeap {c : Instr} {day : BitVec 32}
    (h : c = .setLeapInsert p tag day ∧ l = { kind := .insert, day := day.toNat } ∧ s.canServe .leap p tag (.setLeap day .insert) ∨
      c = .setLeapDelete p tag day ∧ l = { kind := .delete, day := day.toNat } ∧
        s.canServe .leap p tag (.setLeap day .delete)) : exec c s = .next (s.setLeap p tag l) := by
  rcases h with ⟨rfl, rfl, hserve⟩ | ⟨rfl, rfl, hserve⟩
  · exact congrArg Host.Outcome.next (s.takeWith_of_canServe p hserve)
  · exact congrArg Host.Outcome.next (s.takeWith_of_canServe p hserve)

theorem exec_setLeapWithdraw {day : BitVec 32} (hserve : s.canServe .leap p tag (.setLeap day .withdraw)) :
    exec (.setLeapWithdraw p tag day) s =
      .next (if s.leapNow = .inLeap then s.done p tag .badState false else (s.storeLeap none).done p tag .ok false) :=
  congrArg Host.Outcome.next (s.takeWith_of_canServe p hserve)

theorem setLeap_touches {c : Instr} {day : BitVec 32}
    (h : c = .setLeapInsert p tag day ∨ c = .setLeapDelete p tag day) :
    Instr.touches c = [.leap, .segs, .trail, .ports, .lastCause] := by
  rcases h with rfl | rfl <;> rfl

end SetLeap

/-- In LOCKED a SET_LEAP is only stored, and compared with the reference's announcement (R70). -/
theorem setLeap_locked {c : Instr} {s : State} {p : Port} {tag : Tag} {l : Leap}
    (hexec : exec c s = .next ((s.storeLeap (some l)).done p tag .ok false)) (hlocked : s.steer.state = .locked) :
    Replies c s p (.done tag .ok false) [.leap, .trail] fun t =>
      t.leap = { s.leap with store := some l } ∧
      (s.leap.announced = .unknown ∨ s.leap.announced = .leap l → t.trail = s.trail) ∧
      (s.leap.announced = .nothing → State.wrote (.leap { LeapEntry.blank .disagree with
        leap := some l, source := .request }) s t) ∧
      ∀ other : Leap, s.leap.announced = .leap other → other ≠ l → State.wrote (.leap { LeapEntry.blank .disagree with
        leap := some l, second := some other, source := .request }) s t := by
  set a := s.withLeap { s.leap with store := some l }
  have hleap : State.differsIn [.leap] s a := (s.withLeap_frame _).mono (by decide)
  have hstore := storeLeap_of_locked (store := some l) hlocked
  by_cases hdis : ({ s.leap with store := some l } : LeapUnit).disagrees = true
  · rw [hstore, if_pos hdis] at hexec
    set b := a.ask (.leap { LeapEntry.blank .disagree with
        leap := some l, second := s.leap.announced.leap?, source := .request }) with hb
    have hwrote (x : Option Leap) (hx : s.leap.announced.leap? = x) : State.wrote (.leap { LeapEntry.blank .disagree with
        leap := some l, second := x, source := .request }) s (b.done p tag .ok false) := by
      subst hx
      exact TrailUnit.request_wrote a.trail _ a.writing rfl
    refine .of_done hexec rfl (hleap.next (State.ask_frame _ _) (by decide) (by decide)) ⟨rfl, fun h => ?_, fun h => ?_, fun other h _ => ?_⟩
    · rcases h with h | h <;> simp [LeapUnit.disagrees, h] at hdis
    · exact hwrote none (by rw [h]; rfl)
    · exact hwrote (some other) (by rw [h]; rfl)
  · rw [hstore, if_neg hdis] at hexec
    refine .of_done hexec rfl (hleap.mono (by decide)) ⟨rfl, fun _ => rfl, fun h => ?_, fun other h hne => ?_⟩
    · simp [LeapUnit.disagrees, h] at hdis
    · exact absurd (by simpa [LeapUnit.disagrees, h] using hdis) hne.symm

/-- A withdrawn record, with its entry and notice. -/
theorem withdrawLeap_reported (s : State) (r : PendingLeap) : (s.withdrawLeap r).leap = { s.leap with pending := none } ∧
    (∀ i : SegId, (s.withdrawLeap r).segs.get i = unmovedSegment r (s.segs.get i)) ∧
      TrailUnit.Wrote s.trail (s.withdrawLeap r).trail (.leap (withdrawnEntry r)) (s.withdrawLeap r).writing ∧
      State.toldStatus (.leap .withdrawn) s (s.withdrawLeap r) :=
  shifted_reported withdrawLeap_eq

/-- A record made pending, with its entry and notice. -/
theorem makePending_reported {s : State} {l : Leap} {source : LeapSource} (h : leapPasses l s.leap.offset s.now) :
    (s.makePending l source).leap = { s.leap with pending := some (pendingOf l s.leap.offset source) } ∧
      (∀ i : SegId, (s.makePending l source).segs.get i =
        movedSegment (some (dayEndInstant l.day s.leap.offset)) (leapShift l) (s.segs.get i)) ∧
      TrailUnit.Wrote s.trail (s.makePending l source).trail (.leap (pendingEntry l s.leap.offset source))
        (s.makePending l source).writing ∧
      State.toldStatus (.leap .pending) s (s.makePending l source) :=
  shifted_reported (makePending_pass h)

theorem writingTo_of_frame {s t : State} {cs : List Block} (h : State.differsIn cs s t)
    (hcs : .xt ∉ cs ∧ .arb ∉ cs := by decide) : s.writingTo t = t.writing :=
  s.writingTo_eq_writing (congrArg (fun x : XtCounter => (x.ns : Int)) (h .xt hcs.1)) (congrArg Arbiter.seq (h .arb hcs.2))

/-- Settles part of O24: SET_LEAP INSERT and DELETE. -/
theorem setLeapStoresOrMakesPending : SetLeapStoresOrMakesPending := by
  intro p tag day s l c hc inLeap q
  have hexec := exec_setLeap hc
  set a := s.withLeap { s.leap with store := some l }
  have hframe {t : State} (h : exec c s = .next t) : State.differsIn [.leap, .segs, .trail, .ports, .lastCause] s t :=
    exec_differs h (setLeap_touches (hc.imp (·.1) (·.1)))
  refine ⟨fun h => ?_, fun h hrange => ?_, fun h hrange ht => ?_, fun h hrange ht hlocked => ?_, fun h hrange ht hst =>
    ⟨fun hsame => ?_, fun hnone => ?_, fun r hr hne => ?_⟩⟩
  · exact replies_done (hexec.trans (congrArg Host.Outcome.next (if_pos h)))
  · exact replies_done (hexec.trans (congrArg Host.Outcome.next (setLeap_refused h (by rw [check_outOfRange hrange]; rfl))))
  · exact replies_done (hexec.trans (congrArg Host.Outcome.next (setLeap_refused h (by rw [check_late hrange ht]; rfl))))
  · rw [setLeap_stored h ⟨hrange, ht⟩] at hexec
    exact setLeap_locked hexec hlocked
  · obtain ⟨r, hr, rfl⟩ := hsame
    have hidle : s.storeLeap (some r.leap) = s.withLeap { s.leap with store := some r.leap } := by
      rw [storeLeap_of_not_locked hst]
      exact if_pos (congrArg (Option.map PendingLeap.leap) hr).symm
    rw [setLeap_stored h ⟨hrange, ht⟩, hidle] at hexec
    exact .of_done hexec rfl ((s.withLeap_frame _).mono (by decide)) rfl
  · obtain ⟨hleap, hsegs, hwrote, htold⟩ := makePending_reported (s := a) (source := .request) (l := l) ⟨hrange, ht⟩
    have hmade : s.storeLeap (some l) = a.makePending l .request := by
      rw [storeLeap_of_not_locked hst]
      refine (agreeLeap_some ?_).trans ?_
      · rw [State.withLeap_leap, hnone]
        nofun
      · unfold withdrawnState
        rw [State.withLeap_leap, hnone]
    rw [setLeap_stored h ⟨hrange, ht⟩, hmade] at hexec
    have hnoticed : Noticed [.leap .pending] s (a.makePending l .request) := noticed_of_toldStatus (toldStatus_of_same htold)
    obtain ⟨hport, hother⟩ := done_of_oneNotice hnoticed p tag .ok false rfl
    rw [← writingTo_of_frame (State.makePending_frame a l .request)] at hwrote
    exact ⟨_, hexec, hleap, hsegs, hwrote, (done_lastCause hnoticed p tag .ok false), hport, hother, hframe hexec⟩
  · obtain ⟨hleap, hsegs, hwrote, htold⟩ := withdrawLeap_reported a r
    set v := a.withdrawLeap r
    have hvleap : v.leap.offset = s.leap.offset := by rw [hleap]; rfl
    obtain ⟨hleap', hsegs', hwrote', htold'⟩ := makePending_reported (s := v) (source := .request) (l := l)
      (by rw [hvleap]; exact ⟨hrange, ht⟩)
    have hmade : s.storeLeap (some l) = v.makePending l .request := by
      rw [storeLeap_of_not_locked hst]
      refine (agreeLeap_some ?_).trans ?_
      · rw [State.withLeap_leap, hr]
        exact fun h => hne (Option.some.inj h).symm
      · unfold withdrawnState
        rw [State.withLeap_leap, hr]
    rw [setLeap_stored h ⟨hrange, ht⟩, hmade] at hexec
    have hnoticed : Noticed [.leap .withdrawn, .leap .pending] s (v.makePending l .request) :=
      (noticed_of_toldStatus (toldStatus_of_same htold)).trans (noticed_of_toldStatus htold')
    have hwriting : v.writing = ⟨s.now, s.arb.seq, s.leap.offset, .none⟩ := by
      rw [← writingTo_of_frame (State.withdrawLeap_frame a r), State.writingTo, hleap]
      rfl
    rw [hwriting] at hwrote
    rw [hvleap] at hleap' hwrote'
    refine ⟨_, hexec, ?_, fun i => ?_, ⟨v.trail, hwrote, hwrote'⟩, done_lastCause hnoticed p tag .ok false, fun o =>
      ⟨done_hasStatus hnoticed p tag .ok false (by simp) o, done_hasStatus hnoticed p tag .ok false (by simp) o⟩,
      done_enters hnoticed p tag .ok false (le_refl 2), hframe hexec⟩
    · refine hleap'.trans ?_
      rw [hleap]
      rfl
    · refine (hsegs' i).trans ?_
      rw [hsegs, hvleap]
      rfl

/-- Settles part of O24: SET_LEAP WITHDRAW. -/
theorem setLeapWithdrawEmptiesTheStore : SetLeapWithdrawEmptiesTheStore := by
  intro p tag day s hserve
  have hexec := exec_setLeapWithdraw hserve
  set a := s.withLeap { s.leap with store := none }
  refine ⟨fun h => replies_done (hexec.trans (congrArg Host.Outcome.next (if_pos h))), fun h hkept => ?_, fun r h hst hr => ?_⟩
  · have hidle : s.storeLeap none = a := by
      by_cases hlocked : s.steer.state = .locked
      · rw [storeLeap_of_locked hlocked]
        exact if_neg (by simp [LeapUnit.disagrees])
      · rw [storeLeap_of_not_locked hlocked]
        exact if_pos (congrArg (Option.map PendingLeap.leap) (hkept.resolve_left hlocked)).symm
    rw [if_neg h, hidle] at hexec
    exact .of_done hexec rfl ((s.withLeap_frame _).mono (by decide)) rfl
  · obtain ⟨hleap, hsegs, hwrote, htold⟩ := withdrawLeap_reported a r
    have hmade : s.storeLeap none = a.withdrawLeap r := by
      rw [storeLeap_of_not_locked hst]
      refine (agreeLeap_none ?_).trans ?_
      · rw [State.withLeap_leap, hr]
        nofun
      · unfold withdrawnState
        rw [State.withLeap_leap, hr]
    rw [if_neg h, hmade] at hexec
    rw [← writingTo_of_frame (State.withdrawLeap_frame a r)] at hwrote
    have hnoticed : Noticed [.leap .withdrawn] s (a.withdrawLeap r) := noticed_of_toldStatus (toldStatus_of_same htold)
    obtain ⟨hport, -⟩ := done_of_oneNotice hnoticed p tag .ok false rfl
    exact ⟨_, hexec, hleap, hsegs, hwrote, done_lastCause hnoticed p tag .ok false, hport, exec_differs hexec⟩

end Sys2Proof
end


section
/-! PROOFS. The leap work at a second mark: the store taken when LOCKED is left, and the message read in LOCKED (R66 to R72). -/

-- One proof after another: proofs elaborated side by side each hold a thread, more of them than the check has memory for.
set_option Elab.async false

namespace Sys2Proof

open Machine

theorem agreedEntries_length (pending : Option PendingLeap) (target : Option Leap) (off : Int) (now : Ns) (source : LeapSource) :
    (agreedEntries pending target off now source).length ≤ 2 := by
  unfold agreedEntries
  split_ifs
  · exact Nat.zero_le 2
  · rw [List.length_append]
    refine Nat.add_le_add (b := 1) (d := 1) ?_ ?_
    · split <;> simp
    · split
      · split_ifs <;> simp
      · simp

/-! ## The store taken (R71) -/

/-- LOCKED is left with a leap in the store and no leap second in progress. -/
def takesStore (s : State) (old : TimescaleState) (l : Leap) : Prop :=
  (s.steer.state = .holdover ∨ s.steer.state = .fallback) ∧ old = .locked ∧ s.leap.store = some l ∧ s.leapNow ≠ .inLeap

theorem tellLeap_of_takesStore {s : State} {old : TimescaleState} {l : Leap} (h : takesStore s old l) :
    s.tellLeap old = s.agreeLeap (some l) .request := by
  obtain ⟨hst, rfl, hstore, hleap⟩ := h
  unfold State.tellLeap
  rcases hst with hst | hst <;> simp only [hst, hstore, if_neg hleap]

theorem tellLeap_of_locked {s : State} {old : TimescaleState} (h : s.steer.state = .locked) :
    s.tellLeap old = s.withLeap { s.leap with announced := .unknown } := by
  unfold State.tellLeap
  simp only [h]

theorem tellLeap_of_not {s : State} {old : TimescaleState} (hst : s.steer.state ≠ .locked) (h : ∀ l, ¬ takesStore s old l) :
    s.tellLeap old = s := by
  unfold State.tellLeap
  split
  · exact absurd ‹_› hst
  · split
    · refine if_pos (by_contra fun hleap => h _ ⟨.inl ‹_›, rfl, ‹_›, hleap⟩)
    · rfl
  · split
    · refine if_pos (by_contra fun hleap => h _ ⟨.inr ‹_›, rfl, ‹_›, hleap⟩)
    · rfl
  · rfl

/-- What the Leap Unit asks for when it is told of a change of state. -/
theorem tellLeap_asked (s : State) (old : TimescaleState) : ∃ es : List LeapEntry, es.length ≤ 2 ∧ LeapAsked es s (s.tellLeap old) := by
  by_cases hst : s.steer.state = .locked
  · rw [tellLeap_of_locked hst]
    exact ⟨[], Nat.zero_le 2, leapAsked_nil s⟩
  · by_cases h : ∃ l, takesStore s old l
    · obtain ⟨l, h⟩ := h
      rw [tellLeap_of_takesStore h]
      exact ⟨_, agreedEntries_length _ _ _ _ _, (agreeLeap_asked s (some l) .request).1⟩
    · rw [tellLeap_of_not hst (not_exists.1 h)]
      exact ⟨[], Nat.zero_le 2, leapAsked_nil s⟩

/-! ## A message read (R66, R70, R72) -/

theorem correctOffset_asked (s : State) (x : Int) (source : LeapSource) :
    LeapAsked (offsetEntries s.leap x source) s (s.correctOffset x source) := by
  unfold offsetEntries State.correctOffset
  dsimp only
  by_cases h : x = s.leap.offset
  · rw [if_pos h, if_pos (by rw [h, Int.sub_self])]
    exact leapAsked_nil s
  · rw [if_neg h, if_neg (by omega)]
    exact leapAsked_report _ rfl rfl

/-- The held offset that a message leaves (R66, R72). -/
def messageOffset (u : LeapUnit) (m : Message) : Int := if u.pending = none then m.offset else u.offset

/-- The state once a message's offset is read. -/
def offsetRead (s : State) (m : Message) : State :=
  if s.leapNow = .none ∧ s.leap.pending = none then s.correctOffset m.offset .reference else s

theorem offsetRead_asked (s : State) (m : Message) :
    LeapAsked (offsetEntries s.leap (messageOffset s.leap m) .reference) s (offsetRead s m) ∧
      (offsetRead s m).leap = { s.leap with offset := messageOffset s.leap m } ∧
      ∀ i : SegId, (offsetRead s m).segs.get i =
        movedSegment none ((messageOffset s.leap m - s.leap.offset) * 1000000000) (s.segs.get i) := by
  unfold offsetRead messageOffset
  by_cases hp : s.leap.pending = none
  · have hnow : s.leapNow = .none := by
      unfold State.leapNow LeapUnit.reading
      rw [hp]
    obtain ⟨hleap, hsegs, -, -⟩ := correctOffset_reported s m.offset .reference
    rw [if_pos hp, if_pos ⟨hnow, hp⟩]
    refine ⟨correctOffset_asked s m.offset .reference, hleap.trans ?_, hsegs⟩
    unfold offsetMoved
    split_ifs with h
    · rw [h]
    · simp only [hp, Option.map_none]
  · have hnone : offsetEntries s.leap s.leap.offset .reference = [] := if_pos rfl
    rw [if_neg hp, if_neg fun h => hp h.2, hnone]
    refine ⟨leapAsked_nil s, rfl, fun i => ?_⟩
    rw [Int.sub_self, Int.zero_mul, movedSegment_zero]

/-- The DISAGREE entry of the comparison with the store, if they disagree (R70). -/
def disagreeEntries (u : LeapUnit) : List LeapEntry :=
  if u.disagrees then
    [{ LeapEntry.blank .disagree with leap := u.store, second := u.announced.leap?, source := .request }] else []

theorem compareLeap_asked {s : State} (hst : s.steer.state = .locked) : LeapAsked (disagreeEntries s.leap) s s.compareLeap := by
  unfold disagreeEntries State.compareLeap
  cases hdis : s.leap.disagrees
  · simpa using leapAsked_nil s
  · simpa [hst] using leapAsked_ask s { LeapEntry.blank .disagree with
      leap := s.leap.store, second := s.leap.announced.leap?, source := .request } (by simp [LeapEntry.blank])

/-- A message's announcement taken over: the held one, the pending record and the comparison (R66, R67, R70). -/
def announcementRead (s : State) (m : Message) : State :=
  if m.announced = s.leap.announced then s
  else ((s.withLeap { s.leap with announced := m.announced }).agreeLeap m.announced.leap? .reference).compareLeap

theorem readMessage_eq (s : State) (m : Message) : s.readMessage m = announcementRead (offsetRead s m) m := rfl

theorem announcementRead_of_same {s : State} {m : Message} (h : m.announced = s.leap.announced) : announcementRead s m = s := if_pos h

theorem announcementRead_asked {s : State} {m : Message} (hst : s.steer.state = .locked) (h : m.announced ≠ s.leap.announced) :
    LeapAsked (agreedEntries s.leap.pending m.announced.leap? s.leap.offset s.now .reference ++
        disagreeEntries { s.leap with announced := m.announced }) s (announcementRead s m) ∧
      (announcementRead s m).leap = { s.leap with
        announced := m.announced
        pending := agreedRecord s.leap.pending m.announced.leap? s.leap.offset s.now .reference } ∧
      ∀ i : SegId, (announcementRead s m).segs.get i =
        agreedSegment s.leap.pending m.announced.leap? s.leap.offset s.now (s.segs.get i) := by
  set a := s.withLeap { s.leap with announced := m.announced }
  have heq : announcementRead s m = (a.agreeLeap m.announced.leap? .reference).compareLeap := if_neg h
  obtain ⟨hasked, hleap, hsegs⟩ := agreeLeap_asked a m.announced.leap? .reference
  have hlocked : (a.agreeLeap m.announced.leap? .reference).steer.state = .locked :=
    (congrArg SteeringUnit.state (State.agreeLeap_frame a _ _ .steer (by decide))).trans hst
  have hcompare := State.compareLeap_frame (a.agreeLeap m.announced.leap? .reference)
  have hdis := compareLeap_asked hlocked
  rw [hleap] at hdis
  rw [heq]
  refine ⟨hasked.append hdis, (hcompare .leap (by decide)).trans hleap, fun i => ?_⟩
  exact (congrArg (fun b : Bank 64 Segment => b.get i) (hcompare .segs (by decide))).trans (hsegs i)

theorem disagreeEntries_length (u : LeapUnit) : (disagreeEntries u).length ≤ 1 := by
  unfold disagreeEntries
  split_ifs <;> simp

/-- The two records differ in where their armed instants and their drawn close lie alone (R68). -/
def SameArming (g g' : Segment) : Prop := g'.committed = g.committed ∧ g'.armedDay = g.armedDay ∧ g'.defn = g.defn ∧
  (g.armed = none → g'.armed = none)

theorem SameArming.refl (g : Segment) : SameArming g g := ⟨rfl, rfl, rfl, id⟩

theorem SameArming.trans {g g' g'' : Segment} (h : SameArming g g') (h' : SameArming g' g'') : SameArming g g'' := by
  obtain ⟨hcommitted, hday, hdefn, harmed⟩ := h
  obtain ⟨hcommitted', hday', hdefn', harmed'⟩ := h'
  exact ⟨hcommitted'.trans hcommitted, hday'.trans hday, hdefn'.trans hdefn, harmed' ∘ harmed⟩

theorem movedSegment_sameArming (threshold : Option Ns) (amount : Int) (g : Segment) :
    SameArming g (movedSegment threshold amount g) :=
  ⟨rfl, rfl, rfl, fun h => by rw [movedSegment, h]; rfl⟩

theorem agreedSegment_sameArming (pending : Option PendingLeap) (target : Option Leap) (off : Int) (now : Ns) (g : Segment) :
    SameArming g (agreedSegment pending target off now g) := by
  have hback : SameArming g (withdrawnSegment pending g) := by
    unfold withdrawnSegment
    split
    · exact movedSegment_sameArming _ _ g
    · exact .refl g
  by_cases hsame : target = pending.map PendingLeap.leap
  · have hg : agreedSegment pending target off now g = g := if_pos hsame
    rw [hg]
    exact .refl g
  · cases target with
    | none => rwa [agreedSegment_none hsame]
    | some l =>
      rw [agreedSegment_some hsame]
      split_ifs
      · exact hback.trans (movedSegment_sameArming _ _ _)
      · exact hback

/-- What the Leap Unit does at the hand-over of a mark: the entries it asks for, and the armed instants moved. -/
theorem leapHandOver_asked (s : State) (good : Option Measure) :
    ∃ es : List LeapEntry, es.length ≤ 4 ∧ LeapAsked es s (s.leapHandOver good) ∧
      ∀ i : SegId, SameArming (s.segs.get i) ((s.leapHandOver good).segs.get i) := by
  have hidle : ∃ es : List LeapEntry, es.length ≤ 4 ∧ LeapAsked es s s ∧ ∀ i : SegId, SameArming (s.segs.get i) (s.segs.get i) :=
    ⟨[], Nat.zero_le 4, leapAsked_nil s, fun i => .refl _⟩
  unfold State.leapHandOver
  split
  · split
    · split_ifs with h
      · rename_i m _
        rw [readMessage_eq]
        obtain ⟨hasked, hleap, hsegs⟩ := offsetRead_asked s m
        have hmoved (i : SegId) : SameArming (s.segs.get i) ((offsetRead s m).segs.get i) := by
          rw [hsegs]
          exact movedSegment_sameArming _ _ _
        have hfirst := offsetEntries_length s.leap (messageOffset s.leap m) .reference
        have hlocked : (offsetRead s m).steer.state = .locked := by
          unfold offsetRead
          split_ifs
          · exact (congrArg SteeringUnit.state (State.correctOffset_frame s _ _ .steer (by decide))).trans h.1
          · exact h.1
        by_cases hsame : m.announced = (offsetRead s m).leap.announced
        · rw [announcementRead_of_same hsame]
          exact ⟨_, by omega, hasked, hmoved⟩
        · obtain ⟨hasked', -, hsegs'⟩ := announcementRead_asked hlocked hsame
          refine ⟨_, ?_, hasked.append hasked', fun i => (hmoved i).trans ?_⟩
          rotate_left
          · rw [hsegs']
            exact agreedSegment_sameArming _ _ _ _ _
          have hagreed := agreedEntries_length (offsetRead s m).leap.pending m.announced.leap? (offsetRead s m).leap.offset
            (offsetRead s m).now .reference
          have hdis := disagreeEntries_length { (offsetRead s m).leap with announced := m.announced }
          rw [List.length_append, List.length_append]
          omega
      · exact hidle
    · exact hidle
  · exact hidle

/-- Outside LOCKED the hand-over does nothing. -/
theorem leapHandOver_of_not_locked {s : State} (good : Option Measure) (h : s.steer.state ≠ .locked) : s.leapHandOver good = s := by
  unfold State.leapHandOver
  split
  · split
    · exact if_neg fun hc => h hc.1
    · rfl
  · rfl

end Sys2Proof
end


section
/-! PROOFS. The entries of a second mark, stage by stage (R32, R38, R39, R59, R138). -/

-- One proof after another: proofs elaborated side by side each hold a thread, more of them than the check has memory for.
set_option Elab.async false

namespace Sys2Proof

open Machine

/-- Entries of LEAP bodies alone. -/
def AllLeaps (evs : List (TrailBody × Writing)) : Prop := ∀ p ∈ evs, ∃ e, p.1 = .leap e

/-- Entries of SUMMARY bodies alone. -/
def AllSummaries (evs : List (TrailBody × Writing)) : Prop :=
  ∀ p ∈ evs, ∃ port seconds prev counters, p.1 = .summary port seconds prev counters

theorem allSummaries_nil : AllSummaries [] := fun _ h => absurd h List.not_mem_nil

theorem LeapTrail.grew {es : List LeapEntry} {t t' : TrailUnit} (h : LeapTrail es t t') :
    ∃ evs, evs.length = es.length ∧ AllLeaps evs ∧ evs.filterMap (fun p => leapBody p.1) = es ∧ t' = requests t evs := by
  obtain ⟨evs, hevs, htrail⟩ := h
  refine ⟨evs, by simpa using congrArg List.length hevs, fun p hp => ?_, ?_, htrail⟩
  · have hmem : p.1 ∈ es.map TrailBody.leap := hevs ▸ List.mem_map_of_mem hp
    obtain ⟨e, -, he⟩ := List.mem_map.1 hmem
    exact ⟨e, he.symm⟩
  · have hmap : (evs.map Prod.fst).filterMap leapBody = es := by
      rw [hevs, List.filterMap_map]
      exact List.filterMap_some
    rw [← hmap, List.filterMap_map]
    rfl

/-! ## The Trail Unit's work (R138) -/

theorem mark_grew (t : TrailUnit) (w : Writing) : ∃ evs, evs.length ≤ 1 ∧ AllSummaries evs ∧ Grew evs t (t.mark w) := by
  unfold TrailUnit.mark
  dsimp only
  split_ifs
  · refine ⟨[(.summary none (bump t.seconds) t.prevSummary t.counters, w)], le_refl 1, fun p hp => ?_, ?_⟩
    · rw [List.mem_singleton.1 hp]
      exact ⟨_, _, _, _, rfl⟩
    · refine (Grew.of_counted (c := .zero) (n := 0) rfl).trans (.of_requests rfl)
  · exact ⟨[], Nat.zero_le 1, allSummaries_nil, .of_counted (c := t.counters) (n := bump t.seconds) rfl⟩

theorem markStart_grew (first : Bool) (s : State) :
    ∃ evs, evs.length ≤ 1 ∧ AllSummaries evs ∧ Grew evs s.trail (markStart first s).trail := by
  cases first
  · exact ⟨[], Nat.zero_le 1, allSummaries_nil, .refl _⟩
  · exact mark_grew s.trail _

theorem markEnd_grew (first : Bool) (m : Nat) (v : State) :
    ∃ evs, evs.length ≤ 1 ∧ AllSummaries evs ∧ Grew evs v.trail (markEnd first m v).trail := by
  cases first
  · exact mark_grew v.trail _
  · exact ⟨[], Nat.zero_le 1, allSummaries_nil, .refl _⟩

/-! ## The references' stages (R32) -/

/-- The SOURCE entry of a mark's change of selection. -/
def sourceAsked (u : State) : List (TrailBody × Writing) :=
  if u.handOver.newSelection = u.steer.selection then []
  else [(.source (.selection u.steer.selection u.handOver.newSelection), u.writing)]

section Select
variable {s : State}

theorem select_of_same (h : s.newSelection = s.steer.selection) : s.select = s := if_pos h

/-- A change of the selection: its entry and its notice, the announcement UNKNOWN, the disagreement counts cleared. -/
theorem select_of_changed (h : s.newSelection ≠ s.steer.selection) :
    s.select.trail = s.trail.request (.source (.selection s.steer.selection s.newSelection)) s.writing ∧
      s.select.leap = { s.leap with announced := .unknown } ∧
      s.select.refs = s.refs.map fun x => { x with disagree := 0, lastD := none } := by
  have hselect : s.select = ((((s.withSteer { s.steer with selection := s.newSelection }).withLeap
      { s.leap with announced := .unknown }).ask (.source (.selection s.steer.selection s.newSelection))).raiseStatus
        (.selection s.newSelection)).withRefs (s.refs.map fun x => { x with disagree := 0, lastD := none }) := if_neg h
  rw [hselect]
  exact ⟨rfl, rfl, rfl⟩

end Select

theorem markReferences_trail (u : State) : u.markReferences.trail = requests u.trail (sourceAsked u) := by
  have hcross : u.markReferences.trail = u.handOver.select.trail := State.crossCheck_frame _ _ .trail (by decide)
  rw [hcross]
  unfold sourceAsked
  by_cases h : u.handOver.newSelection = u.steer.selection
  · rw [if_pos h, select_of_same h]
    rfl
  · rw [if_neg h, (select_of_changed h).1]
    rfl

theorem markReferences_leap (u : State) : u.markReferences.leap = { u.leap with
    announced := if u.handOver.newSelection = u.steer.selection then u.leap.announced else .unknown } := by
  have hcross : u.markReferences.leap = u.handOver.select.leap := State.crossCheck_frame _ _ .leap (by decide)
  rw [hcross]
  by_cases h : u.handOver.newSelection = u.steer.selection
  · rw [if_pos h, select_of_same h]
    rfl
  · rw [if_neg h]
    exact (select_of_changed h).2.1

/-! ## The state decision -/

theorem enterState_asked (s : State) (st : TimescaleState) :
    ∃ es : List LeapEntry, es.length ≤ 2 ∧ LeapAsked es (s.withSteer { s.steer with state := st }) (s.enterState st) :=
  tellLeap_asked _ _

/-- What the Leap Unit asks for at stage 5 of a mark. -/
theorem decideState_trail (s : State) (changed : Bool) (good : Option Measure) : ∃ evs, evs.length ≤ 2 ∧ AllLeaps evs ∧
    (s.decideState changed good).trail = requests s.trail evs := by
  have hidle {t : State} (h : t.trail = s.trail) : ∃ evs, evs.length ≤ 2 ∧ AllLeaps evs ∧ t.trail = requests s.trail evs :=
    ⟨[], Nat.zero_le 2, fun _ h => absurd h List.not_mem_nil, h⟩
  have henter {y : State} (st : TimescaleState) (h : y.trail = s.trail) :
      ∃ evs, evs.length ≤ 2 ∧ AllLeaps evs ∧ (y.enterState st).trail = requests s.trail evs := by
    obtain ⟨es, hes, hasked⟩ := enterState_asked y st
    obtain ⟨evs, hlength, hleaps, -, htrail⟩ := hasked.1.grew
    exact ⟨evs, hlength.trans_le hes, hleaps, htrail.trans (congrArg (requests · evs) h)⟩
  unfold State.decideState
  split
  · unfold State.decideAcquire
    split
    · exact hidle rfl
    · dsimp only
      generalize (if changed = true then 0 else s.steer.lockCount) + 1 = count
      split_ifs
      · exact hidle rfl
      · exact hidle rfl
      · rw [State.openStamping_frame _ .trail (by decide)]
        exact henter _ rfl
  · unfold State.decideLocked
    split
    · exact henter _ rfl
    · split <;> exact hidle rfl
  · unfold State.decideHoldover
    split
    · exact henter _ rfl
    · exact hidle rfl
  · exact hidle rfl

theorem markSteer_trail (w : State) (changed : Bool) (good : Option Measure) : ∃ evs, evs.length ≤ 2 ∧ AllLeaps evs ∧
    (w.markSteer changed good).trail = requests w.trail evs :=
  decideState_trail (w.withSteer w.steer.takeItems) changed good

/-! ## The report and the evidence (R38, R59) -/

/-- The cause that a mark reports, if it changes the state or the traceable flag (R38, Table 3-3). -/
def markReports (x : State) (old : TimescaleState) (oldTraceable : Bool) : Option TimescaleCause :=
  if x.steer.state ≠ old then some (markCause old x.steer.state)
  else if x.steer.traceable ≠ oldTraceable then some .bound
  else none

theorem reportMark_none {x : State} {old : TimescaleState} {oldTraceable : Bool} (h : markReports x old oldTraceable = none) :
    x.reportMark old oldTraceable = x := by
  unfold markReports at h
  unfold State.reportMark
  split_ifs at h ⊢
  rfl

theorem reportMark_some {x : State} {old : TimescaleState} {oldTraceable : Bool} {cause : TimescaleCause}
    (h : markReports x old oldTraceable = some cause) : x.reportMark old oldTraceable = x.reportTimescale old cause := by
  unfold markReports at h
  unfold State.reportMark
  split_ifs at h ⊢
  · rw [Option.some.inj h]
  · rw [Option.some.inj h]

/-- The TIMESCALE entry of a mark's report. -/
def reportAsked (x : State) (old : TimescaleState) (oldTraceable : Bool) : List (TrailBody × Writing) :=
  match markReports x old oldTraceable with
  | some cause => [(.timescale old x.steer.state cause x.steer.bound x.steer.traceable none, x.writing)]
  | none => []

theorem reportMark_trail (x : State) (old : TimescaleState) (oldTraceable : Bool) :
    (x.reportMark old oldTraceable).trail = requests x.trail (reportAsked x old oldTraceable) := by
  unfold reportAsked
  cases h : markReports x old oldTraceable with
  | none => rw [reportMark_none h]; rfl
  | some cause => rw [reportMark_some h]; rfl

/-- The SECOND_EVIDENCE entry of a mark. -/
def evidenceAsked (y : State) (error : Option Int) : TrailBody × Writing :=
  (.secondEvidence y.steer.state y.steer.selection error y.steer.adj y.steer.bound y.steer.traceable, y.writing)

theorem evidenceStage_trail (y : State) (error : Option Int) : (y.evidenceStage error).trail =
    { requests y.trail [evidenceAsked y error] with
      counters := (requests y.trail [evidenceAsked y error]).counters.second y.steer.bound y.steer.traceable } := rfl

/-! ## All entries of a mark -/

/-- The state after stages 1 to 8 of a mark. -/
def markSteered (first : Bool) (s : State) : State :=
  (markStart first s).markReferences.markSteer (markStart first s).selectionChanges (markStart first s).markGood

/-- The state after a mark's report. -/
def markReported (first : Bool) (s : State) : State := (markSteered first s).reportMark s.steer.state s.steer.traceable

/-- The state after a mark's evidence. -/
def markEvidenced (first : Bool) (s : State) : State :=
  (markReported first s).evidenceStage (markError s.steer.state (markStart first s).markGood)

theorem steerMark_eq (first : Bool) (s : State) :
    (markStart first s).steerMark = (markEvidenced first s).leapHandOver (markStart first s).markGood := by
  have hsteer : (markStart first s).steer = s.steer := markStart_frame first s .steer (by decide)
  unfold markEvidenced markReported markSteered State.steerMark
  rw [← hsteer]
  rfl

theorem sourceAsked_length (u : State) : (sourceAsked u).length ≤ 1 := by
  unfold sourceAsked
  split_ifs <;> simp

theorem reportAsked_length (x : State) (old : TimescaleState) (oldTraceable : Bool) : (reportAsked x old oldTraceable).length ≤ 1 := by
  unfold reportAsked
  split <;> simp

/-- The entries of a mark up to its report, from the LEAP entries of its state decision. -/
def askedBefore (pre dec : List (TrailBody × Writing)) (first : Bool) (s : State) : List (TrailBody × Writing) :=
  pre ++ sourceAsked (markStart first s) ++ dec

/-- The entries of a mark's report and evidence. -/
def askedReport (first : Bool) (s : State) : List (TrailBody × Writing) :=
  reportAsked (markSteered first s) s.steer.state s.steer.traceable

/-- What a mark asks for, stage by stage: `dec` at the state decision and `hand` at the hand-over to the Leap Unit. -/
theorem mark_trail {first : Bool} {s : State} {dec hand : List (TrailBody × Writing)} (m : Nat)
    (hdec : (markSteered first s).trail = requests (markStart first s).markReferences.trail dec)
    (hhand : (markStart first s).steerMark.trail = requests (markEvidenced first s).trail hand) : ∃ pre post,
    (pre.length ≤ 1 ∧ post.length ≤ 1) ∧ (AllSummaries pre ∧ AllSummaries post) ∧
    Grew (askedBefore pre dec first s) s.trail (markSteered first s).trail ∧
    (markReported first s).trail = requests (markSteered first s).trail (askedReport first s) ∧
    Grew [evidenceAsked (markReported first s) (markError s.steer.state (markStart first s).markGood)] (markReported first s).trail
      (markEvidenced first s).trail ∧
    Grew (hand ++ post) (markEvidenced first s).trail (markEnd first m (markStart first s).steerMark).trail := by
  obtain ⟨pre, hpre, hpres, hstart⟩ := markStart_grew first s
  obtain ⟨post, hpost, hposts, hend⟩ := markEnd_grew first m (markStart first s).steerMark
  refine ⟨pre, post, ⟨hpre, hpost⟩, ⟨hpres, hposts⟩, ?_, reportMark_trail _ _ _, ?_, ?_⟩
  · exact (hstart.trans (.of_requests (markReferences_trail _))).trans (.of_requests hdec)
  · exact (Grew.of_requests rfl).trans (.of_counted (n := (requests _ _).seconds) (evidenceStage_trail _ _))
  · exact (Grew.of_requests hhand).trans hend

/-- The LEAP entries of a mark, at the state decision and at the hand-over. -/
theorem mark_leaps (first : Bool) (s : State) : ∃ dec hand, (dec.length ≤ 2 ∧ hand.length ≤ 4) ∧ (AllLeaps dec ∧ AllLeaps hand) ∧
    (markSteered first s).trail = requests (markStart first s).markReferences.trail dec ∧
    (markStart first s).steerMark.trail = requests (markEvidenced first s).trail hand := by
  obtain ⟨dec, hdec, hdecs, hsteered⟩ := markSteer_trail (markStart first s).markReferences (markStart first s).selectionChanges
    (markStart first s).markGood
  obtain ⟨es, hes, hhand, -⟩ := leapHandOver_asked (markEvidenced first s) (markStart first s).markGood
  obtain ⟨hand, hlength, hhands, -, hhanded⟩ := hhand.1.grew
  exact ⟨dec, hand, ⟨hdec, by omega⟩, ⟨hdecs, hhands⟩, hsteered, by rw [steerMark_eq]; exact hhanded⟩

/-- All entries of a mark in one row. -/
theorem mark_grew_all {first : Bool} {s : State} {dec hand : List (TrailBody × Writing)} (m : Nat)
    (hdec : (markSteered first s).trail = requests (markStart first s).markReferences.trail dec)
    (hhand : (markStart first s).steerMark.trail = requests (markEvidenced first s).trail hand) : ∃ pre post,
    (pre.length ≤ 1 ∧ post.length ≤ 1) ∧ (AllSummaries pre ∧ AllSummaries post) ∧
    Grew (askedBefore pre dec first s ++ askedReport first s ++
        [evidenceAsked (markReported first s) (markError s.steer.state (markStart first s).markGood)] ++ (hand ++ post))
      s.trail (markEnd first m (markStart first s).steerMark).trail := by
  obtain ⟨pre, post, hlengths, hkinds, hbefore, hreport, hevidence, hafter⟩ := mark_trail m hdec hhand
  exact ⟨pre, post, hlengths, hkinds, ((hbefore.trans (.of_requests hreport)).trans hevidence).trans hafter⟩

theorem askedBefore_length {pre dec : List (TrailBody × Writing)} (first : Bool) (s : State) (h : pre.length ≤ 1) :
    (askedBefore pre dec first s).length ≤ 2 + dec.length := by
  have hsource := sourceAsked_length (markStart first s)
  unfold askedBefore
  rw [List.length_append, List.length_append]
  omega

theorem askedReport_length (first : Bool) (s : State) : (askedReport first s).length ≤ 1 := reportAsked_length _ _ _

end Sys2Proof
end


section
/-! PROOFS. The selection and the cross-check at a second mark (R30 to R33). -/

-- One proof after another: proofs elaborated side by side each hold a thread, more of them than the check has memory for.
set_option Elab.async false

namespace Sys2Proof

open Machine

/-! ## The best candidate (R31) -/

/-- The best of the references `l` that are candidates, or none without a candidate. -/
def BestOf (v : State) (l : List RefId) (best : Option RefId) : Prop :=
  (∀ r, best = some r → r ∈ l ∧ (v.refs.get r).candidate = true ∧ ∀ q ∈ l, (v.refs.get q).candidate = true →
    (v.refs.get r).priority < (v.refs.get q).priority ∨ (v.refs.get r).priority = (v.refs.get q).priority ∧ r.code ≤ q.code) ∧
  (best = none → ∀ q ∈ l, (v.refs.get q).candidate = false)

theorem BestOf.better {v : State} {l : List RefId} {best : Option RefId} (h : BestOf v l best) {r : RefId}
    (hlater : ∀ b ∈ l, b.code ≤ r.code) : BestOf v (l ++ [r]) (v.better best r) := by
  obtain ⟨hsome, hnone⟩ := h
  unfold State.better
  by_cases hr : (v.refs.get r).candidate = true
  · rw [if_pos hr]
    cases best with
    | none =>
      refine ⟨fun x hx => ?_, nofun⟩
      obtain rfl := Option.some.inj hx
      refine ⟨List.mem_append_right _ (List.mem_singleton.2 rfl), hr, fun q hq hcand => ?_⟩
      rcases List.mem_append.1 hq with hq | hq
      · rw [hnone rfl q hq] at hcand
        cases hcand
      · rw [List.mem_singleton.1 hq]
        exact .inr ⟨rfl, le_refl _⟩
    | some b =>
      obtain ⟨hmem, hb, hbest⟩ := hsome b rfl
      dsimp only
      split_ifs with hlt
      · refine ⟨fun x hx => ?_, nofun⟩
        obtain rfl := Option.some.inj hx
        refine ⟨List.mem_append_right _ (List.mem_singleton.2 rfl), hr, fun q hq hcand => ?_⟩
        rcases List.mem_append.1 hq with hq | hq
        · rcases hbest q hq hcand with h | ⟨h, -⟩
          · exact .inl (hlt.trans h)
          · exact .inl (h ▸ hlt)
        · rw [List.mem_singleton.1 hq]
          exact .inr ⟨rfl, le_refl _⟩
      · refine ⟨fun x hx => ?_, nofun⟩
        obtain rfl := Option.some.inj hx
        refine ⟨List.mem_append_left _ hmem, hb, fun q hq hcand => ?_⟩
        rcases List.mem_append.1 hq with hq | hq
        · exact hbest q hq hcand
        · rw [List.mem_singleton.1 hq]
          have := hlater b hmem
          rcases Nat.lt_or_eq_of_le (not_lt.1 hlt) with h | h
          · exact .inl h
          · exact .inr ⟨h, this⟩
  · rw [if_neg hr]
    refine ⟨fun x hx => ?_, fun hb q hq => ?_⟩
    · obtain ⟨hmem, hx, hbest⟩ := hsome x hx
      refine ⟨List.mem_append_left _ hmem, hx, fun q hq hcand => ?_⟩
      rcases List.mem_append.1 hq with hq | hq
      · exact hbest q hq hcand
      · exact absurd (List.mem_singleton.1 hq ▸ hcand) hr
    · rcases List.mem_append.1 hq with hq | hq
      · exact hnone hb q hq
      · rw [List.mem_singleton.1 hq]
        exact Bool.eq_false_iff.2 hr

theorem bestCandidate_bestOf (v : State) : BestOf v RefId.all v.bestCandidate := by
  have hstart : BestOf v [] none := ⟨nofun, fun _ _ h => absurd h List.not_mem_nil⟩
  have hA := hstart.better (r := .refA) (by decide)
  have hB := hA.better (r := .refB) (by decide)
  exact hB.better (r := .refC) (by decide)

/-! ## The selection of a mark (R31) -/

/-- A candidate, as R31 gives it. -/
abbrev isCandidate (x : RefRecord) : Prop := x.state = .qualified ∧ 1 ≤ x.priority

theorem candidate_iff (x : RefRecord) : x.candidate = true ↔ isCandidate x := by
  simp [RefRecord.candidate, isCandidate]

section Selection
variable {v : State} {r : RefId}

theorem newSelection_held (hmode : v.refCfg.revertive = false) (hsel : v.steer.selection = some r)
    (hr : isCandidate (v.refs.get r)) : v.newSelection = some r := by
  unfold State.newSelection
  simp [hsel, hmode, (candidate_iff _).2 hr]

theorem newSelection_best (h : v.refCfg.revertive = true ∨ ∀ r, v.steer.selection = some r → ¬ isCandidate (v.refs.get r)) :
    v.newSelection = v.bestCandidate := by
  unfold State.newSelection
  split
  · rename_i r hsel
    refine if_neg ?_
    rw [Bool.and_eq_true, candidate_iff]
    rintro ⟨hmode, hr⟩
    rcases h with h | h
    · rw [h] at hmode
      cases hmode
    · exact h r hsel hr
  · rfl

theorem handOver_record (u : State) (r : RefId) : u.handOver.refs.get r = { u.refs.get r with
    waiting := if (match (u.refs.get r).waiting with
      | some h => decide (h.maturity ≤ u.now)
      | none => false) then none else (u.refs.get r).waiting
    ready := none } := by
  refine (PerRef.get_map _ _ _).trans ?_
  unfold RefRecord.ripen
  cases hw : (u.refs.get r).waiting with
  | none => simp [hw]
  | some h => by_cases hr : h.maturity ≤ u.now <;> simp [hr, hw]

end Selection

/-! ## The cross-check (R33) -/

/-- A record before the cross-check, at a mark that changes the selection or not (R30, R32). -/
def clearedRecord (changed : Prop) [Decidable changed] (x : RefRecord) : RefRecord :=
  if changed then { x with disagree := 0, lastD := none } else x

theorem select_record (v : State) (r : RefId) :
    v.select.refs.get r = clearedRecord (v.newSelection ≠ v.steer.selection) (v.refs.get r) := by
  unfold clearedRecord
  by_cases h : v.newSelection = v.steer.selection
  · rw [select_of_same h, if_neg (not_not.2 h)]
  · rw [(select_of_changed h).2.2, if_pos h]
    exact PerRef.get_map _ _ _

theorem crossCheck_record (v : State) (seconds : PerRef (Option Verdict)) (r : RefId) : (v.crossCheck seconds).refs.get r =
    match v.goodSecond seconds with
    | none => v.refs.get r
    | some sel => if v.steer.selection = some r then { v.refs.get r with disagree := 0, lastD := none }
      else (v.refs.get r).compare v.refCfg.limitD sel (seconds.get r) := by
  unfold State.crossCheck
  cases v.goodSecond seconds with
  | none => rfl
  | some sel => exact PerRef.get_mapRef _ _ _

/-! ## The references after a mark -/

/-- A reference's record after the hand-over of a mark (R30). -/
def handedRecord (x : RefRecord) (now : Ns) : RefRecord := { x with
  waiting := if (match x.waiting with
    | some h => decide (h.maturity ≤ now)
    | none => false) then none else x.waiting
  ready := none }

section Marked
variable {first : Bool} {s : State} {m : Nat} {r : RefId}

theorem marked_newSelection (first : Bool) (s : State) (m : Nat) :
    (markEnd first m (markStart first s).steerMark).steer.selection = (markStart first s).handOver.newSelection := by
  rw [marked_selection, State.markReferences_steer]

theorem marked_record (first : Bool) (s : State) (m : Nat) (r : RefId) :
    let t := markEnd first m (markStart first s).steerMark
    let y := clearedRecord (t.steer.selection ≠ s.steer.selection) (handedRecord (s.refs.get r) s.now)
    t.refs.get r = match selectedGood s t with
      | none => y
      | some sel => if t.steer.selection = some r then { y with disagree := 0, lastD := none }
        else y.compare s.refCfg.limitD sel ((markStart first s).seconds.get r) := by
  intro t y
  have hstart := markStart_frame first s
  have hselect := State.select_frame (markStart first s).handOver
  have hsteer : (markStart first s).handOver.steer = s.steer := hstart .steer (by decide)
  have hcfg : (markStart first s).handOver.select.refCfg = s.refCfg :=
    (hselect .refCfg (by decide)).trans (hstart .refCfg (by decide))
  have hrecord : (markStart first s).handOver.select.refs.get r = y := by
    rw [select_record, handOver_record, markStart_now, (hstart .refs (by decide) : (markStart first s).refs = s.refs), hsteer]
    simp only [y, t, marked_newSelection]
    rfl
  have hcross : ((markStart first s).handOver.select.crossCheck (markStart first s).seconds).steer =
      (markStart first s).handOver.select.steer := State.crossCheck_frame _ _ .steer (by decide)
  have hselection : (markStart first s).handOver.select.steer.selection = t.steer.selection := by
    rw [State.select_steer, marked_newSelection]
  have hgood : (markStart first s).handOver.select.goodSecond (markStart first s).seconds = selectedGood s t := by
    rw [selectedGood_marked]
    unfold State.markGood State.markReferences State.goodSecond
    rw [hcross]
  rw [marked_refs]
  refine (crossCheck_record _ _ r).trans ?_
  rw [hgood, hrecord, hselection, hcfg]

end Marked

theorem seconds_good (first : Bool) (s : State) (r : RefId) :
    goodOf ((markStart first s).seconds.get r) = goodHandedOver (s.refs.get r) s.now := by
  have hrefs : (markStart first s).refs = s.refs := markStart_frame first s .refs (by decide)
  rw [State.seconds, PerRef.get_map, hrefs, markStart_now]
  exact (goodHandedOver_eq _ _).symm

section Compare
variable {limit : Nat} {sel o : Measure} {second : Option Verdict} {y : RefRecord}

theorem compare_unqualified (h : y.state ≠ .qualified) : y.compare limit sel second = { y with disagree := 0, lastD := none } := if_pos h

theorem compare_poor (h : y.state = .qualified) (hsecond : goodOf second = none) : y.compare limit sel second = y := by
  unfold RefRecord.compare
  rw [if_neg (not_not.2 h), hsecond]

theorem compare_good (h : y.state = .qualified) (hsecond : goodOf second = some o) : y.compare limit sel second = { y with
    lastD := some (o.e - sel.e).natAbs
    disagree := if limit < (o.e - sel.e).natAbs then min (y.disagree + 1) 3 else 0 } := by
  unfold RefRecord.compare
  rw [if_neg (not_not.2 h), hsecond, ← satAdd_eq_min]

end Compare

/-- A cleared record differs in its count and its last d alone. -/
theorem clearedRecord_eq (changed : Prop) [Decidable changed] (x : RefRecord) : clearedRecord changed x = { x with
    disagree := if changed then 0 else x.disagree
    lastD := if changed then none else x.lastD } := by
  unfold clearedRecord
  split_ifs <;> rfl

/-- The SOURCE entry of a mark that changes the selection, with room for all entries of the mark (R32). -/
theorem marked_source {first : Bool} {s : State} {m : Nat}
    (hchanged : (markEnd first m (markStart first s).steerMark).steer.selection ≠ s.steer.selection)
    (hroom : s.trail.wIx - s.trail.k < 3800) :
    ∃ e ∈ (markEnd first m (markStart first s).steerMark).trail.entries, s.trail.wIx ≤ e.seq ∧
      e.body = .source (.selection s.steer.selection (markEnd first m (markStart first s).steerMark).steer.selection) := by
  obtain ⟨dec, hand, ⟨hdec, hhand⟩, -, hsteered, hhanded⟩ := mark_leaps first s
  obtain ⟨pre, post, ⟨hpre, hpost⟩, -, hgrew⟩ := mark_grew_all m hsteered hhanded
  have hbefore := askedBefore_length (dec := dec) first s hpre
  have hreport := askedReport_length first s
  have hsteer : (markStart first s).steer = s.steer := markStart_frame first s .steer (by decide)
  rw [marked_newSelection] at hchanged ⊢
  have hasked : sourceAsked (markStart first s) =
      [(.source (.selection s.steer.selection (markStart first s).handOver.newSelection), (markStart first s).writing)] := by
    unfold sourceAsked
    rw [hsteer]
    exact if_neg hchanged
  obtain ⟨e, he, hseq, -, hbody⟩ := hgrew.mem_of_room (by simp only [List.length_append, List.length_singleton]; omega)
    (p := (.source (.selection s.steer.selection (markStart first s).handOver.newSelection), (markStart first s).writing))
    (by simp [askedBefore, hasked])
  exact ⟨e, he, hseq, hbody⟩

/-- The hand-over leaves what the selection looks at. -/
theorem handOver_kept (first : Bool) (s : State) : (markStart first s).handOver.steer = s.steer ∧
    (markStart first s).handOver.refCfg = s.refCfg ∧ ∀ r : RefId,
      (isCandidate ((markStart first s).handOver.refs.get r) ↔ isCandidate (s.refs.get r)) ∧
        ((markStart first s).handOver.refs.get r).priority = (s.refs.get r).priority := by
  have hstart := markStart_frame first s
  refine ⟨hstart .steer (by decide), hstart .refCfg (by decide), fun r => ?_⟩
  rw [handOver_record, (hstart .refs (by decide) : (markStart first s).refs = s.refs)]
  exact ⟨Iff.rfl, rfl⟩

/-- The count and the last d of a reference after a mark, by what it and the selected reference measured (R32, R33). -/
theorem marked_counts (first : Bool) (s : State) (m : Nat) (r : RefId) :
    let t := markEnd first m (markStart first s).steerMark
    let x := s.refs.get r
    let changed : Prop := t.steer.selection ≠ s.steer.selection
    ∃ (count : Nat) (d : Option Nat), t.refs.get r = { handedRecord x s.now with disagree := count, lastD := d } ∧
      (selectedGood s t = none → (changed → count = 0 ∧ d = none) ∧ (¬ changed → count = x.disagree ∧ d = x.lastD)) ∧
      ∀ sel : Measure, selectedGood s t = some sel →
        (t.steer.selection = some r ∨ x.state ≠ .qualified → count = 0 ∧ d = none) ∧
        (t.steer.selection ≠ some r → x.state = .qualified →
          (∀ o : Measure, goodHandedOver x s.now = some o →
            d = some (o.e - sel.e).natAbs ∧
              count = if s.refCfg.limitD < (o.e - sel.e).natAbs then min ((if t.steer.selection ≠ s.steer.selection then 0
                else x.disagree) + 1) 3 else 0) ∧
          (goodHandedOver x s.now = none →
            (changed → count = 0 ∧ d = none) ∧ (¬ changed → count = x.disagree ∧ d = x.lastD))) := by
  intro t x changed
  have hz := marked_record first s m r
  have hsecond := seconds_good first s r
  dsimp only at hz
  rw [clearedRecord_eq] at hz
  set c : Nat := if t.steer.selection ≠ s.steer.selection then 0 else x.disagree with hc
  set d : Option Nat := if t.steer.selection ≠ s.steer.selection then none else x.lastD with hd
  have hcleared : (changed → c = 0 ∧ d = none) ∧ (¬ changed → c = x.disagree ∧ d = x.lastD) :=
    ⟨fun h => ⟨if_pos h, if_pos h⟩, fun h => ⟨if_neg h, if_neg h⟩⟩
  cases hgood : selectedGood s t with
  | none =>
    rw [hgood] at hz
    exact ⟨c, d, hz, fun _ => hcleared, nofun⟩
  | some sel =>
    rw [hgood] at hz
    dsimp only at hz
    by_cases hself : t.steer.selection = some r
    · rw [if_pos hself] at hz
      exact ⟨0, none, hz, nofun, fun _ _ => ⟨fun _ => ⟨rfl, rfl⟩, fun h => absurd hself h⟩⟩
    · rw [if_neg hself] at hz
      by_cases hq : x.state = .qualified
      · cases ho : goodHandedOver x s.now with
        | none =>
          replace hz := hz.trans (compare_poor (show _ = _ from hq) (hsecond.trans ho))
          exact ⟨c, d, hz, nofun, fun _ _ => ⟨fun h => absurd hq (h.resolve_left hself), fun _ _ => ⟨nofun, fun _ => hcleared⟩⟩⟩
        | some o =>
          replace hz := hz.trans (compare_good (show _ = _ from hq) (hsecond.trans ho))
          refine ⟨_, _, hz, nofun, fun g hg => ⟨fun h => absurd hq (h.resolve_left hself), fun _ _ => ⟨fun o' ho' => ?_, nofun⟩⟩⟩
          obtain rfl := Option.some.inj hg
          obtain rfl := Option.some.inj ho'
          exact ⟨rfl, rfl⟩
      · replace hz := hz.trans (compare_unqualified (show _ ≠ _ from hq))
        exact ⟨0, none, hz, nofun, fun _ _ => ⟨fun _ => ⟨rfl, rfl⟩, fun _ h => absurd h hq⟩⟩

/-- Settles O15: the hand-over, the selection and the cross-check of a mark, and the entry of a change of selection. -/
theorem secondMarkSelectsAndCrossChecks : Obligations.SecondMarkSelectsAndCrossChecks := by
  intro first s m hm candidate
  have hselection := marked_newSelection first s m
  obtain ⟨hsteer, hcfg, hkept⟩ := handOver_kept first s
  have hcand (r : RefId) : isCandidate ((markStart first s).handOver.refs.get r) ↔ candidate r := (hkept r).1
  have hpriority (r : RefId) : ((markStart first s).handOver.refs.get r).priority = (s.refs.get r).priority := (hkept r).2
  refine ⟨_, exec_secondMark hm, fun r hmode hsel hr => ?_, fun h => ?_, fun r => ?_, marked_source⟩
  · rw [hselection]
    exact newSelection_held (by rw [hcfg]; exact hmode) (by rw [hsteer]; exact hsel) ((hcand r).2 hr)
  · rw [hselection, newSelection_best (by rw [hcfg, hsteer]; exact h.imp_right fun hno r hr => mt (hcand r).1 (hno r hr))]
    obtain ⟨hsome, hnone⟩ := bestCandidate_bestOf (markStart first s).handOver
    have hall (q : RefId) : q ∈ RefId.all := by cases q <;> decide
    refine ⟨fun r hr => ?_, fun hr q hq => ?_⟩
    · obtain ⟨-, hcandidate, hbest⟩ := hsome r hr
      refine ⟨(hcand r).1 ((candidate_iff _).1 hcandidate), fun q hq => ?_⟩
      simpa only [hpriority] using hbest q (hall q) ((candidate_iff _).2 ((hcand q).2 hq))
    · exact Bool.eq_false_iff.1 (hnone hr q (hall q)) ((candidate_iff _).2 ((hcand q).2 hq))
  · exact marked_counts first s m r

end Sys2Proof
end


section
/-! PROOFS. The steering of a second mark in COLD, FALLBACK and ACQUIRE, and the opening of stamping at one (R41, R42, R46, R47, R50,
R56, R96). -/

-- One proof after another: proofs elaborated side by side each hold a thread, more of them than the check has memory for.
set_option Elab.async false

namespace Sys2Proof

open Machine

/-! ## The steering stages in COLD, FALLBACK and ACQUIRE -/

section Steering
variable {w : State} {changed : Bool} {good : Option Measure} {g : Measure}

/-- A mark that leaves COLD or ACQUIRE sets B to its greatest value (R56). -/
theorem markSteer_greatest {y : SteeringUnit} (hy : w.steer.takeItems.decided changed good w.now = y)
    (hst : y.state = .cold ∨ y.state = .acquire) : (w.markSteer changed good).steer = SteeringUnit.retrace { y with bound := max32 } := by
  have hloop : y.loopStage good = y := loopStage_other good (by rcases hst with hst | hst <;> rw [hst] <;> decide)
  rw [markSteer_of hy hloop, boundStage_greatest (z := w.withSteer y) hst]
  rfl

theorem markSteer_cold (hst : w.steer.state = .cold) : (w.markSteer changed good).steer =
    SteeringUnit.retrace { w.steer.takeItems with bound := max32 } := by
  have hst' : w.steer.takeItems.state = .cold := hst
  exact markSteer_greatest (SteeringUnit.decided_other (.inl hst')) (.inl hst')

theorem markSteer_fallback (hst : w.steer.state = .fallback) : (w.markSteer changed good).steer =
    SteeringUnit.retrace { w.steer.takeItems with bound := saturate (w.steer.bound + w.steer.written.growthHRing) } := by
  have hst' : w.steer.takeItems.state = .fallback := hst
  rw [markSteer_of (SteeringUnit.decided_other (.inr hst')) (loopStage_other good (by rw [hst']; decide)),
    boundStage_fallback (z := w.withSteer w.steer.takeItems) hst']
  rfl

/-- A second in ACQUIRE without a GOOD one (R41). -/
theorem markSteer_acquire_poor (hst : w.steer.state = .acquire) : (w.markSteer changed none).steer =
    SteeringUnit.retrace { w.steer.takeItems with lockCount := 0, bound := max32 } := by
  have hst' : w.steer.takeItems.state = .acquire := hst
  exact markSteer_greatest (SteeringUnit.decided_acquire_none hst') (.inr hst')

/-- A GOOD second in ACQUIRE that is too far off asks for a step (R42). -/
theorem markSteer_acquire_far (hst : w.steer.state = .acquire) (hfar : w.steer.wLock < (g.c - g.expected).natAbs) :
    (w.markSteer changed (some g)).steer = SteeringUnit.retrace
      { ({ w.steer.takeItems with eHeld := some g.acquired } : SteeringUnit).askStep g w.now with bound := max32 } := by
  have hst' : w.steer.takeItems.state = .acquire := hst
  exact markSteer_greatest ((SteeringUnit.decided_acquire_some hst').trans (if_pos hfar)) (.inr hst')

/-- The count of GOOD seconds that a mark in ACQUIRE reaches (R41). -/
def lockCounted (x : SteeringUnit) (changed : Bool) : Nat := (if changed then 0 else x.lockCount) + 1

/-- A near GOOD second in ACQUIRE is counted (R41). -/
theorem markSteer_acquire_near (hst : w.steer.state = .acquire) (hnear : (g.c - g.expected).natAbs ≤ w.steer.wLock)
    (hcount : lockCounted w.steer changed < 3) : (w.markSteer changed (some g)).steer = SteeringUnit.retrace
      { w.steer.takeItems with eHeld := some g.acquired, lockCount := lockCounted w.steer changed, bound := max32 } := by
  have hst' : w.steer.takeItems.state = .acquire := hst
  exact markSteer_greatest
    ((SteeringUnit.decided_acquire_some hst').trans ((if_neg (not_lt.2 hnear)).trans (if_pos hcount))) (.inr hst')

theorem opened_of_closed {x : SteeringUnit} (h : x.stampingOpen = false) :
    x.opened = { x with pendingSteps := [], stampingOpen := true } := by
  unfold SteeringUnit.opened
  rw [if_neg (by simp [h])]

/-- The third near GOOD second in a row enters LOCKED, opens stamping and runs the loop (R41, R46, R47). -/
theorem markSteer_acquire_third (hst : w.steer.state = .acquire) (hclosed : w.steer.stampingOpen = false)
    (hnear : (g.c - g.expected).natAbs ≤ w.steer.wLock) (hcount : 3 ≤ lockCounted w.steer changed) :
    (w.markSteer changed (some g)).steer = SteeringUnit.retrace { w.steer.takeItems with
      state := .locked
      stampingOpen := true
      pendingSteps := []
      lockCount := 3
      acqTimer := none
      eHeld := some g.acquired
      integ := (loopUpdate w.steer.written 0 g.acquired).1
      adj := (loopUpdate w.steer.written 0 g.acquired).2
      bound := saturate (w.withSteer { w.steer with eHeld := some g.acquired }).lockedBound } := by
  have hst' : w.steer.takeItems.state = .acquire := hst
  have hdecided : w.steer.takeItems.decided changed (some g) w.now = { w.steer.takeItems with
      eHeld := some g.acquired, lockCount := 3, acqTimer := none, integ := 0, state := .locked, pendingSteps := [], stampingOpen := true } := by
    refine (SteeringUnit.decided_acquire_some hst').trans ((if_neg (not_lt.2 hnear)).trans ((if_neg (not_lt.2 hcount)).trans ?_))
    exact opened_of_closed hclosed
  rw [markSteer_of hdecided (loopStage_locked rfl), boundStage_locked rfl]
  rfl

end Steering

/-! ## Notices to a port -/

/-- The port's requests and service are as before, and at most `n` records have joined its response queue. -/
def Told (n : Nat) (pc pc' : PortCtl) : Prop :=
  pc'.requests = pc.requests ∧ pc'.service = pc.service ∧ ∃ more, pc'.responses = pc.responses ++ more ∧ more.length ≤ n

theorem Told.refl (pc : PortCtl) : Told 0 pc pc := ⟨rfl, rfl, [], (List.append_nil _).symm, le_refl 0⟩

theorem Told.trans {n k : Nat} {pc pc' pc'' : PortCtl} (h : Told n pc pc') (h' : Told k pc' pc'') : Told (n + k) pc pc'' := by
  obtain ⟨hreq, hserv, more, hmore, hlen⟩ := h
  obtain ⟨hreq', hserv', more', hmore', hlen'⟩ := h'
  refine ⟨hreq'.trans hreq, hserv'.trans hserv, more ++ more', by rw [hmore', hmore, List.append_assoc], ?_⟩
  rw [List.length_append]
  omega

theorem notifyStatus_told (pc : PortCtl) (b : StatusBody) : Told 1 pc (pc.notifyStatus b) := by
  refine ⟨notifyStatus_requests, notifyStatus_service, ?_⟩
  unfold PortCtl.notifyStatus
  split_ifs
  · exact ⟨[], (List.append_nil _).symm, Nat.zero_le 1⟩
  · exact ⟨[.status b], rfl, le_refl 1⟩
  · exact ⟨[], (List.append_nil _).symm, Nat.zero_le 1⟩

theorem foldl_told : ∀ (bodies : List StatusBody) (pc : PortCtl), Told bodies.length pc (bodies.foldl PortCtl.notifyStatus pc)
  | [], pc => .refl pc
  | b :: bodies, pc => by
    rw [List.length_cons, Nat.add_comm]
    exact (notifyStatus_told pc b).trans (foldl_told bodies _)

theorem Noticed.told {cs : List StatusCause} {s t : State} (h : Noticed cs s t) (p : Port) : Told cs.length (s.port p) (t.port p) := by
  obtain ⟨-, -, bodies, hbodies, -, hports⟩ := h
  have hlen : bodies.length = cs.length := by simpa using congrArg List.length hbodies
  rw [hports p, ← hlen]
  exact foldl_told bodies _

/-! ## Notices of a mark -/

theorem select_noticed (s : State) : ∃ cs : List StatusCause, cs.length ≤ 1 ∧ Noticed cs s s.select := by
  by_cases h : s.newSelection = s.steer.selection
  · rw [select_of_same h]
    exact ⟨[], Nat.zero_le 1, noticed_nil s⟩
  · have hselect : s.select = ((((s.withSteer { s.steer with selection := s.newSelection }).withLeap
        { s.leap with announced := .unknown }).ask (.source (.selection s.steer.selection s.newSelection))).raiseStatus
          (.selection s.newSelection)).withRefs (s.refs.map fun x => { x with disagree := 0, lastD := none }) := if_neg h
    exact ⟨[.selection s.newSelection], le_refl 1, noticed_of_toldStatus (hselect ▸ State.raiseStatus_toldStatus _ _)⟩

theorem reportMark_noticed (x : State) (old : TimescaleState) (oldTraceable : Bool) :
    Noticed ((markReports x old oldTraceable).toList.map StatusCause.timescale) x (x.reportMark old oldTraceable) := by
  cases h : markReports x old oldTraceable with
  | none =>
    rw [reportMark_none h]
    exact noticed_nil x
  | some cause =>
    rw [reportMark_some h]
    exact noticed_of_toldStatus (reportTimescale_told x old cause)

section MarkPorts
variable (first : Bool) (s : State) (m : Nat) (p : Port)

theorem port_of_ports {s t : State} (h : t.ports = s.ports) (p : Port) : t.port p = s.port p := by
  rw [State.port, State.port, h]

/-- A port before the state decision of a mark: at most the notice of a changed selection has joined. -/
theorem markReferences_told : Told 1 (s.port p) ((markStart first s).markReferences.port p) := by
  obtain ⟨cs, hcs, hnoticed⟩ := select_noticed (markStart first s).handOver
  have hstart : (markStart first s).handOver.port p = s.port p := port_of_ports (markStart_frame first s .ports (by decide)) p
  have hend : (markStart first s).markReferences.port p = (markStart first s).handOver.select.port p :=
    port_of_ports (State.crossCheck_frame _ _ .ports (by decide)) p
  obtain ⟨hreq, hserv, more, hmore, hlen⟩ := hnoticed.told p
  rw [hend, ← hstart]
  exact ⟨hreq, hserv, more, hmore, hlen.trans hcs⟩

theorem evidenced_port : (markEvidenced first s).port p = (markReported first s).port p :=
  port_of_ports (State.evidenceStage_frame _ _ .ports (by decide)) p

theorem ended_port : (markEnd first m (markStart first s).steerMark).port p =
    ((markEvidenced first s).leapHandOver (markStart first s).markGood).port p := by
  rw [← steerMark_eq]
  exact port_of_ports (markEnd_frame first m _ .ports (by decide)) p

/-- A port after the state decision of a mark: notices alone join. -/
theorem marked_told : ∃ n, Told n ((markSteered first s).port p) ((markEnd first m (markStart first s).steerMark).port p) := by
  obtain ⟨es, -, ⟨-, cs, hnoticed, -⟩, -⟩ := leapHandOver_asked (markEvidenced first s) (markStart first s).markGood
  have hreport := (reportMark_noticed (markSteered first s) s.steer.state s.steer.traceable).told p
  have hhand := hnoticed.told p
  rw [evidenced_port] at hhand
  rw [ended_port]
  exact ⟨_, hreport.trans hhand⟩

end MarkPorts

/-! ## The opening of stamping at a mark (R46, R47, R96) -/

/-- The third near GOOD second in a row: the work on ports, segments and commits is the opening of stamping. -/
theorem markSteer_opens {w : State} {changed : Bool} {g : Measure} (hst : w.steer.state = .acquire)
    (hclosed : w.steer.stampingOpen = false) (hnear : (g.c - g.expected).natAbs ≤ w.steer.wLock)
    (hcount : 3 ≤ lockCounted w.steer changed) : ∃ b : State, b.steer.stampingOpen = false ∧
      b.steer.pendingSteps = w.steer.pendingSteps ∧ State.differsIn [.steer, .leap] w b ∧
      (w.markSteer changed (some g)).ports = b.openStamping.ports ∧ (w.markSteer changed (some g)).segs = b.openStamping.segs ∧
      (w.markSteer changed (some g)).commits = b.openStamping.commits := by
  set y : SteeringUnit := { w.steer.takeItems with eHeld := some g.acquired, lockCount := 3, acqTimer := none, integ := 0 }
  set b := (w.withSteer y).enterState .locked
  have hst' : w.steer.takeItems.state = .acquire := hst
  have hdecide : (w.withSteer w.steer.takeItems).decideState changed (some g) = b.openStamping := by
    have hacquire : (w.withSteer w.steer.takeItems).decideState changed (some g) =
        (w.withSteer w.steer.takeItems).decideAcquire changed (some g) := by
      unfold State.decideState
      simp only [State.withSteer_steer, hst']
    exact hacquire.trans ((if_neg (not_lt.2 hnear)).trans (if_neg (not_lt.2 hcount)))
  have hlocked : b = (w.withSteer { y with state := .locked }).withLeap { w.leap with announced := .unknown } :=
    tellLeap_of_locked (s := (w.withSteer y).withSteer { y with state := .locked }) rfl
  have hframe : State.differsIn [.steer, .leap] w b := by
    rw [hlocked]
    exact ((w.withSteer_frame _).mono (by decide)).trans ((State.withLeap_frame _ _).mono (by decide))
  refine ⟨b, ?_, ?_, hframe, ?_⟩
  · rw [hlocked]
    exact hclosed
  · rw [hlocked]
    rfl
  · rw [← hdecide]
    exact ⟨rfl, rfl, rfl⟩

/-- What the requests of a port come to when stamping opens at a mark, between the notices of the mark (R46, R154). -/
theorem answered_between {pc pc' pc'' : PortCtl} {a : List Record} {n : Nat} (hbefore : Told 1 pc pc')
    (hafter : Told n (a.foldl PortCtl.answered pc') pc'') :
    (a = [] → pc''.requests = pc.requests ∧ pc''.service = pc.service) ∧
    (a ≠ [] → pc.responses.length + a.length < 64 → pc''.requests = pc.requests.drop a.length ∧ pc''.service = .untaken ∧
      ∀ r ∈ a, r ∈ pc''.responses) ∧
    ∀ r : Record, a = [r] → 64 ≤ pc.responses.length → pc''.requests = pc.requests ∧ pc''.service = .waiting r false := by
  obtain ⟨hreq, hserv, more, hmore, hlen⟩ := hbefore
  obtain ⟨hreq', hserv', more', hmore', -⟩ := hafter
  have hlength : pc'.responses.length = pc.responses.length + more.length := by rw [hmore, List.length_append]
  refine ⟨fun ha => ?_, fun ha hroom => ?_, fun r ha hfull => ?_⟩
  · subst ha
    exact ⟨hreq'.trans hreq, hserv'.trans hserv⟩
  · rw [foldl_answered_of_room a pc' (by omega)] at hreq' hserv' hmore'
    refine ⟨by rw [hreq', hreq], ?_, fun r hr => ?_⟩
    · rw [hserv']
      exact if_neg (by simpa using ha)
    · rw [hmore']
      exact List.mem_append_left _ (List.mem_append_right _ hr)
  · subst ha
    have hanswered : pc'.answered r = { pc' with service := .waiting r false } := if_neg (by omega)
    rw [List.foldl_cons, List.foldl_nil, hanswered] at hreq' hserv'
    exact ⟨hreq'.trans hreq, hserv'⟩

section Opened
variable {first : Bool} {s : State} {g : Measure} (m : Nat)

theorem marked_segs (i : SegId) : SameArming ((markSteered first s).segs.get i)
    ((markEnd first m (markStart first s).steerMark).segs.get i) := by
  obtain ⟨es, -, -, hsegs⟩ := leapHandOver_asked (markEvidenced first s) (markStart first s).markGood
  have hbefore : (markEvidenced first s).segs = (markSteered first s).segs :=
    (State.evidenceStage_frame _ _ .segs (by decide)).trans (State.reportMark_frame _ _ _ .segs (by decide))
  have hend : (markEnd first m (markStart first s).steerMark).segs =
      ((markEvidenced first s).leapHandOver (markStart first s).markGood).segs := by
    rw [← steerMark_eq]
    exact markEnd_frame first m _ .segs (by decide)
  rw [hend, ← hbefore]
  exact hsegs i

theorem marked_commits : (markEnd first m (markStart first s).steerMark).commits = (markSteered first s).commits := by
  rw [(markEnd_frame first m _ .commits (by decide) : (markEnd first m (markStart first s).steerMark).commits = _), steerMark_eq]
  exact (State.leapHandOver_frame _ _ .commits (by decide)).trans
    ((State.evidenceStage_frame _ _ .commits (by decide)).trans (State.reportMark_frame _ _ _ .commits (by decide)))

/-- A mark that enters LOCKED opens stamping. -/
theorem marked_opened (hst : s.steer.state = .acquire) (hclosed : s.steer.stampingOpen = false)
    (hgood : (markStart first s).markGood = some g) (hnear : (g.c - g.expected).natAbs ≤ s.steer.wLock)
    (hcount : 3 ≤ lockCounted s.steer (markStart first s).selectionChanges) :
    let t := markEnd first m (markStart first s).steerMark
    CommittedMissed s t ∧
      (∀ i : SegId, missedAt (s.segs.get i) s.now → (t.segs.get i).committed = .settled .idle ∧
        (t.segs.get i).armed = none ∧ (t.segs.get i).armedDay = none ∧ (t.segs.get i).defn = (s.segs.get i).defn) ∧
      (∀ i : SegId, ¬ missedAt (s.segs.get i) s.now → (t.segs.get i).committed = (s.segs.get i).committed ∧
        (t.segs.get i).armedDay = (s.segs.get i).armedDay ∧ (t.segs.get i).defn = (s.segs.get i).defn) ∧
      ∀ p : Port, ∃ n, Told 1 (s.port p) ((markStart first s).markReferences.port p) ∧
        Told n ((withdrawnAnswers p s.steer.pendingSteps).foldl PortCtl.answered ((markStart first s).markReferences.port p))
          (t.port p) := by
  intro t
  have hw := markReferences_steer_of first s
  set w := (markStart first s).markReferences
  obtain ⟨b, hopen, hsteps, hframe, hports, hsegs, hcommits⟩ := markSteer_opens (w := w) (g := g)
    (changed := (markStart first s).selectionChanges) (by rw [hw]; exact hst) (by rw [hw]; exact hclosed) (by rw [hw]; exact hnear)
    (by rw [hw]; exact hcount)
  have hx : markSteered first s = w.markSteer (markStart first s).selectionChanges (some g) := by rw [← hgood]; rfl
  obtain ⟨hanswered, hmissed, hmissedSegs, hkeptSegs⟩ := openStamping_spec hopen
  have hbase : State.differsIn [.xt, .trail, .steer, .leap, .refs, .ports, .lastCause] s b :=
    ((markStart_frame first s).mono (by decide)).trans (((State.markReferences_frame _).mono (by decide)).trans (hframe.mono (by decide)))
  have hbsegs : b.segs = s.segs := hbase .segs (by decide)
  have hbcommits : b.commits = s.commits := hbase .commits (by decide)
  have hbnow : b.now = s.now := by
    have hxt : b.xt = (markStart first s).xt :=
      (hframe .xt (by decide)).trans (State.markReferences_frame (markStart first s) .xt (by decide))
    exact (congrArg (fun c : XtCounter => (c.ns : Int)) hxt).trans (markStart_now first s)
  have htcommits : t.commits = b.openStamping.commits := by rw [← hcommits, ← hx]; exact marked_commits m
  have htsegs (i : SegId) : SameArming (b.openStamping.segs.get i) (t.segs.get i) := by
    rw [← hsegs, ← hx]
    exact marked_segs m i
  have hbports (p : Port) : b.port p = w.port p := port_of_ports (hframe .ports (by decide)) p
  have hwsteps : w.steer.pendingSteps = s.steer.pendingSteps := by rw [hw]
  rw [hbsegs, hbnow] at hmissedSegs hkeptSegs
  refine ⟨?_, fun i hi => ?_, fun i hi => ?_, fun p => ?_⟩
  · unfold CommittedMissed at hmissed ⊢
    rwa [htcommits, ← hbcommits, ← hbsegs, ← hbnow]
  · obtain ⟨hcommitted, hday, hdefn, harmed⟩ := htsegs i
    rw [hmissedSegs i (List.mem_finRange i) hi] at hcommitted hday hdefn harmed
    exact ⟨hcommitted, harmed rfl, hday, hdefn⟩
  · obtain ⟨hcommitted, hday, hdefn, -⟩ := htsegs i
    rw [hkeptSegs i (.inr hi)] at hcommitted hday hdefn
    exact ⟨hcommitted, hday, hdefn⟩
  · obtain ⟨n, htold⟩ := marked_told first s m p
    have hxport : (markSteered first s).port p =
        (withdrawnAnswers p s.steer.pendingSteps).foldl PortCtl.answered (w.port p) := by
      rw [hx, port_of_ports hports, hanswered p, hsteps, hwsteps, hbports]
    rw [hxport] at htold
    exact ⟨n, markReferences_told first s p, htold⟩

end Opened

/-! ## Settling the steering of a mark outside LOCKED and HOLDOVER -/

/-- The change of selection at a mark, as the state after it shows it. -/
theorem lockCounted_marked (first : Bool) (s : State) (m : Nat) : lockCounted s.steer (markStart first s).selectionChanges =
    (if (markEnd first m (markStart first s).steerMark).steer.selection ≠ s.steer.selection then 0 else s.steer.lockCount) + 1 := by
  have hsteer : (markStart first s).steer = s.steer := markStart_frame first s .steer (by decide)
  unfold lockCounted State.selectionChanges
  rw [marked_selection, hsteer]
  simp only [decide_eq_true_eq]

theorem secondMarkSteersOutsideLockedAndHoldover : SecondMarkSteersOutsideLockedAndHoldover := by
  intro first s m hm hopen hst
  refine ⟨markEnd first m (markStart first s).steerMark, exec_secondMark hm, marked_traceable first s m, ?_⟩
  have hsteer := marked_steer first m (markStart first s)
  have hgood := selectedGood_marked first m s
  have hsel := marked_selection first m (markStart first s)
  have hrefs := marked_refs first m (markStart first s)
  have hcounted := lockCounted_marked first s m
  have hopened := @marked_opened first s
  have hw := markReferences_steer_of first s
  have hnow : (markStart first s).markReferences.now = s.now := by
    rw [← markStart_now first s]
    exact congrArg (fun c : XtCounter => (c.ns : Int)) (State.markReferences_frame (markStart first s) .xt (by decide))
  set w := (markStart first s).markReferences
  rw [← hgood] at hsteer hopened
  refine ⟨fun hother => ?_, fun hacquire => ⟨fun hnone => ?_, fun g hg => ?_⟩⟩
  · rcases hst with hcold | hfallback | hacquire
    · rw [markSteer_cold (by rw [hw]; exact hcold), takeItems_of_other _ (by rw [hw]; exact (by rw [hcold]; decide)), hw] at hsteer
      rw [hsteer, if_pos hcold]
      rfl
    · have hnot : ¬ s.steer.state = .cold := by rw [hfallback]; decide
      rw [markSteer_fallback (by rw [hw]; exact hfallback), takeItems_of_other _ (by rw [hw]; exact (by rw [hfallback]; decide)),
        hw] at hsteer
      rw [hsteer, if_neg hnot]
      rfl
    · exact absurd hacquire hother
  · rw [hnone, markSteer_acquire_poor (by rw [hw]; exact hacquire),
      takeItems_of_other _ (by rw [hw]; exact (by rw [hacquire]; decide)), hw] at hsteer
    rw [hsteer]
    rfl
  · have hwst : w.steer.state = .acquire := by rw [hw]; exact hacquire
    have hwnot : w.steer.state ≠ .holdover := by rw [hwst]; decide
    have hwl : w.steer.wLock = s.steer.wLock := by rw [hw]
    have hwc (c : Bool) : lockCounted w.steer c = lockCounted s.steer c := by rw [hw]; rfl
    rw [hg] at hsteer
    refine ⟨fun hfar => ?_, fun hnear hcount => ?_, fun hnear hcount => ?_⟩
    · rw [markSteer_acquire_far hwst (by rw [hwl]; exact hfar), takeItems_of_other _ hwnot, hnow, hw] at hsteer
      rw [hsteer]
      rfl
    · rw [← hcounted] at hcount ⊢
      rw [markSteer_acquire_near hwst (by rw [hwl]; exact hnear) (by rw [hwc]; exact hcount), takeItems_of_other _ hwnot, hwc,
        hw] at hsteer
      rw [hsteer]
      rfl
    · rw [← hcounted] at hcount
      have hclosed : s.steer.stampingOpen = false := by rw [hopen, hacquire]; rfl
      obtain ⟨hmissed, hidle, hkept, hports⟩ := hopened (g := g) m hacquire hclosed hg hnear hcount
      refine ⟨?_, hmissed, hidle, hkept, fun p => ?_⟩
      · rw [markSteer_acquire_third hwst (by rw [hw]; exact hclosed) (by rw [hwl]; exact hnear) (by rw [hwc]; exact hcount)] at hsteer
        have hbound := lockedBound_eq (z := w.withSteer { w.steer with eHeld := some g.acquired }) (e := g.acquired) hrefs hsel
          (by rw [hsteer]; rfl) rfl
        rw [hbound, takeItems_of_other _ hwnot, hw] at hsteer
        rw [hsteer]
        rfl
      · obtain ⟨n, hbefore, hafter⟩ := hports p
        exact answered_between hbefore hafter

end Sys2Proof
end


section
/-! PROOFS. The report and the evidence of a second mark in the trail (R38, R59). -/

-- One proof after another: proofs elaborated side by side each hold a thread, more of them than the check has memory for.
set_option Elab.async false

namespace Sys2Proof

open Machine

/-! ## The readings at a mark's report (log entries 13 and 52) -/

theorem enterState_leap_locked (y : State) : (y.enterState .locked).leap = { y.leap with announced := .unknown } := by
  have h : y.enterState .locked = (y.withSteer { y.steer with state := .locked }).withLeap { y.leap with announced := .unknown } :=
    tellLeap_of_locked (s := y.withSteer { y.steer with state := .locked }) rfl
  rw [h]
  rfl

/-- A state decision that ends in LOCKED leaves the offset and the pending record. -/
theorem decideState_leap {w : State} {changed : Bool} {good : Option Measure}
    (h : (w.decideState changed good).steer.state = .locked) :
    ∃ a, (w.decideState changed good).leap = { w.leap with announced := a } := by
  unfold State.decideState at h ⊢
  split at h
  · unfold State.decideAcquire at h ⊢
    split at h
    · exact ⟨_, rfl⟩
    · dsimp only at h ⊢
      generalize (if changed = true then 0 else w.steer.lockCount) + 1 = count at h ⊢
      split_ifs at h ⊢
      · exact ⟨_, rfl⟩
      · exact ⟨_, rfl⟩
      · rw [State.openStamping_frame _ .leap (by decide), enterState_leap_locked]
        exact ⟨_, rfl⟩
  · unfold State.decideLocked at h ⊢
    split at h
    · rw [State.enterState_steer] at h
      exact absurd h nofun
    · split <;> exact ⟨_, rfl⟩
  · unfold State.decideHoldover
    split
    · rw [enterState_leap_locked]
      exact ⟨_, rfl⟩
    · exact ⟨_, rfl⟩
  · exact ⟨_, rfl⟩

theorem markSteer_state (w : State) (changed : Bool) (good : Option Measure) : (w.markSteer changed good).steer.state =
    ((w.withSteer w.steer.takeItems).decideState changed good).steer.state := by
  obtain ⟨b, n, hbound⟩ := boundStage_fields
    (w.withSteer ((w.steer.takeItems.decided changed good w.now).loopStage good)) (decide (w.steer.state = .locked))
  obtain ⟨a, i, hloop⟩ := SteeringUnit.loopStage_eq (x := w.steer.takeItems.decided changed good w.now) (good := good)
  rw [State.markSteer_steer, hbound, hloop, State.decideState_steer]
  rfl

section Readings
variable {first : Bool} {s : State} {m : Nat}

theorem marked_state : (markEnd first m (markStart first s).steerMark).steer = (markSteered first s).steer :=
  marked_steer first m (markStart first s)

/-- A mark that ends in LOCKED has, before the hand-over, the offset and the pending record of before. -/
theorem markSteered_leap (h : (markSteered first s).steer.state = .locked) :
    ∃ a, (markSteered first s).leap = { s.leap with announced := a } := by
  have hstart : (markStart first s).leap = s.leap := markStart_frame first s .leap (by decide)
  have hstate : (((markStart first s).markReferences.withSteer (markStart first s).markReferences.steer.takeItems).decideState
      (markStart first s).selectionChanges (markStart first s).markGood).steer.state = .locked := by
    rw [← markSteer_state]
    exact h
  obtain ⟨a, ha⟩ := decideState_leap hstate
  have hleap : (markSteered first s).leap = { (markStart first s).markReferences.leap with announced := a } := ha
  rw [hleap, markReferences_leap, hstart]
  exact ⟨a, rfl⟩

/-- What the report and the evidence of a mark leave. -/
theorem markReported_frame (first : Bool) (s : State) : State.differsIn [.trail, .ports, .lastCause] (markSteered first s)
    (markReported first s) := (State.reportMark_frame _ _ _).mono (by decide)

theorem markSteered_now (first : Bool) (s : State) : (markSteered first s).now = s.now := by
  have hxt : (markSteered first s).xt = (markStart first s).xt :=
    (State.markSteer_frame _ _ _ .xt (by decide)).trans (State.markReferences_frame (markStart first s) .xt (by decide))
  exact (congrArg (fun c : XtCounter => (c.ns : Int)) hxt).trans (markStart_now first s)

theorem markSteered_arb (first : Bool) (s : State) : (markSteered first s).arb = s.arb :=
  (State.markSteer_frame _ _ _ .arb (by decide)).trans
    ((State.markReferences_frame (markStart first s) .arb (by decide)).trans (markStart_frame first s .arb (by decide)))

/-- Outside LOCKED the leap record at the report is the one that the mark leaves. -/
theorem marked_leap (h : (markSteered first s).steer.state ≠ .locked) :
    (markEnd first m (markStart first s).steerMark).leap = (markSteered first s).leap := by
  have hreported : (markReported first s).steer = (markSteered first s).steer := markReported_frame first s .steer (by decide)
  have hsteer : (markEvidenced first s).steer = (markSteered first s).steer :=
    (State.evidenceStage_frame _ _ .steer (by decide)).trans hreported
  rw [(markEnd_frame first m _ .leap (by decide) : (markEnd first m (markStart first s).steerMark).leap = _), steerMark_eq,
    leapHandOver_of_not_locked _ (by rw [hsteer]; exact h)]
  exact (State.evidenceStage_frame _ _ .leap (by decide)).trans (markReported_frame first s .leap (by decide))

/-- The readings of a mark's report and evidence. -/
theorem markReported_writing : (markReported first s).writing = s.writingTo
    (if (markEnd first m (markStart first s).steerMark).steer.state = .locked then s
     else markEnd first m (markStart first s).steerMark) := by
  have hnow : (markReported first s).now = s.now :=
    (congrArg (fun c : XtCounter => (c.ns : Int)) (markReported_frame first s .xt (by decide))).trans (markSteered_now first s)
  have harb : (markReported first s).arb = s.arb := (markReported_frame first s .arb (by decide)).trans (markSteered_arb first s)
  have hleap : (markReported first s).leap = (markSteered first s).leap := markReported_frame first s .leap (by decide)
  rw [← s.writingTo_eq_writing hnow (by rw [harb])]
  unfold State.writingTo
  rw [hleap, marked_state]
  split_ifs with hlocked
  · obtain ⟨a, ha⟩ := markSteered_leap hlocked
    rw [ha]
    rfl
  · rw [marked_leap hlocked]

end Readings

/-! ## The evidence of a mark (R59) -/

/-- The entry index of a mark's evidence, and the entry itself, with room for the mark's entries. -/
theorem marked_evidence {first : Bool} {s : State} (m : Nat) (hroom : s.trail.wIx - s.trail.k < 3800) :
    let t := markEnd first m (markStart first s).steerMark
    let asked := evidenceAsked (markReported first s) (markError s.steer.state (markStart first s).markGood)
    t.trail.evidence = (markReported first s).trail.wIx ∧ s.trail.wIx ≤ t.trail.evidence ∧
      { seq := t.trail.evidence, written := asked.2, body := asked.1 } ∈ t.trail.entries := by
  intro t asked
  obtain ⟨dec, hand, ⟨hdeclen, hhandlen⟩, ⟨-, hhandleaps⟩, hdec, hhand⟩ := mark_leaps first s
  obtain ⟨pre, post, ⟨hpre, hpost⟩, ⟨-, hposts⟩, hbefore, hreport, hevidence, hafter⟩ := mark_trail m hdec hhand
  have hlength := askedBefore_length (dec := dec) first s hpre
  have hreportLength := askedReport_length first s
  obtain ⟨-, hk, hw⟩ := hbefore.of_room (by omega)
  have hgrew : Grew (askedReport first s) (markSteered first s).trail (markReported first s).trail := .of_requests hreport
  obtain ⟨-, hk', hw'⟩ := hgrew.of_room (by omega)
  obtain ⟨hentries, hk'', hw''⟩ := hevidence.of_room (by rw [List.length_singleton]; omega)
  obtain ⟨hentries', -, -⟩ := hafter.of_room (by rw [List.length_append]; rw [List.length_singleton] at hw''; omega)
  have hother : ∀ p ∈ hand ++ post, p.1.isEvidence = false := fun p hp => by
    rcases List.mem_append.1 hp with hp | hp
    · obtain ⟨e, he⟩ := hhandleaps p hp
      rw [he]
      rfl
    · obtain ⟨_, _, _, _, he⟩ := hposts p hp
      rw [he]
      rfl
  have hindex : t.trail.evidence = (markReported first s).trail.wIx := by
    obtain ⟨c, n, hc⟩ := hevidence
    have hone : requests (markReported first s).trail [asked] = (markReported first s).trail.request asked.1 asked.2 := rfl
    rw [hafter.stepped.evidence hother, hc, hone, request_of_room (by omega)]
    rfl
  refine ⟨hindex, by omega, ?_⟩
  rw [hentries', hentries, hindex]
  exact List.mem_append_left _ (List.mem_append_right _ List.mem_cons_self)

/-! ## Settling the report of a mark (R38) -/

/-- The change that a mark reports, and the cause that it gives (Table 3-3). -/
theorem markReports_of {x t : State} {old : TimescaleState} {oldTraceable : Bool} (h : t.steer = x.steer) :
    markReports x old oldTraceable =
      if t.steer.state ≠ old ∨ t.steer.traceable ≠ oldTraceable then
        some (if t.steer.state = old then .bound else markCause old t.steer.state)
      else none := by
  rw [h]
  unfold markReports
  split_ifs <;> simp_all

/-- What a mark asks for beside its report is no TIMESCALE entry. -/
theorem marked_not_timescale {first : Bool} {s : State} {m : Nat}
    (hnone : markReports (markSteered first s) s.steer.state s.steer.traceable = none) (hok : s.trail.Ok) :
    ∀ e ∈ (markEnd first m (markStart first s).steerMark).trail.entries, s.trail.wIx ≤ e.seq →
      ∀ old new c b flag d, e.body ≠ .timescale old new c b flag d := by
  obtain ⟨dec, hand, -, ⟨hdecs, hhands⟩, hdec, hhand⟩ := mark_leaps first s
  obtain ⟨pre, post, -, ⟨hpres, hposts⟩, hgrew⟩ := mark_grew_all m hdec hhand
  have hreport : askedReport first s = [] := by
    unfold askedReport reportAsked
    simp only [hnone]
  intro e he hseq old new c b flag d hbody
  have hleap (p) (hp : p ∈ dec ++ hand) : p.1 ≠ .timescale old new c b flag d := fun h => by
    obtain ⟨e, he⟩ := (List.mem_append.1 hp).elim (hdecs p) (hhands p)
    rw [he] at h
    exact nomatch h
  have hsum (p) (hp : p ∈ pre ++ post) : p.1 ≠ .timescale old new c b flag d := fun h => by
    obtain ⟨_, _, _, _, he⟩ := (List.mem_append.1 hp).elim (hpres p) (hposts p)
    rw [he] at h
    exact nomatch h
  have hsource (p) (hp : p ∈ sourceAsked (markStart first s)) : p.1 ≠ .timescale old new c b flag d := fun h => by
    unfold sourceAsked at hp
    split_ifs at hp with hsame
    · exact absurd hp List.not_mem_nil
    · rw [List.mem_singleton.1 hp] at h
      exact nomatch h
  rcases hgrew.stepped.entries e he with hold | ⟨p, hp, hpe⟩
  · have := hok.seq_mem hold
    omega
  · rw [hbody] at hpe
    rw [hreport, List.append_nil, askedBefore] at hp
    simp only [List.mem_append, List.mem_singleton] at hp hleap hsum
    rcases hp with (((hp | hp) | hp) | hp) | hp | hp
    · exact hsum p (.inl hp) hpe.symm
    · exact hsource p hp hpe.symm
    · exact hleap p (.inl hp) hpe.symm
    · rw [hp] at hpe
      exact nomatch hpe
    · exact hleap p (.inr hp) hpe.symm
    · exact hsum p (.inr hp) hpe.symm

theorem Noticed.hasStatus {cs : List StatusCause} {s t : State} {c : StatusCause} (h : Noticed cs s t) {p : Port}
    (hc : hasStatus c (s.port p)) : hasStatus c (t.port p) := by
  obtain ⟨-, -, bodies, -, -, hports⟩ := h
  rw [hports p]
  exact hasStatus_foldl (.inl hc)

/-- The entry and the notice of a mark's report. -/
theorem marked_report {first : Bool} {s : State} {cause : TimescaleCause} (m : Nat)
    (hcause : markReports (markSteered first s) s.steer.state s.steer.traceable = some cause) (hok : s.trail.Ok) :
    let t := markEnd first m (markStart first s).steerMark
    (∃ e ∈ t.trail.entries, s.trail.wIx ≤ e.seq ∧ e.written = (markReported first s).writing ∧
      e.body = .timescale s.steer.state t.steer.state cause t.steer.bound t.steer.traceable none ∧
      e.seq + 1 = (markReported first s).trail.wIx) ∧
    ∀ p : Port, hasStatus (.timescale cause) (t.port p) := by
  intro t
  obtain ⟨dec, hand, ⟨-, hhandlen⟩, -, hdec, hhand⟩ := mark_leaps first s
  obtain ⟨pre, post, ⟨-, hpost⟩, -, hbefore, -, hevidence, hafter⟩ := mark_trail m hdec hhand
  have hreported : markReported first s = (markSteered first s).reportTimescale s.steer.state cause := reportMark_some hcause
  obtain ⟨hsteeredOk, -, hle, -⟩ := hbefore.moves hok
  have hwrote := reportTimescale_wrote (markSteered first s) s.steer.state cause
  have hnewest := reportTimescale_newest (markSteered first s) s.steer.state cause
  rw [← hreported] at hwrote hnewest
  obtain ⟨-, hw, -⟩ := hwrote
  have hreportedOk : (markReported first s).trail.Ok := by
    rw [hreported]
    exact (TrailUnit.request_moves _ _ hsteeredOk).1
  refine ⟨⟨_, (hevidence.trans hafter).keeps hreportedOk (List.mem_of_getLast? hnewest) ?_, ?_, rfl, ?_, ?_⟩, fun p => ?_⟩
  · rw [List.length_append, List.length_append, List.length_singleton]
    dsimp only
    omega
  · dsimp only
    omega
  · rw [marked_state]
  · dsimp only
    omega
  · obtain ⟨es, -, ⟨-, cs, hnoticed, -⟩, -⟩ := leapHandOver_asked (markEvidenced first s) (markStart first s).markGood
    rw [ended_port]
    refine hnoticed.hasStatus ?_
    rw [evidenced_port, hreported]
    exact (noticed_of_toldStatus (reportTimescale_told _ _ _)).reaches (List.mem_singleton_self _) p

theorem secondMarkReportsItsChange : SecondMarkReportsItsChange := by
  intro first s m hm hok _
  refine ⟨markEnd first m (markStart first s).steerMark, exec_secondMark hm, ?_⟩
  have hreports := markReports_of (old := s.steer.state) (oldTraceable := s.steer.traceable)
    (marked_state (first := first) (s := s) (m := m))
  have hwriting := markReported_writing (first := first) (s := s) (m := m)
  have hnot := marked_not_timescale (first := first) (s := s) (m := m)
  have hreport := @marked_report first s
  have hevidence := @marked_evidence first s m
  set t := markEnd first m (markStart first s).steerMark
  intro changed cause
  have hcause : (if t.steer.state = s.steer.state then .bound else markCause s.steer.state t.steer.state) = cause := by
    refine if_congr Iff.rfl rfl ?_
    cases s.steer.state <;> rfl
  rw [hcause] at hreports
  refine ⟨fun hchanged => ?_, fun hsame => hnot (hreports.trans (if_neg hsame)) hok⟩
  obtain ⟨⟨e, he, hseq, hwritten, hbody, hnext⟩, hports⟩ := hreport m (hreports.trans (if_pos hchanged)) hok
  refine ⟨⟨e, he, hseq, hwritten.trans hwriting, hbody, fun hroom => ?_⟩, hports⟩
  obtain ⟨hindex, -⟩ := hevidence hroom
  rw [hnext, hindex]

/-- Settles O17: what a second mark does in COLD, FALLBACK and ACQUIRE, and how a mark reports a change. -/
theorem secondMarkSteersInTheOtherStates : Obligations.SecondMarkSteersInTheOtherStates :=
  ⟨secondMarkSteersOutsideLockedAndHoldover, secondMarkReportsItsChange⟩

end Sys2Proof
end


section
/-! PROOFS. A second mark's work in the Tick Unit, the Output Unit and the Trail Unit (R11, R59, R128, R137 to R139). -/

-- One proof after another: proofs elaborated side by side each hold a thread, more of them than the check has memory for.
set_option Elab.async false

namespace Sys2Proof

open Machine

/-! ## The ring's calibration (R11) -/

section Calibrate
variable (t : TickUnit)

theorem calibrate_in {n : Nat} (h : t.calibCount = some n) (hlow : 200000000 ≤ n) (hhigh : n ≤ 300000000) :
    t.calibrate.ringIncrement = 4294967296000000000 / n ∧ t.calibrate.calibrated = true := by
  unfold TickUnit.calibrate
  simp only [h]
  rw [if_pos ⟨hlow, hhigh⟩]
  exact ⟨rfl, rfl⟩

theorem calibrate_out (h : ∀ n, t.calibCount = some n → n < 200000000 ∨ 300000000 < n) :
    t.calibrate.ringIncrement = t.ringIncrement ∧ t.calibrate.calibrated = t.calibrated := by
  unfold TickUnit.calibrate
  cases hn : t.calibCount with
  | none => exact ⟨rfl, rfl⟩
  | some n =>
    have hout : ¬ (ringCountLow ≤ n ∧ n ≤ ringCountHigh) := fun hin => by
      rcases h n hn with hlow | hhigh
      · exact absurd hin.1 (not_le.2 hlow)
      · exact absurd hin.2 (not_le.2 hhigh)
    simp only
    rw [if_neg hout]
    exact ⟨rfl, rfl⟩

theorem calibrate_rest : t.calibrate = { t with
    ringIncrement := t.calibrate.ringIncrement
    calibrated := t.calibrate.calibrated
    calibCount := if t.source = .pll ∧ t.pllMonitor = .confirmed then some 0 else none } := by
  unfold TickUnit.calibrate
  cases t.calibCount with
  | none => rfl
  | some n =>
    simp only
    split_ifs <;> rfl

end Calibrate

section Ends
variable (first : Bool) (s : State) (m : Nat)

theorem marked_tick : (markEnd first m (markStart first s).steerMark).tick = s.tick.calibrate := by
  have htick : (markStart first s).steerMark.tick = s.tick :=
    (State.steerMark_frame (markStart first s) .tick (by decide)).trans (markStart_frame first s .tick (by decide))
  rw [← htick]
  cases first <;> rfl

theorem marked_xt : (markEnd first m (markStart first s).steerMark).xt = { s.xt with markDue := none } := by
  have hxt : (markEnd first m (markStart first s).steerMark).xt = (markStart first s).xt :=
    (markEnd_frame first m _ .xt (by decide)).trans (State.steerMark_frame (markStart first s) .xt (by decide))
  rw [hxt]
  cases first <;> rfl

theorem marked_output (l : Line) : (markEnd first m (markStart first s).steerMark).outputs.get l =
    OutputLine.mark m (s.outputs.get l) := by
  have houtputs : (markStart first s).steerMark.outputs = s.outputs :=
    (State.steerMark_frame (markStart first s) .outputs (by decide)).trans (markStart_frame first s .outputs (by decide))
  have hend : (markEnd first m (markStart first s).steerMark).outputs = (markStart first s).steerMark.outputs.map (OutputLine.mark m) := by
    cases first <;> rfl
  rw [hend, Bank.get_map, houtputs]

end Ends

/-! ## The summary counters over a mark (R59, R137) -/

/-- From `t` to `t'`, at most `n` entries, none a SUMMARY, have been asked for, and one second of bound `b` has been counted. -/
structure CountedSecond (b : Nat) (flag : Bool) (n : Nat) (t t' : TrailUnit) : Prop where
  kept : t'.seconds = t.seconds ∧ t'.interval = t.interval ∧ t'.mode = t.mode ∧ t'.prevSummary = t.prevSummary
  maxBound : t'.counters.maxBound = (t.counters.second b flag).maxBound
  untraceable : t'.counters.untraceable = (t.counters.second b flag).untraceable
  room : t.wIx - t.k + n ≤ 3840 → t'.counters = t.counters.second b flag ∧ t'.k = t.k ∧ t'.wIx ≤ t.wIx + n ∧
    ∃ more, t'.entries = t.entries ++ more

theorem countedSecond_of_requests {t u : TrailUnit} {as bs : List (TrailBody × Writing)} {b : Nat} {flag : Bool} {n : Nat}
    (has : ∀ p ∈ as, p.1.isSummary = false) (hbs : ∀ p ∈ bs, p.1.isSummary = false) (hlen : as.length + bs.length ≤ n)
    (hu : u = { requests t as with counters := (requests t as).counters.second b flag }) :
    CountedSecond b flag n t (requests u bs) := by
  obtain ⟨⟨-, -, -, -, hsummary, hinterval, hmode⟩, hseconds, hbound, huntraceable⟩ := requests_stepped (t := t) (evs := as)
  obtain ⟨⟨-, -, -, -, hsummary', hinterval', hmode'⟩, hseconds', hbound', huntraceable'⟩ := requests_stepped (t := u) (evs := bs)
  refine ⟨⟨?_, ?_, ?_, ?_⟩, ?_, ?_, fun hroom => ?_⟩
  · rw [hseconds', hu]
    exact hseconds
  · rw [hinterval', hu]
    exact hinterval
  · rw [hmode', hu]
    exact hmode
  · rw [hsummary' hbs, hu]
    exact hsummary has
  · rw [hbound', hu, Counters.second, Counters.second]
    exact congrArg (offerMax · b) hbound
  · rw [huntraceable', hu, Counters.second, Counters.second]
    dsimp only
    rw [huntraceable]
  · obtain ⟨hentries, hk, hw, hcounters⟩ := requests_of_room (t := t) (evs := as) (by omega)
    have huk : u.k = t.k := by rw [hu]; exact hk
    have huw : u.wIx = t.wIx + as.length := by rw [hu]; exact hw
    obtain ⟨hentries', hk', hw', hcounters'⟩ := requests_of_room (t := u) (evs := bs) (by omega)
    refine ⟨?_, hk'.trans huk, by omega, numbered t.wIx as ++ numbered u.wIx bs, ?_⟩
    · rw [hcounters', hu]
      dsimp only
      rw [hcounters]
    · rw [hentries', ← List.append_assoc, ← hentries, hu]

theorem AllLeaps.not_summary {evs : List (TrailBody × Writing)} (h : AllLeaps evs) : ∀ p ∈ evs, p.1.isSummary = false := fun p hp => by
  obtain ⟨e, he⟩ := h p hp
  rw [he]
  rfl

theorem sourceAsked_not_summary (u : State) : ∀ p ∈ sourceAsked u, p.1.isSummary = false := by
  unfold sourceAsked
  split_ifs
  · exact fun _ hp => absurd hp List.not_mem_nil
  · intro p hp
    rw [List.mem_singleton.1 hp]
    rfl

theorem askedReport_not_summary (first : Bool) (s : State) : ∀ p ∈ askedReport first s, p.1.isSummary = false := by
  unfold askedReport reportAsked
  cases markReports (markSteered first s) s.steer.state s.steer.traceable with
  | none => exact fun _ hp => absurd hp List.not_mem_nil
  | some cause =>
    intro p hp
    rw [List.mem_singleton.1 hp]
    rfl

/-- What the Steering Unit's and the Leap Unit's work at a mark does to the trail. -/
theorem marked_countedSecond (first : Bool) (s : State) (m : Nat) :
    let t := markEnd first m (markStart first s).steerMark
    CountedSecond t.steer.bound t.steer.traceable 9 (markStart first s).trail (markStart first s).steerMark.trail := by
  intro t
  obtain ⟨dec, hand, ⟨hdeclen, hhandlen⟩, ⟨hdecs, hhands⟩, hdec, hhand⟩ := mark_leaps first s
  have hsourceLength := sourceAsked_length (markStart first s)
  have hreportLength := askedReport_length first s
  set y := markReported first s
  set ev := evidenceAsked y (markError s.steer.state (markStart first s).markGood)
  have hreported : y.trail = requests (markStart first s).trail
      (sourceAsked (markStart first s) ++ dec ++ askedReport first s) := by
    rw [requests_append, requests_append, ← markReferences_trail, ← hdec]
    exact reportMark_trail _ _ _
  have hsteer : t.steer = y.steer := marked_state.trans (markReported_frame first s .steer (by decide)).symm
  have hevidenced : (markEvidenced first s).trail = { requests (markStart first s).trail
      (sourceAsked (markStart first s) ++ dec ++ askedReport first s ++ [ev]) with
        counters := (requests (markStart first s).trail
          (sourceAsked (markStart first s) ++ dec ++ askedReport first s ++ [ev])).counters.second t.steer.bound t.steer.traceable } := by
    rw [requests_append (bs := [ev]), ← hreported, hsteer]
    exact evidenceStage_trail y _
  rw [hhand]
  refine countedSecond_of_requests (fun p hp => ?_) hhands.not_summary ?_ hevidenced
  · simp only [List.mem_append, List.mem_singleton] at hp
    rcases hp with ((hp | hp) | hp) | hp
    · exact sourceAsked_not_summary _ p hp
    · exact hdecs.not_summary p hp
    · exact askedReport_not_summary first s p hp
    · rw [hp]
      rfl
  · simp only [List.length_append, List.length_singleton]
    omega

/-! ## The seconds covered and the summary of AUTO mode (R138, R139) -/

/-- The seconds covered that a mark reaches. -/
def secondsAfter (t : TrailUnit) : Nat := min (t.seconds + 1) 4294967295

/-- A mark writes a summary: AUTO mode, and the interval is reached. -/
def sumsAtMark (t : TrailUnit) : Prop := t.mode = .auto ∧ t.interval ≤ secondsAfter t

section MarkTrail
variable {t : TrailUnit} {w : Writing}

theorem mark_of_not_sums (h : ¬ sumsAtMark t) : t.mark w = { t with seconds := secondsAfter t } :=
  (if_neg (c := sumsAtMark t) h).trans rfl

theorem mark_of_sums (h : sumsAtMark t) : t.mark w =
    TrailUnit.request { t with counters := .zero, seconds := 0 } (.summary none (secondsAfter t) t.prevSummary t.counters) w :=
  (if_pos (c := sumsAtMark t) h).trans rfl

theorem mark_seconds_of_sums (h : sumsAtMark t) : (t.mark w).seconds = 0 := by
  rw [mark_of_sums h]
  obtain ⟨-, hseconds, -⟩ := requests_stepped (t := { t with counters := .zero, seconds := 0 })
    (evs := [(.summary none (secondsAfter t) t.prevSummary t.counters, w)])
  exact hseconds

/-- The summary of a mark, with room for it. -/
theorem mark_of_sums_room (h : sumsAtMark t) (hroom : t.wIx - t.k < 3840) : t.mark w = { t with
    entries := t.entries ++ [{ seq := t.wIx, written := w, body := .summary none (secondsAfter t) t.prevSummary t.counters }]
    wIx := t.wIx + 1
    counters := .zero
    seconds := 0
    prevSummary := t.wIx } := by
  rw [mark_of_sums h, request_of_room (by exact hroom)]
  rfl

end MarkTrail

section CountedSecond
variable {b n : Nat} {flag : Bool} {t t' : TrailUnit}

theorem CountedSecond.secondsAfter (h : CountedSecond b flag n t t') : secondsAfter t' = secondsAfter t := by
  obtain ⟨hseconds, -⟩ := h.kept
  rw [Sys2Proof.secondsAfter, hseconds, Sys2Proof.secondsAfter]

theorem CountedSecond.sums_iff (h : CountedSecond b flag n t t') : sumsAtMark t' ↔ sumsAtMark t := by
  obtain ⟨-, hinterval, hmode, -⟩ := h.kept
  rw [sumsAtMark, sumsAtMark, h.secondsAfter, hinterval, hmode]

end CountedSecond

/-- The trail before the other blocks' work of a mark. -/
theorem markStart_trail (first : Bool) (s : State) :
    (markStart first s).trail = if first then s.trail.mark s.writing else s.trail := by
  cases first <;> rfl

theorem marked_trail (first : Bool) (s : State) (m : Nat) :
    let v := (markStart first s).steerMark
    (markEnd first m v).trail = if first then v.trail else v.trail.mark (markEnd first m v).writing := by
  cases first <;> rfl

/-- The seconds covered and the counters after a mark that writes no summary. -/
theorem marked_not_sums {first : Bool} {s : State} {m : Nat} (h : ¬ sumsAtMark s.trail) :
    let t := markEnd first m (markStart first s).steerMark
    t.trail.seconds = secondsAfter s.trail ∧ t.trail.prevSummary = s.trail.prevSummary ∧
      t.trail.counters.maxBound = (s.trail.counters.second t.steer.bound t.steer.traceable).maxBound ∧
      t.trail.counters.untraceable = (s.trail.counters.second t.steer.bound t.steer.traceable).untraceable ∧
      (s.trail.wIx - s.trail.k < 3800 → t.trail.counters = s.trail.counters.second t.steer.bound t.steer.traceable) := by
  intro t
  have hstart := markStart_trail first s
  have hend := marked_trail first s m
  have hsecond := marked_countedSecond first s m
  have hsums := hsecond.sums_iff
  have hafter := hsecond.secondsAfter
  obtain ⟨⟨hseconds, -, -, hprev⟩, hbound, huntraceable, hroomy⟩ := hsecond
  cases first with
  | false =>
    have hstart' : (markStart false s).trail = s.trail := hstart
    rw [hstart'] at hsums hafter hprev hbound huntraceable hroomy
    have ht : t.trail = { (markStart false s).steerMark.trail with seconds := secondsAfter s.trail } := by
      rw [← hafter, ← mark_of_not_sums (w := t.writing) (hsums.not.2 h)]
      exact hend
    rw [ht]
    exact ⟨rfl, hprev, hbound, huntraceable, fun hroom => (hroomy (by omega)).1⟩
  | true =>
    have hstart' : (markStart true s).trail = { s.trail with seconds := secondsAfter s.trail } := hstart.trans (mark_of_not_sums h)
    rw [hstart'] at hseconds hprev hbound huntraceable hroomy
    have ht : t.trail = (markStart true s).steerMark.trail := hend
    rw [ht]
    exact ⟨hseconds, hprev, hbound, huntraceable, fun hroom => (hroomy (by dsimp only; omega)).1⟩

theorem marked_seconds_of_sums {first : Bool} {s : State} {m : Nat} (h : sumsAtMark s.trail) :
    (markEnd first m (markStart first s).steerMark).trail.seconds = 0 := by
  have hstart := markStart_trail first s
  have hend := marked_trail first s m
  have hsecond := marked_countedSecond first s m
  cases first with
  | false =>
    have hstart' : (markStart false s).trail = s.trail := hstart
    rw [hstart'] at hsecond
    exact (congrArg TrailUnit.seconds hend).trans (mark_seconds_of_sums (hsecond.sums_iff.2 h))
  | true =>
    obtain ⟨⟨hseconds, -⟩, -⟩ := hsecond
    have hstart' : (markStart true s).trail = s.trail.mark s.writing := hstart
    rw [hstart', mark_seconds_of_sums h] at hseconds
    exact (congrArg TrailUnit.seconds hend).trans hseconds

/-- The summary of a mark whose Trail Unit comes last (log entry 12). -/
theorem marked_summary_last {s : State} {m : Nat} (h : sumsAtMark s.trail) (hroom : s.trail.wIx - s.trail.k < 3800) :
    let t := markEnd false m (markStart false s).steerMark
    t.trail.counters = .zero ∧ t.trail.prevSummary + 1 = t.trail.wIx ∧
      t.newestEntry (.summary none (secondsAfter s.trail) s.trail.prevSummary
        (s.trail.counters.second t.steer.bound t.steer.traceable)) := by
  intro t
  have hsecond : CountedSecond t.steer.bound t.steer.traceable 9 s.trail (markStart false s).steerMark.trail :=
    marked_countedSecond false s m
  have hsums := hsecond.sums_iff.2 h
  have hafter := hsecond.secondsAfter
  obtain ⟨⟨-, -, -, hprev⟩, -, -, hroomy⟩ := hsecond
  obtain ⟨hcounters, hk, hw, -⟩ := hroomy (by omega)
  have ht : t.trail = (markStart false s).steerMark.trail.mark t.writing := marked_trail false s m
  rw [mark_of_sums_room hsums (by omega), hcounters, hprev, hafter] at ht
  unfold State.newestEntry
  rw [ht]
  exact ⟨rfl, rfl, List.getLast?_concat ..⟩

/-- The summary of a mark whose Trail Unit comes first (log entry 12). -/
theorem marked_summary_first {s : State} {m : Nat} (h : sumsAtMark s.trail) (hroom : s.trail.wIx - s.trail.k < 3800) :
    let t := markEnd true m (markStart true s).steerMark
    t.trail.counters = Counters.zero.second t.steer.bound t.steer.traceable ∧ t.trail.prevSummary = s.trail.wIx ∧
      { seq := s.trail.wIx, written := s.writing, body := .summary none (secondsAfter s.trail) s.trail.prevSummary s.trail.counters } ∈
        t.trail.entries := by
  intro t
  have hstart : (markStart true s).trail = s.trail.mark s.writing := rfl
  obtain ⟨⟨-, -, -, hprev⟩, -, -, hroomy⟩ := marked_countedSecond true s m
  have ht : t.trail = (markStart true s).steerMark.trail := marked_trail true s m
  rw [hstart, mark_of_sums_room h (by omega)] at hprev hroomy
  obtain ⟨hcounters, -, -, more, hentries⟩ := hroomy (by dsimp only; omega)
  rw [ht, hcounters, hprev, hentries]
  exact ⟨rfl, rfl, List.mem_append_left _ (List.mem_append_right _ List.mem_cons_self)⟩

/-! ## Settling the mark's work in every block -/

/-- Settles O18: a second mark reaches the ring's calibration, the outputs, the evidence and the summary. -/
theorem secondMarkReachesEveryBlock : Obligations.SecondMarkReachesEveryBlock := by
  intro first s m hm
  have hexec := exec_secondMark (first := first) hm
  refine ⟨markEnd first m (markStart first s).steerMark, hexec, marked_xt first s m, ?_⟩
  have hgood := selectedGood_marked first m s
  have hwriting := markReported_writing (first := first) (s := s) (m := m)
  have hevidence := @marked_evidence first s m
  have hsteer : (markReported first s).steer = (markEnd first m (markStart first s).steerMark).steer :=
    (markReported_frame first s .steer (by decide)).trans marked_state.symm
  rw [marked_tick first s m]
  refine ⟨fun n hn hlow hhigh => calibrate_in _ hn hlow hhigh, calibrate_out _, calibrate_rest _, marked_output first s m,
    fun hroom => ?_, ?_, exec_differs hexec⟩
  · obtain ⟨-, hle, hmem⟩ := hevidence hroom
    refine ⟨_, hmem, rfl, hle, hwriting, ?_⟩
    have herror : markError s.steer.state (markStart first s).markGood = (selectedGood s (markEnd first m (markStart first s).steerMark)).map
        fun g => if s.steer.state = .acquire then clampInt (-1073741824) 1073741824 (g.c - g.expected) else g.e := by
      rw [hgood]
      cases (markStart first s).markGood <;> rfl
    rw [herror, evidenceAsked, hsteer]
  · have hlast := @marked_summary_last s m
    have hfirst := @marked_summary_first s m
    have hnot := marked_not_sums (first := first) (s := s) (m := m)
    have hseconds := marked_seconds_of_sums (first := first) (s := s) (m := m)
    intro seconds sums counted roomy
    have hcounted (c : Counters) : c.second (markEnd first m (markStart first s).steerMark).steer.bound
        (markEnd first m (markStart first s).steerMark).steer.traceable = counted c := by
      unfold Counters.second offerMax
      rw [bump_eq_min]
      cases hc : c.maxBound <;> simp only [counted, hc]
    refine ⟨fun h => ?_, hseconds, fun h hroom hf => ?_, fun h hroom hf => ?_⟩
    · rw [← hcounted]
      exact hnot h
    · subst hf
      rw [← hcounted]
      exact hlast h hroom
    · subst hf
      rw [← hcounted]
      obtain ⟨hcounters, hprev, hmem⟩ := hfirst h hroom
      exact ⟨hcounters, hprev, _, hmem, rfl, rfl, rfl⟩

end Sys2Proof
end


section
/-! PROOFS. The leap work of a mark and of a main loss: the store taken when LOCKED is left, and the reference followed in LOCKED (R66
to R72). -/

-- One proof after another: proofs elaborated side by side each hold a thread, more of them than the check has memory for.
set_option Elab.async false

namespace Sys2Proof

open Machine

/-! ## The LEAP entries of a mark -/

theorem AllSummaries.leaps_nil {evs : List (TrailBody × Writing)} (h : AllSummaries evs) :
    evs.filterMap (fun p => leapBody p.1) = [] := by
  refine List.filterMap_eq_nil_iff.2 fun p hp => ?_
  obtain ⟨_, _, _, _, he⟩ := h p hp
  rw [he]
  rfl

theorem sourceAsked_leaps_nil (u : State) : (sourceAsked u).filterMap (fun p => leapBody p.1) = [] := by
  unfold sourceAsked
  split_ifs <;> rfl

theorem askedReport_leaps_nil (first : Bool) (s : State) : (askedReport first s).filterMap (fun p => leapBody p.1) = [] := by
  unfold askedReport reportAsked
  cases markReports (markSteered first s) s.steer.state s.steer.traceable <;> rfl

/-- The LEAP entries of a mark are those of its state decision and of its hand-over. -/
theorem marked_leapEntries {first : Bool} {s : State} {ds hs : List LeapEntry} (m : Nat)
    (hdec : LeapTrail ds (markStart first s).markReferences.trail (markSteered first s).trail)
    (hhand : LeapTrail hs (markEvidenced first s).trail (markStart first s).steerMark.trail) (hlengths : ds.length ≤ 2 ∧ hs.length ≤ 4)
    (hok : s.trail.Ok) (hroom : s.trail.wIx - s.trail.k < 3800) :
    leapEntriesFrom s.trail.wIx (markEnd first m (markStart first s).steerMark).trail = ds ++ hs := by
  obtain ⟨dec, hdeclen, -, hdecs, hdectrail⟩ := hdec.grew
  obtain ⟨hand, hhandlen, -, hhands, hhandtrail⟩ := hhand.grew
  obtain ⟨pre, post, ⟨hpre, hpost⟩, ⟨hpres, hposts⟩, hgrew⟩ := mark_grew_all m hdectrail hhandtrail
  have hbefore := askedBefore_length (dec := dec) first s hpre
  have hreport := askedReport_length first s
  rw [hgrew.leapEntriesFrom hok (by simp only [List.length_append, List.length_singleton]; omega), askedBefore]
  have hevidence : [evidenceAsked (markReported first s) (markError s.steer.state (markStart first s).markGood)].filterMap
      (fun p => leapBody p.1) = [] := rfl
  simp only [List.filterMap_append, hpres.leaps_nil, hposts.leaps_nil, sourceAsked_leaps_nil, askedReport_leaps_nil, hdecs, hhands,
    hevidence, List.nil_append, List.append_nil]

/-- A notice raised before a mark's report stays. -/
theorem marked_hasStatus {first : Bool} {s : State} {m : Nat} {c : StatusCause} {p : Port}
    (h : hasStatus c ((markSteered first s).port p)) : hasStatus c ((markEnd first m (markStart first s).steerMark).port p) := by
  obtain ⟨es, -, ⟨-, cs, hnoticed, -⟩, -⟩ := leapHandOver_asked (markEvidenced first s) (markStart first s).markGood
  rw [ended_port]
  refine hnoticed.hasStatus ?_
  rw [evidenced_port]
  exact (reportMark_noticed (markSteered first s) s.steer.state s.steer.traceable).hasStatus h

/-! ## The store taken when LOCKED is left (R67, R71) -/

/-- Before and after leaving LOCKED with the leap `l` in the store: the pending record agrees with the store. -/
structure TookStore (l : Leap) (s t : State) : Prop where
  leap : t.leap.pending = agreedRecord s.leap.pending (some l) s.leap.offset s.now .request ∧ t.leap.offset = s.leap.offset ∧
    t.leap.store = some l
  segs : ∀ i : SegId, t.segs.get i = agreedSegment s.leap.pending (some l) s.leap.offset s.now (s.segs.get i)
  told : ∀ e ∈ agreedEntries s.leap.pending (some l) s.leap.offset s.now .request, e.cause = .withdrawn ∨ e.cause = .pending →
    ∀ p : Port, hasStatus (.leap e.cause) (t.port p)

theorem TookStore.after {l : Leap} {s t t' : State} (h : TookStore l s t) (hleap : t'.leap = t.leap) (hsegs : t'.segs = t.segs)
    (htold : ∀ (c : StatusCause) (p : Port), hasStatus c (t.port p) → hasStatus c (t'.port p)) : TookStore l s t' := by
  obtain ⟨hrecord, hsegments, hports⟩ := h
  refine ⟨by rw [hleap]; exact hrecord, by rw [hsegs]; exact hsegments, fun e he hc p => htold _ p (hports e he hc p)⟩

theorem enterState_takesStore {b : State} {st : TimescaleState} {l : Leap} (hst : st = .holdover ∨ st = .fallback)
    (hlocked : b.steer.state = .locked) (hstore : b.leap.store = some l) (hleap : b.leapNow ≠ .inLeap) :
    LeapTrail (agreedEntries b.leap.pending (some l) b.leap.offset b.now .request) b.trail (b.enterState st).trail ∧
      TookStore l b (b.enterState st) := by
  have htakes : takesStore (b.withSteer { b.steer with state := st }) b.steer.state l := ⟨hst, hlocked, hstore, hleap⟩
  have henter : b.enterState st = (b.withSteer { b.steer with state := st }).agreeLeap (some l) .request :=
    tellLeap_of_takesStore htakes
  obtain ⟨hasked, hrecord, hsegs⟩ := agreeLeap_asked (b.withSteer { b.steer with state := st }) (some l) .request
  rw [← henter] at hasked hrecord hsegs
  obtain ⟨htrail, cs, hcs, htold⟩ := hasked
  refine ⟨htrail, ?_, hsegs, fun e he hc p => hcs.reaches (htold e he (.inr hc)) p⟩
  rw [hrecord]
  exact ⟨rfl, rfl, hstore⟩

/-- The record that the store is compared with reads the same under another announcement. -/
theorem TookStore.of_same {l : Leap} {s b t : State} (h : TookStore l b t) (hpending : b.leap.pending = s.leap.pending)
    (hoffset : b.leap.offset = s.leap.offset) (hnow : b.now = s.now) (hsegs : b.segs = s.segs) : TookStore l s t := by
  obtain ⟨hrecord, hsegments, hports⟩ := h
  rw [hpending, hoffset, hnow] at hrecord hports
  rw [hpending, hoffset, hnow, hsegs] at hsegments
  exact ⟨hrecord, hsegments, hports⟩

/-! ### At a second mark -/

/-- The state on which a mark that leaves LOCKED enters HOLDOVER (R48). -/
def leftState (first : Bool) (s : State) : State :=
  let w := (markStart first s).markReferences
  (w.withSteer w.steer.takeItems).withSteer { w.steer.takeItems with
    bEntry := w.steer.takeItems.bound, hSeconds := 0, adj := w.steer.takeItems.integ }

/-- Leaving LOCKED at a mark is the state decision without a selection. -/
theorem markSteered_left {first : Bool} {s : State} (hlocked : s.steer.state = .locked)
    (hleft : (markSteered first s).steer.state ≠ .locked) :
    let x := (leftState first s).enterState .holdover
    (markSteered first s).trail = x.trail ∧ (markSteered first s).ports = x.ports ∧ (markSteered first s).leap = x.leap ∧
      (markSteered first s).segs = x.segs := by
  intro x
  set w := (markStart first s).markReferences with hw
  have hwlocked : w.steer.state = .locked := by rw [hw, markReferences_steer_of]; exact hlocked
  have hsteered : markSteered first s = w.markSteer (markStart first s).selectionChanges (markStart first s).markGood := by
    rw [hw]
    rfl
  have hdecide : (w.withSteer w.steer.takeItems).decideState (markStart first s).selectionChanges (markStart first s).markGood =
      (w.withSteer w.steer.takeItems).decideLocked (markStart first s).markGood := by
    have hst : w.steer.takeItems.state = .locked := hwlocked
    unfold State.decideState
    simp only [State.withSteer_steer, hst]
  have hnone : w.steer.selection = none := by
    by_contra hsome
    obtain ⟨r, hr⟩ := Option.ne_none_iff_exists'.1 hsome
    refine hleft ?_
    rw [hsteered, markSteer_state, hdecide]
    have hsel : w.steer.takeItems.selection = some r := hr
    unfold State.decideLocked
    simp only [State.withSteer_steer, hsel]
    cases (markStart first s).markGood <;> exact hwlocked
  have henter : (w.withSteer w.steer.takeItems).decideLocked (markStart first s).markGood =
      (leftState first s).enterState .holdover := by
    unfold State.decideLocked
    split
    · exact rfl
    · rename_i r hr
      have hsome : w.steer.selection = some r := hr
      rw [hnone] at hsome
      exact nomatch hsome
  have hx : x = (w.withSteer w.steer.takeItems).decideState (markStart first s).selectionChanges (markStart first s).markGood :=
    (hdecide.trans henter).symm
  rw [hsteered, hx]
  exact ⟨rfl, rfl, rfl, rfl⟩

/-- Leaving LOCKED at a mark takes the store. -/
theorem marked_takesStore {first : Bool} {s : State} {l : Leap} {m : Nat} (hlocked : s.steer.state = .locked)
    (hstore : s.leap.store = some l) (hleap : s.leapNow ≠ .inLeap) (hok : s.trail.Ok) (hroom : s.trail.wIx - s.trail.k < 3800)
    (hleft : (markEnd first m (markStart first s).steerMark).steer.state ≠ .locked) :
    TookStore l s (markEnd first m (markStart first s).steerMark) ∧
      leapEntriesFrom s.trail.wIx (markEnd first m (markStart first s).steerMark).trail =
        agreedEntries s.leap.pending (some l) s.leap.offset s.now .request := by
  rw [marked_state] at hleft
  set b := leftState first s
  obtain ⟨htrail, hports, hleaps, hsegs⟩ := markSteered_left hlocked hleft
  have hbase : State.differsIn [.xt, .trail, .refs, .ports, .lastCause, .leap, .steer] s b :=
    ((markStart_frame first s).mono (by decide)).trans (((State.markReferences_frame _).mono (by decide)).trans
      (((State.withSteer_frame _ _).mono (by decide)).trans ((State.withSteer_frame _ _).mono (by decide))))
  have hbleap : b.leap = { s.leap with announced := b.leap.announced } := by
    have hstart : (markStart first s).leap = s.leap := markStart_frame first s .leap (by decide)
    have hb : b.leap = (markStart first s).markReferences.leap := rfl
    rw [hb, markReferences_leap, hstart]
  have hbnow : b.now = s.now := by
    rw [← markStart_now first s]
    exact congrArg (fun c : XtCounter => (c.ns : Int)) (State.markReferences_frame (markStart first s) .xt (by decide))
  have hblocked : b.steer.state = .locked := by
    have hb : b.steer.state = (markStart first s).markReferences.steer.state := rfl
    rw [hb, markReferences_steer_of]
    exact hlocked
  have hbnot : b.leapNow ≠ .inLeap := by
    unfold State.leapNow at hleap ⊢
    rw [hbleap, hbnow]
    exact hleap
  have hpending : b.leap.pending = s.leap.pending := by rw [hbleap]
  have hoffset : b.leap.offset = s.leap.offset := by rw [hbleap]
  obtain ⟨hasked, htook⟩ := enterState_takesStore (.inl rfl) hblocked (by rw [hbleap]; exact hstore) hbnot
  rw [hpending, hoffset, hbnow] at hasked
  have hsteered := (htook.of_same hpending hoffset hbnow (hbase .segs (by decide))).after hleaps hsegs
    fun c p => by rw [State.port, State.port, hports]; exact id
  have hevidenced : (markEvidenced first s).steer.state ≠ .locked := by
    have hsteer : (markEvidenced first s).steer = (markSteered first s).steer :=
      (State.evidenceStage_frame _ _ .steer (by decide)).trans (markReported_frame first s .steer (by decide))
    rw [hsteer]
    exact hleft
  have hidle : (markStart first s).steerMark = markEvidenced first s := by
    rw [steerMark_eq, leapHandOver_of_not_locked _ hevidenced]
  have hmarkedSegs : (markEnd first m (markStart first s).steerMark).segs = (markSteered first s).segs := by
    rw [(markEnd_frame first m _ .segs (by decide) : (markEnd first m (markStart first s).steerMark).segs = _), hidle]
    exact (State.evidenceStage_frame _ _ .segs (by decide)).trans (markReported_frame first s .segs (by decide))
  refine ⟨hsteered.after (marked_leap hleft) hmarkedSegs fun c p => marked_hasStatus, ?_⟩
  refine (marked_leapEntries m (hs := []) (htrail ▸ hasked) ⟨[], rfl, by rw [hidle]; rfl⟩
    ⟨agreedEntries_length _ _ _ _ _, Nat.zero_le 4⟩ hok hroom).trans (List.append_nil _)

/-! ### At a main loss -/

/-- The report of a change of state after the store has been taken. -/
theorem TookStore.reported {s x : State} {l : Leap} {es : List LeapEntry} (htook : TookStore l s x)
    (hasked : LeapTrail es s.trail x.trail) (hlength : es.length ≤ 2) (hok : s.trail.Ok) (hroom : s.trail.wIx - s.trail.k < 3800)
    (old : TimescaleState) (cause : TimescaleCause) : TookStore l s (x.reportTimescale old cause) ∧
      leapEntriesFrom s.trail.wIx (x.reportTimescale old cause).trail = es := by
  refine ⟨htook.after rfl rfl fun c p h => (noticed_of_toldStatus (reportTimescale_told x old cause)).hasStatus h, ?_⟩
  obtain ⟨evs, hevs, -, hleaps, htrail⟩ := hasked.grew
  have hgrew : Grew (evs ++ [(.timescale old x.steer.state cause x.steer.bound x.steer.traceable none, x.writing)]) s.trail
      (x.reportTimescale old cause).trail := (Grew.of_requests htrail).trans (.of_requests rfl)
  have hlen : evs.length ≤ 2 := hevs.trans_le hlength
  rw [hgrew.leapEntriesFrom hok (by rw [List.length_append, List.length_singleton]; omega), List.filterMap_append, hleaps]
  exact List.append_nil _

/-- Leaving LOCKED at a main loss takes the store. -/
theorem mainLoss_takesStore {s : State} {l : Leap} (hlocked : s.steer.state = .locked) (hstore : s.leap.store = some l)
    (hleap : s.leapNow ≠ .inLeap) (hok : s.trail.Ok) (hroom : s.trail.wIx - s.trail.k < 3800) :
    TookStore l s s.mainLoss ∧
      leapEntriesFrom s.trail.wIx s.mainLoss.trail = agreedEntries s.leap.pending (some l) s.leap.offset s.now .request := by
  have hnot : ¬ s.steer.state = .acquire := by rw [hlocked]; decide
  have hentered : lossEntered s = ((s.withTick (s.tick.lost s.steer.state s.now)).withSteer s.steer).enterState .fallback := by
    unfold lossEntered
    rw [if_neg hnot, if_neg hnot]
  obtain ⟨hasked, htook⟩ := enterState_takesStore (b := (s.withTick (s.tick.lost s.steer.state s.now)).withSteer s.steer)
    (.inr rfl) hlocked hstore hleap
  rw [← hentered] at hasked htook
  rw [mainLoss_eq (.inr (.inl hlocked))]
  exact (htook.of_same (s := s) rfl rfl rfl rfl).reported hasked (agreedEntries_length _ _ _ _ _) hok hroom _ _

/-! ### Settling SET_LEAP and the store taken -/

/-- Settles part of O24: the store taken when LOCKED is left. -/
theorem leavingLockedTakesTheStore : LeavingLockedTakesTheStore := by
  intro c s l hlocked hstore hleap leaves entries hleaves hok hroom
  have hloss (tick : TickUnit) := mainLoss_takesStore (s := s.withTick tick) hlocked hstore hleap hok hroom
  have hnot : ¬ returnEdge s := fun hedge => by
    have hfallback := hlocked.symm.trans hedge.1
    exact nomatch hfallback
  rcases hleaves with ⟨first, m, rfl, hm⟩ | ⟨hpresent, hconfirmed, ⟨rfl, hgap⟩ | ⟨rfl, hphase⟩⟩
  · refine ⟨_, exec_secondMark hm, fun hleft => ?_⟩
    obtain ⟨⟨⟨hrecord, hoffset, hkept⟩, hsegs, htold⟩, hentries⟩ := marked_takesStore (m := m) hlocked hstore hleap hok hroom hleft
    exact ⟨hrecord, hoffset, hkept, hsegs, hentries, htold⟩
  · obtain ⟨⟨⟨hrecord, hoffset, hkept⟩, hsegs, htold⟩, hentries⟩ := hloss (tickMainAbsent s.tick)
    refine ⟨_, ?_, fun _ => ⟨hrecord, hoffset, hkept, hsegs, hentries, htold⟩⟩
    rw [exec_mainAbsent hpresent hgap, finishReturn_of_no_edge hnot, if_pos hconfirmed]
  · obtain ⟨⟨⟨hrecord, hoffset, hkept⟩, hsegs, htold⟩, hentries⟩ := hloss (tickLockFallen s.tick)
    refine ⟨_, ?_, fun _ => ⟨hrecord, hoffset, hkept, hsegs, hentries, htold⟩⟩
    rw [exec_pllLockFallen hpresent, finishReturn_of_no_edge hnot, if_neg (by simp [hphase]), if_pos hconfirmed]

/-- Settles O24: SET_LEAP with its three actions, and the store taken when LOCKED is left. -/
theorem setLeapStoresPendsOrWithdraws : Obligations.SetLeapStoresPendsOrWithdraws :=
  ⟨leavingLockedTakesTheStore, setLeapStoresOrMakesPending, setLeapWithdrawEmptiesTheStore⟩

end Sys2Proof
end


section
/-! PROOFS. The reference followed at a second mark in LOCKED (R66, R67, R68, R70, R72). -/

-- One proof after another: proofs elaborated side by side each hold a thread, more of them than the check has memory for.
set_option Elab.async false

namespace Sys2Proof

open Machine

/-! ## The state at the hand-over -/

/-- A GOOD second in LOCKED leaves the leap record, the segments and the trail to the hand-over. -/
theorem markSteered_stayed {first : Bool} {s : State} {g : Measure} {r : RefId} (hlocked : s.steer.state = .locked)
    (hgood : (markStart first s).markGood = some g) (hsel : (markStart first s).markReferences.steer.selection = some r) :
    let w := (markStart first s).markReferences
    (markSteered first s).steer.state = .locked ∧ (markSteered first s).steer.selection = some r ∧
      (markSteered first s).trail = w.trail ∧ (markSteered first s).leap = w.leap ∧ (markSteered first s).segs = w.segs := by
  intro w
  have hwlocked : w.steer.takeItems.state = .locked := by
    have h : w.steer.state = .locked := by rw [markReferences_steer_of]; exact hlocked
    exact h
  have hdecide : (w.withSteer w.steer.takeItems).decideState (markStart first s).selectionChanges (some g) =
      (w.withSteer w.steer.takeItems).withSteer { w.steer.takeItems with eHeld := some g.e } := by
    have hdecideLocked : (w.withSteer w.steer.takeItems).decideState (markStart first s).selectionChanges (some g) =
        (w.withSteer w.steer.takeItems).decideLocked (some g) := by
      unfold State.decideState
      simp only [State.withSteer_steer, hwlocked]
    rw [hdecideLocked]
    unfold State.decideLocked
    split
    · rename_i hnone
      exact absurd (hsel.symm.trans hnone) nofun
    · exact rfl
  have hsteered : markSteered first s = w.markSteer (markStart first s).selectionChanges (some g) := by
    rw [← hgood]
    rfl
  have hstate := markSteer_state w (markStart first s).selectionChanges (some g)
  have hkept (x : State) (hx : (w.withSteer w.steer.takeItems).decideState (markStart first s).selectionChanges (some g) = x) :
      (w.markSteer (markStart first s).selectionChanges (some g)).trail = x.trail ∧
      (w.markSteer (markStart first s).selectionChanges (some g)).leap = x.leap ∧
      (w.markSteer (markStart first s).selectionChanges (some g)).segs = x.segs := by
    rw [← hx]
    exact ⟨rfl, rfl, rfl⟩
  obtain ⟨htrail, hleap, hsegs⟩ := hkept _ hdecide
  rw [hsteered, markSteer_selection]
  exact ⟨hstate.trans ((congrArg (fun x : State => x.steer.state) hdecide).trans hwlocked), hsel, htrail, hleap, hsegs⟩

/-- The leap record and the segments that a mark hands over in LOCKED. -/
theorem markEvidenced_stayed {first : Bool} {s : State} {g : Measure} {r : RefId} (hlocked : s.steer.state = .locked)
    (hgood : (markStart first s).markGood = some g) (hsel : (markStart first s).markReferences.steer.selection = some r) :
    let y := markEvidenced first s
    y.steer.state = .locked ∧ y.steer.selection = some r ∧ y.segs = s.segs ∧ y.now = s.now ∧
      y.refs = (markStart first s).markReferences.refs ∧ y.leap = { s.leap with
        announced := if s.steer.selection = some r then s.leap.announced else .unknown } := by
  intro y
  obtain ⟨hstate, hselection, -, hleap, hsegs⟩ := markSteered_stayed hlocked hgood hsel
  have hevidence : State.differsIn [.trail, .ports, .lastCause] (markSteered first s) y :=
    (markReported_frame first s).trans ((State.evidenceStage_frame _ _).mono (by decide))
  have hsteer : y.steer = (markSteered first s).steer := hevidence .steer (by decide)
  have hstart := markStart_frame first s
  have hstartLeap : (markStart first s).leap = s.leap := hstart .leap (by decide)
  have hstartSteer : (markStart first s).steer = s.steer := hstart .steer (by decide)
  have hnew : (markStart first s).handOver.newSelection = some r := by
    rw [← hsel, State.markReferences_steer]
  refine ⟨by rw [hsteer]; exact hstate, by rw [hsteer]; exact hselection, ?_, ?_, ?_, ?_⟩
  · exact (hevidence .segs (by decide)).trans (hsegs.trans
      ((State.markReferences_frame _ .segs (by decide)).trans (hstart .segs (by decide))))
  · exact (congrArg (fun c : XtCounter => (c.ns : Int)) (hevidence .xt (by decide))).trans (markSteered_now first s)
  · exact (hevidence .refs (by decide)).trans (State.markSteer_frame _ _ _ .refs (by decide))
  · rw [(hevidence .leap (by decide) : y.leap = _), hleap, markReferences_leap, hstartLeap, hstartSteer, hnew]
    simp only [eq_comm]

/-! ## The message read (R66, R70, R72) -/

theorem announced_eq (m : Message) : m.announced = derivedAnnouncement m := by
  unfold Message.announced derivedAnnouncement
  cases m.announcement <;> rfl

theorem derivedAnnouncement_ne_unknown (m : Message) : derivedAnnouncement m ≠ .unknown := by
  unfold derivedAnnouncement
  cases m.announcement <;> exact nofun

/-- The hand-over in LOCKED reads the selected reference's last message. -/
theorem leapHandOver_of_message {y : State} {r : RefId} {g : Measure} {m : Message} (hlocked : y.steer.state = .locked)
    (hsel : y.steer.selection = some r) (hm : (y.refs.get r).lastMessage = some m) (hleap : y.leapNow ≠ .inLeap) :
    y.leapHandOver (some g) = y.readMessage m := by
  unfold State.leapHandOver
  simp only [hsel, hm]
  exact if_pos ⟨hlocked, hleap⟩

/-- What reading a message does to the leap record, the segments and the trail (R66, R67, R70, R72). -/
theorem readMessage_asked {y : State} {m : Message} (hlocked : y.steer.state = .locked) :
    let off := messageOffset y.leap m
    let delta := (off - y.leap.offset) * 1000000000
    let target := (derivedAnnouncement m).leap?
    let read := { y.leap with offset := off, announced := derivedAnnouncement m }
    (derivedAnnouncement m = y.leap.announced →
      LeapAsked (offsetEntries y.leap off .reference) y (y.readMessage m) ∧ (y.readMessage m).leap = read ∧
      ∀ i : SegId, (y.readMessage m).segs.get i = movedSegment none delta (y.segs.get i)) ∧
    (derivedAnnouncement m ≠ y.leap.announced →
      LeapAsked (offsetEntries y.leap off .reference ++ (agreedEntries y.leap.pending target off y.now .reference ++
        disagreeEntries read)) y (y.readMessage m) ∧
      (y.readMessage m).leap = { read with pending := agreedRecord y.leap.pending target off y.now .reference } ∧
      ∀ i : SegId, (y.readMessage m).segs.get i =
        agreedSegment y.leap.pending target off y.now (movedSegment none delta (y.segs.get i))) := by
  intro off delta target read
  obtain ⟨hasked, hleap, hsegs⟩ := offsetRead_asked y m
  have hnow : (offsetRead y m).now = y.now := by
    unfold offsetRead
    split_ifs
    · exact congrArg (fun c : XtCounter => (c.ns : Int)) (State.correctOffset_frame y _ _ .xt (by decide))
    · rfl
  have hstate : (offsetRead y m).steer.state = .locked := by
    unfold offsetRead
    split_ifs
    · exact (congrArg SteeringUnit.state (State.correctOffset_frame y _ _ .steer (by decide))).trans hlocked
    · exact hlocked
  have hannounced : (offsetRead y m).leap.announced = y.leap.announced := by rw [hleap]
  rw [readMessage_eq]
  refine ⟨fun hsame => ?_, fun hnew => ?_⟩
  · rw [announcementRead_of_same ((announced_eq m).trans (hsame.trans hannounced.symm))]
    refine ⟨hasked, hleap.trans ?_, hsegs⟩
    simp only [read, hsame]
    rfl
  · obtain ⟨hasked', hleap', hsegs'⟩ := announcementRead_asked hstate (m := m) (by rw [announced_eq, hannounced]; exact hnew)
    rw [announced_eq, hleap, hnow] at hasked' hleap'
    refine ⟨hasked.append hasked', hleap', fun i => ?_⟩
    rw [hsegs', hsegs, announced_eq, hleap, hnow]

/-! ## Settling the reference followed in LOCKED -/

/-- The hand-over keeps the selected reference's last message as it stood before the mark. -/
theorem marked_lastMessage {first : Bool} {s : State} {g : Measure} {r : RefId} (m : Nat)
    (hgood : (markStart first s).markGood = some g) (hsel : (markStart first s).markReferences.steer.selection = some r) :
    ((markStart first s).markReferences.refs.get r).lastMessage = (s.refs.get r).lastMessage := by
  have hrecord := marked_record first s m r
  have hselected := marked_selection first m (markStart first s)
  have hmeasured := selectedGood_marked first m s
  have hrefs := marked_refs first m (markStart first s)
  generalize markEnd first m (markStart first s).steerMark = t at *
  simp only [hmeasured.trans hgood, if_pos (hselected.trans hsel)] at hrecord
  rw [← hrefs, hrecord, clearedRecord_eq]
  rfl

/-- The disagreement of the store with a derived announcement (R70). -/
theorem disagreeEntries_derived (u : LeapUnit) (off : Int) (m : Message) :
    disagreeEntries { u with offset := off, announced := derivedAnnouncement m } = match u.store with
      | some x => if derivedAnnouncement m = .leap x then [] else
          [{ LeapEntry.blank .disagree with leap := some x, second := (derivedAnnouncement m).leap?, source := .request }]
      | none => [] := by
  have hknown := derivedAnnouncement_ne_unknown m
  unfold disagreeEntries LeapUnit.disagrees
  cases u.store with
  | none => rfl
  | some x =>
    cases hd : derivedAnnouncement m with
    | unknown => exact absurd hd hknown
    | nothing => simp
    | leap y => by_cases hxy : x = y <;> simp [hxy, eq_comm]

/-- What a mark in LOCKED hands over, and what of it stands after the mark. -/
theorem marked_handed {first : Bool} {s : State} {g : Measure} {r : RefId} {m : Message} {es : List LeapEntry} (n : Nat)
    (hlocked : s.steer.state = .locked) (hleap : s.leapNow ≠ .inLeap) (hok : s.trail.Ok) (hroom : s.trail.wIx - s.trail.k < 3800)
    (hgood : (markStart first s).markGood = some g) (hsel : (markStart first s).markReferences.steer.selection = some r)
    (hm : (s.refs.get r).lastMessage = some m)
    (hasked : LeapAsked es (markEvidenced first s) ((markEvidenced first s).readMessage m)) (hlength : es.length ≤ 4) :
    let t := markEnd first n (markStart first s).steerMark
    t.leap = ((markEvidenced first s).readMessage m).leap ∧ t.segs = ((markEvidenced first s).readMessage m).segs ∧
      leapEntriesFrom s.trail.wIx t.trail = es ∧
      ∀ e ∈ es, leapTold e.cause → ∀ p : Port, hasStatus (.leap e.cause) (t.port p) := by
  intro t
  obtain ⟨hstate, hselection, -, hnow, hrefs, hrecord⟩ := markEvidenced_stayed hlocked hgood hsel
  obtain ⟨-, -, htrail, -, -⟩ := markSteered_stayed hlocked hgood hsel
  have hmessage : ((markEvidenced first s).refs.get r).lastMessage = some m := by
    rw [hrefs, marked_lastMessage n hgood hsel, hm]
  have hnot : (markEvidenced first s).leapNow ≠ .inLeap := by
    unfold State.leapNow at hleap ⊢
    rw [hrecord, hnow]
    exact hleap
  have hread := leapHandOver_of_message (g := g) hstate hselection hmessage hnot
  have hhand : (markStart first s).steerMark = (markEvidenced first s).readMessage m := by
    rw [steerMark_eq, hgood, hread]
  have hport (p : Port) : t.port p = ((markEvidenced first s).readMessage m).port p := by
    rw [ended_port, hgood, hread]
  obtain ⟨hes, cs, hcs, htold⟩ := hasked
  have hend := markEnd_frame first n (markStart first s).steerMark
  refine ⟨?_, ?_, ?_, fun e he hc p => ?_⟩
  · exact (hend .leap (by decide)).trans (congrArg State.leap hhand)
  · exact (hend .segs (by decide)).trans (congrArg State.segs hhand)
  · exact marked_leapEntries n (ds := []) ⟨[], rfl, htrail⟩ (hhand ▸ hes) ⟨Nat.zero_le 2, hlength⟩ hok hroom
  · rw [hport]
    exact hcs.reaches (htold e he hc) p

/-- Settles O25: a mark in LOCKED takes offset and announcement from the reference. -/
theorem lockedMarkFollowsTheReference : Obligations.LockedMarkFollowsTheReference := by
  intro first s n hn hlocked hleap hok hroom
  refine ⟨markEnd first n (markStart first s).steerMark, exec_secondMark hn, ?_⟩
  intro r g m hselected hmeasured hm u off delta corrected derived target same disagree
  have hgood : (markStart first s).markGood = some g := (selectedGood_marked first n s).symm.trans hmeasured
  have hsel : (markStart first s).markReferences.steer.selection = some r :=
    (marked_selection first n (markStart first s)).symm.trans hselected
  obtain ⟨hstate, -, hsegs, hnow, -, hrecord⟩ := markEvidenced_stayed hlocked hgood hsel
  obtain ⟨hread, hreadNew⟩ := readMessage_asked (m := m) hstate
  have hmarked {es : List LeapEntry} := @marked_handed first s g r m es n hlocked hleap hok hroom hgood hsel hm
  have hoff : messageOffset (markEvidenced first s).leap m = off := by rw [hrecord]; rfl
  have hcorrected : offsetEntries (markEvidenced first s).leap off .reference = corrected := by rw [hrecord]; rfl
  have hsame : same ↔ derivedAnnouncement m = (markEvidenced first s).leap.announced := by
    rw [hrecord]
    by_cases hs : s.steer.selection = some r
    · simp only [same, hs, if_true, and_true]
      exact Iff.rfl
    · simp only [same, hs, if_false, and_false, false_iff]
      exact derivedAnnouncement_ne_unknown m
  have htarget : (derivedAnnouncement m).leap? = target := by
    simp only [target, derived]
    cases derivedAnnouncement m <;> rfl
  have hdisagree : disagreeEntries { u with offset := off, announced := derivedAnnouncement m } = disagree := by
    have hderived := disagreeEntries_derived u off m
    rw [htarget] at hderived
    exact hderived
  have hleap' : ({ (markEvidenced first s).leap with offset := off, announced := derivedAnnouncement m } : LeapUnit) =
      { u with offset := off, announced := derivedAnnouncement m } := by rw [hrecord]
  have hpending : (markEvidenced first s).leap.pending = u.pending := by rw [hrecord]
  have hoffset : (markEvidenced first s).leap.offset = u.offset := by rw [hrecord]
  rw [hoff, hcorrected, hleap', hoffset, hsegs] at hread
  rw [hoff, hcorrected, hleap', hoffset, hsegs, htarget, hpending, hnow, hdisagree] at hreadNew
  have hcorrectedLength : corrected.length ≤ 1 := hcorrected ▸ offsetEntries_length _ _ _
  have hdisagreeLength : disagree.length ≤ 1 := hdisagree ▸ disagreeEntries_length _
  by_cases h : same
  · obtain ⟨hasked, hreadLeap, hreadSegs⟩ := hread (hsame.1 h)
    obtain ⟨htleap, htsegs, hentries, htold⟩ := hmarked hasked (by omega)
    rw [htleap, htsegs, hentries, hreadLeap]
    exact ⟨rfl, rfl, rfl, fun _ => ⟨rfl, hreadSegs, rfl⟩, fun hnot => absurd h hnot, htold⟩
  · obtain ⟨hasked, hreadLeap, hreadSegs⟩ := hreadNew (hsame.not.1 h)
    have hagreed := agreedEntries_length u.pending target off s.now .reference
    obtain ⟨htleap, htsegs, hentries, htold⟩ := hmarked hasked (by simp only [List.length_append]; omega)
    rw [htleap, htsegs, hentries, hreadLeap]
    refine ⟨rfl, rfl, rfl, fun hyes => absurd hyes h, fun _ => ⟨rfl, hreadSegs, (List.append_assoc _ _ _).symm⟩, htold⟩

end Sys2Proof
end
